-- ==== Sys2Proof/Word.lean ====
section
/-!
DEFINITION. The word types of the T4: bytes, 64-bit registers and stamps (R10), 32-bit tile words (R98), 512-bit
vector payloads (R69) and 256-bit release records (R32).
-/

namespace Sys2Proof

/-- One byte. -/
abbrev Byte := BitVec 8
/-- A 64-bit register value (R10). -/
abbrev Reg := BitVec 64
/-- A tile general register (R98). -/
abbrev Word := BitVec 32
/-- A vector payload (R69). -/
abbrev Payload := BitVec 512
/-- A release record (R32). -/
abbrev Record := BitVec 256

end Sys2Proof
end

