-- ==== Sys2Proof/Syntax.lean ====
section
/-!
DEFINITION. The commands of the T4: one constructor per row of the table of operations and events, with the
row's operands, and the plain types the operands use. What a command's operands carry is what comes from outside the
block: the host's values, a link partner's words, and the physical readings (parity outcomes, temperatures, the gap
between two competing requests) that the spec leaves to the hardware's surroundings.
-/

namespace Sys2Proof

/-- R70: the kind of a token. -/
inductive TokKind where
  | data
  | mark
  | flush
  | cond
  deriving DecidableEq, Repr, Inhabited

/-- One offer of a token to a receiving stage (R436): whether its header or its payload arrives with bad parity, and,
where a competing request of the same link raced it inside one arbitration, the gap between the two requests in ps
(R86). -/
structure Offer where
  hdrBad : Bool
  payBad : Bool
  gap : Option Nat
  deriving DecidableEq, Repr, Inhabited

/-- R107: the guard of a tile instruction: `ge` in force, `gn` negated, `gp` the predicate. -/
structure Guard where
  ge : Bool
  gn : Bool
  gp : Nat
  deriving DecidableEq, Repr, Inhabited

/-- The issue of one tile instruction: the block and the physical tile whose sequencer issues it, the guard, how many
reads of the instruction word fail parity (R117: 4 is the first read and all three re-reads), and the locations of the
tile whose parity has been upset since the last instruction (R116): 0 to 15 a register, 16 the predicates, 20 + k a
counter, 24 + k a reload value, 32 + j a LUT entry. -/
structure Issue where
  block : Nat
  tile : Nat
  guard : Guard
  fetchBad : Nat
  upsets : List Nat
  deriving DecidableEq, Repr, Inhabited

/-- R109: the compare conditions in opcode order. -/
inductive Cond where
  | eq
  | ne
  | lt
  | ge
  | ltu
  | geu
  deriving DecidableEq, Repr, Inhabited

/-- R157: parity outcomes met by one step of a VU: for each word of the store in question whose parity fails, how many of
its reads fail (4 is the first read and all three re-reads), and whether the pipeline registers fail. -/
structure VuParity where
  weight : List Nat
  ucode : List Nat
  rescale : List Nat
  act : List Nat
  s2 : List Nat
  pipe : Bool
  deriving DecidableEq, Repr, Inhabited

/-- R198, R85: what one MU bank access meets: how many of its reads fail parity (4 is the first read and all three
re-reads), and the gap in ps to a competing request at the MU's port arbiter. -/
structure Access where
  fails : Nat
  gap : Option Nat
  deriving DecidableEq, Repr, Inhabited

/-- A received frame as a port decodes it (R349, R350): the header's fields as received (`flags` is bits [31:16]), the
payload, how many of its blocks the FEC corrected, which of its blocks it flagged, and whether it was cut short. -/
structure RxFrame where
  seq : Nat
  ftype : Nat
  length : Nat
  srcId : Nat
  pcrc : Nat
  flags : Nat
  hcrc : Nat
  payload : List Nat
  corrected : Nat
  flagged : List Nat
  aborted : Bool
  deriving DecidableEq, Repr, Inhabited

/-- A control block or word received on a port, and whether the FEC corrected errors in it (R346, R381). -/
structure RxBlock where
  port : Nat
  fixed : Bool
  deriving DecidableEq, Repr, Inhabited

/-- What one receive lane sees of an ALIGN block (R348): the partner lane it carries, whether it came at its expected
position, and the lane's skew in ps. -/
structure AlignMark where
  laneId : Nat
  atExpected : Bool
  skew : Nat
  deriving DecidableEq, Repr, Inhabited

/-- A block that breaks the block rules outside any frame (R366). -/
inductive BadBlock where
  | uncorrectable
  | badHeader
  | reservedType
  | strayData
  deriving DecidableEq, Repr, Inhabited

/-- R218: what a read of device memory meets: whether it is uncorrectable, and how many errors it corrects. -/
structure LpRead where
  bad : Bool
  corrected : Nat
  deriving DecidableEq, Repr, Inhabited

/-- R206, R218: what one window read of the data port meets: as LPDDR5X `lp`; as vat words, how often words are read again,
and which of the returned units lie in a word that fails every attempt. -/
structure ServiceRead where
  lp : LpRead
  rereads : Nat
  zeroed : List Nat
  deriving DecidableEq, Repr, Inhabited

/-- COPY: the task's descriptor index, and what reading its source meets where that is the vat (R206): how often words are
read again, and which words, counted from the source, fail every attempt. -/
structure CopyRun where
  idx : Nat
  rereads : Nat
  zeroed : List Nat
  deriving DecidableEq, Repr, Inhabited

/-- R225, R226: what a march finds: the rows that the test fails, and the words of an MU that fail as a preserving march copies
their rows. -/
structure MarchFails where
  rows : List Nat
  words : List Nat
  deriving DecidableEq, Repr, Inhabited

/-- R530: what holds the device in reset. -/
inductive ResetSource where
  | resetN
  | perstN
  | cxl (keep : Bool)
  deriving DecidableEq, Repr, Inhabited

/-- R393: how the host link has trained: as PCIe rather than CXL, at a rate in MT/s, over so many lanes. -/
structure LinkMode where
  fallback : Bool
  rate : Nat
  width : Nat
  deriving DecidableEq, Repr, Inhabited

/-- R542, R543: what boot steps 1 to 10 meet: whether flash responds, the PUF response can be corrected, the device record
passes its CRC-64, LPDDR5X passes its training, and the link comes up, and how; the rows that the boot
march fails, by unit; and the end of each step in µs. -/
structure BootInput where
  flashOk : Bool
  pufOk : Bool
  recordOk : Bool
  lpOk : Bool
  linkUp : Bool
  link : LinkMode
  rows : List (Nat × List Nat)
  ends : List Nat
  deriving DecidableEq, Repr, Inhabited


/-- The commands, one constructor per row of the table of operations and events, in its order. -/
inductive Instr where
  /-- REGISTER_WRITE (R11). A host write to a register that has no row of its own sets fields by access code, is dropped for BLK_ configuration, or is refused for bad size, alignment or a reserved offset. -/
  | registerWrite (addr : Nat) (size : Nat) (data : Nat)
  /-- FRAME_BOUNDARY (R17). Boundary n falls on the first tick at or after A + n × P; the stamp stage takes frames, stamps, checks sequence, writes the vat and injects or drops the frame. -/
  | frameBoundary
  /-- FRAME_ELIGIBLE (R19). A port's alignment delay expires, the assembled frame becomes eligible, and a third eligible frame discards the oldest. -/
  | frameEligible (p : Nat)
  /-- LOOKBACK_DELIVERY (R207). For an injected frame the vat reads a look-back window and sends its units as DATA tokens on the AGU's vector source, one per tick into its buffer. -/
  | lookbackDelivery (b : Nat) (a : Nat) (bad : List Nat) (rereads : Nat)
  /-- RESULT_ARRIVAL (R25). A result leaves the 16-tick void guard; the rind updates slack and either holds it, releases LATE, or treats it as duplicate or orphan. -/
  | resultArrival (e : Nat)
  /-- FAULT_NOTICE (R433). A fault notice reaches the root: its ESQ joins the void set, it merges into or opens a ledger entry, and a frame past its deadline is released VOID. -/
  | faultNotice (k : Nat)
  /-- TIE_REPORT (R86). A tie report reaches the rind and adds to TIE_DELTA of the frame on every stream not yet released. -/
  | tieReport (k : Nat)
  /-- DEADLINE (R27). A frame's deadline tick on a stream releases its record, preceded by any EPOCH_MARK, per the release table and late policy. -/
  | deadline (s : Nat) (esq : Nat)
  /-- HORIZON (R29). A frame reaches its horizon without a record: VOID released, RESULT_TIMEOUT ledgered, segment break requested. -/
  | horizon (s : Nat) (esq : Nat)
  /-- TIME_BASE_LOSS (R39). Loss of REFCLK or time unit failure: no further frames enter, tick runs on holdover, time outputs and schedule stop. -/
  | timeBaseLoss
  /-- HOLDOVER_END (R39). At the last stamped frame's deadline every frame without a record is released VOID as TIME_LOSS and the rind stops. -/
  | holdoverEnd
  /-- RIND_COUNT_CLEAR (R40). Writing COUNT_CLEAR clears the rind's drop, error, port and kind counters. -/
  | rindCountClear
  /-- SLACK_CLEAR (R40). Writing SLACK_CLEAR resets slack minima, MARGIN_MIN and histograms. -/
  | slackClear
  /-- CLOSE_INPUTS (R22). Writing CLOSE_INPUTS closes or reopens inputs from the next boundary. -/
  | closeInputs (v : Bool)
  /-- STAMP_SEL_WRITE (R47). A write of RIND_STAMP_SEL snapshots the selected stamp-table entry into the RIND_STAMP registers. -/
  | stampSelWrite (esq : Nat)
  /-- STREAM_CFG_WRITE (R29). A write of RIND_STREAM_CFG in IDLE, LOADED or ARMED sets its fields and in ARMED recomputes EFFECTIVE_HORIZON. -/
  | streamCfgWrite (s : Nat) (v : Nat)
  /-- TOKEN_TRANSFER (R72). A stage offers a token and an empty receiver checks parity and accepts it, or asks for a replay. -/
  | tokenTransfer (b : Nat) (net : Nat) (i : Nat) (o : Offer)
  /-- TURN_MON_WINDOW (R91). Each 1 µs window updates each domain's replica ring TURN_RATE and TURN_RATE_MIN. -/
  | turnMonWindow (rates : List Nat)
  /-- TURN_MIN_CLEAR (R88). Writing TURN_MIN_CLEAR resets every TURN_RATE_MIN. -/
  | turnMinClear
  /-- TIE_COUNT_CLEAR (R88). Writing TIE_COUNT_CLEAR clears FAB_TIE_COUNT. -/
  | tieCountClear
  /-- TILE_FIRING_START (R103). The descriptor at the current position finds all its port heads present and starts a firing, checking head ESQs. -/
  | tileFiringStart (b : Nat) (t : Nat) (f : Nat) (gap : Option Nat)
  /-- NOP (R109). Tile instruction NOP does nothing for one turn. -/
  | nop (x : Issue)
  /-- END (R105). END consumes unreceived trigger tokens and completes the firing, advancing the descriptor position. -/
  | end_ (x : Issue)
  /-- BR (R109). BR sets pc to the target. -/
  | br (x : Issue) (target : Nat)
  /-- LOOP (R111). LOOP decrements a non-zero counter and branches. -/
  | loop (x : Issue) (ck : Nat) (target : Nat)
  /-- ADD (R109). ADD writes ra + rb modulo 2^32. -/
  | add (x : Issue) (rd : Nat) (ra : Nat) (rb : Nat)
  /-- SUB (R109). SUB writes ra − rb modulo 2^32. -/
  | sub (x : Issue) (rd : Nat) (ra : Nat) (rb : Nat)
  /-- AND (R109). AND writes the bitwise and. -/
  | and_ (x : Issue) (rd : Nat) (ra : Nat) (rb : Nat)
  /-- OR (R109). OR writes the bitwise or. -/
  | or_ (x : Issue) (rd : Nat) (ra : Nat) (rb : Nat)
  /-- XOR (R109). XOR writes the bitwise exclusive or. -/
  | xor_ (x : Issue) (rd : Nat) (ra : Nat) (rb : Nat)
  /-- SHL (R109). SHL shifts left by rb[4:0]. -/
  | shl (x : Issue) (rd : Nat) (ra : Nat) (rb : Nat)
  /-- SHR (R109). SHR shifts right with zero fill. -/
  | shr (x : Issue) (rd : Nat) (ra : Nat) (rb : Nat)
  /-- SRA (R109). SRA shifts right with sign fill. -/
  | sra (x : Issue) (rd : Nat) (ra : Nat) (rb : Nat)
  /-- ADDS (R110). ADDS writes the signed sum saturated to 32 bits. -/
  | adds (x : Issue) (rd : Nat) (ra : Nat) (rb : Nat)
  /-- SUBS (R110). SUBS writes the signed difference saturated to 32 bits. -/
  | subs (x : Issue) (rd : Nat) (ra : Nat) (rb : Nat)
  /-- MIN (R109). MIN writes the signed smaller operand. -/
  | min_ (x : Issue) (rd : Nat) (ra : Nat) (rb : Nat)
  /-- MAX (R109). MAX writes the signed larger operand. -/
  | max_ (x : Issue) (rd : Nat) (ra : Nat) (rb : Nat)
  /-- MINU (R109). MINU writes the unsigned smaller operand. -/
  | minu (x : Issue) (rd : Nat) (ra : Nat) (rb : Nat)
  /-- MAXU (R109). MAXU writes the unsigned larger operand. -/
  | maxu (x : Issue) (rd : Nat) (ra : Nat) (rb : Nat)
  /-- MUL (R109). MUL writes the signed product of the low 16 bits. -/
  | mul (x : Issue) (rd : Nat) (ra : Nat) (rb : Nat)
  /-- MULU (R109). MULU writes the unsigned product of the low 16 bits. -/
  | mulu (x : Issue) (rd : Nat) (ra : Nat) (rb : Nat)
  /-- ADDI (R109). ADDI adds a sign-extended 14-bit immediate. -/
  | addi (x : Issue) (rd : Nat) (ra : Nat) (imm : Nat)
  /-- ANDI (R109). ANDI ands with a zero-extended immediate. -/
  | andi (x : Issue) (rd : Nat) (ra : Nat) (imm : Nat)
  /-- ORI (R109). ORI ors with a zero-extended immediate. -/
  | ori (x : Issue) (rd : Nat) (ra : Nat) (imm : Nat)
  /-- XORI (R109). XORI exclusive-ors with a zero-extended immediate. -/
  | xori (x : Issue) (rd : Nat) (ra : Nat) (imm : Nat)
  /-- SHLI (R109). SHLI shifts left by an immediate. -/
  | shli (x : Issue) (rd : Nat) (ra : Nat) (n : Nat)
  /-- SHRI (R109). SHRI shifts right by an immediate with zero fill. -/
  | shri (x : Issue) (rd : Nat) (ra : Nat) (n : Nat)
  /-- SRAI (R109). SRAI shifts right by an immediate with sign fill. -/
  | srai (x : Issue) (rd : Nat) (ra : Nat) (n : Nat)
  /-- MOVI (R109). MOVI loads a sign-extended 18-bit immediate. -/
  | movi (x : Issue) (rd : Nat) (imm : Nat)
  /-- MOVHI (R109). MOVHI sets the upper 16 bits of a register. -/
  | movhi (x : Issue) (rd : Nat) (imm : Nat)
  /-- EXTU (R109). EXTU extracts a zero-extended bit field. -/
  | extu (x : Issue) (rd : Nat) (ra : Nat) (pos : Nat) (len : Nat)
  /-- EXTS (R109). EXTS extracts a sign-extended bit field. -/
  | exts (x : Issue) (rd : Nat) (ra : Nat) (pos : Nat) (len : Nat)
  /-- INS (R109). INS inserts a bit field into a register. -/
  | ins (x : Issue) (rd : Nat) (ra : Nat) (pos : Nat) (len : Nat)
  /-- POPC (R109). POPC writes the number of ones. -/
  | popc (x : Issue) (rd : Nat) (ra : Nat)
  /-- CLZ (R109). CLZ writes the count of leading zeros. -/
  | clz (x : Issue) (rd : Nat) (ra : Nat)
  /-- SEL (R109). SEL picks ra or rb by a predicate. -/
  | sel (x : Issue) (rd : Nat) (ra : Nat) (rb : Nat) (ps : Nat)
  /-- RGET (R109). RGET reads a register named by a register. -/
  | rget (x : Issue) (rd : Nat) (ra : Nat)
  /-- RPUT (R109). RPUT writes a register named by a register. -/
  | rput (x : Issue) (ra : Nat) (rb : Nat)
  /-- LUT (R109). LUT reads a zero-extended lookup table entry. -/
  | lut (x : Issue) (rd : Nat) (ra : Nat)
  /-- LUTS (R109). LUTS reads a sign-extended lookup table entry. -/
  | luts (x : Issue) (rd : Nat) (ra : Nat)
  /-- LUTW (R109). LUTW writes a lookup table entry. -/
  | lutw (x : Issue) (ra : Nat) (rb : Nat)
  /-- CMP_CC (R109). CMP.cc writes a predicate from comparing two registers. -/
  | cmpCc (x : Issue) (cc : Cond) (pd : Nat) (ra : Nat) (rb : Nat)
  /-- CMPI_CC (R110). CMPI.cc writes a predicate from comparing a register with an immediate. -/
  | cmpiCc (x : Issue) (cc : Cond) (pd : Nat) (ra : Nat) (imm : Nat)
  /-- PLOG (R109). PLOG computes a predicate by truth table of two predicates. -/
  | plog (x : Issue) (pd : Nat) (pa : Nat) (pb : Nat) (fn : Nat)
  /-- PGET (R109). PGET copies the predicates into a register. -/
  | pget_ (x : Issue) (rd : Nat)
  /-- PPUT (R109). PPUT sets the predicates from a register. -/
  | pput_ (x : Issue) (ra : Nat)
  /-- CLDI (R109). CLDI loads a counter from an immediate. -/
  | cldi (x : Issue) (ck : Nat) (imm : Nat)
  /-- CLD (R109). CLD loads a counter from a register. -/
  | cld (x : Issue) (ck : Nat) (ra : Nat)
  /-- CGET (R109). CGET copies a counter into a register. -/
  | cget (x : Issue) (rd : Nat) (ck : Nat)
  /-- CSTEP (R112). CSTEP decrements or reloads a counter and sets the pulse predicate. -/
  | cstep (x : Issue) (ck : Nat) (pd : Nat)
  /-- RECV (R113). RECV waits for and consumes the head token of a port, checks its ESQ, or aborts the firing on FLUSH. -/
  | recv (x : Issue) (rd : Nat) (port : Nat) (pe : Bool) (pd : Nat)
  /-- SEND (R114). SEND waits for an empty output stage and sends a DATA token with the firing ESQ. -/
  | send (x : Issue) (port : Nat) (ra : Nat)
  /-- SEND_M (R114). SEND.M sends a MARK token. -/
  | sendM (x : Issue) (port : Nat) (ra : Nat)
  /-- SENDC (R114). SENDC sends a COND token carrying a predicate on ctl-out. -/
  | sendc (x : Issue) (ps : Nat)
  /-- TILE_FLUSH (R106). When every used input holds FLUSH the tile consumes them and sends FLUSH on every used output. -/
  | tileFlush (b : Nat) (t : Nat)
  /-- FAILED_UNIT_CONSUME (R118). A unit in failed mode consumes a token reaching a used input, sending a notice for each new ESQ. -/
  | failedUnitConsume (unit : Nat) (input : Nat)
  /-- STEER (R119). An SU in STEER takes the condition and data 0 and forwards data to output c, or the default on mismatch. -/
  | steer (b : Nat) (u : Nat)
  /-- MERGE_BOTH (R119). An SU in MERGE BOTH takes condition and both data tokens and forwards input c. -/
  | mergeBoth (b : Nat) (u : Nat)
  /-- MERGE_SELECTED (R119). An SU in MERGE SELECTED takes the condition then only data input c and forwards it. -/
  | mergeSelected (b : Nat) (u : Nat)
  /-- JOIN (R119). An SU in JOIN pairs data 0 and data 1 and offers them on both outputs together. -/
  | join (b : Nat) (u : Nat)
  /-- SU_FLUSH (R121). When all used SU inputs hold FLUSH it consumes them and sends FLUSH on used outputs. -/
  | suFlush (b : Nat) (u : Nat)
  /-- VU_CYCLE_START (R150). A VU begins a program cycle at step 0 and first updates each S2 slot from the previous cycle's evidence. -/
  | vuCycleStart (unit : Nat) (bad : VuParity)
  /-- VU_ROW_INTAKE (R151). A repetition takes its row and scale token, initialises accumulators and runs its MAC turns. -/
  | vuRowIntake (unit : Nat) (bad : VuParity)
  /-- END_OF_ACCUMULATION (R144). At the end of an accumulation stage 1 combines both stages and any chained partial. -/
  | endOfAccumulation (unit : Nat) (bad : VuParity)
  /-- VU_TRANSFORM (R145). Stage 2 rescales, applies the elementwise operation and the Hadamard rotation. -/
  | vuTransform (unit : Nat) (bad : VuParity)
  /-- VU_OUTPUT (R151). Stage 3 applies the activation, quantises or reduces, and sends row, scale and reduction tokens. -/
  | vuOutput (unit : Nat) (bad : VuParity)
  /-- VU_FLUSH (R159). When every used VU input holds FLUSH it consumes them, sends FLUSH and returns to step 0. -/
  | vuFlush (unit : Nat)
  /-- AGU_READ (R193). A READ trigger sends COUNT words or elements from the region and may advance PTR. -/
  | aguRead (b : Nat) (a : Nat) (x : Access)
  /-- AGU_WRITE (R193). A WRITE token is written into the region and PTR advances after each group. -/
  | aguWrite (b : Nat) (a : Nat) (x : Access)
  /-- AGU_WINDOW (R193). A WINDOW token is written at PTR and COUNT older entries are sent back. -/
  | aguWindow (b : Nat) (a : Nat) (x : Access)
  /-- REQUEST_READ (R194). A REQUEST READ word sends the element as a reply. -/
  | requestRead (b : Nat) (a : Nat) (x : Access)
  /-- REQUEST_WRITE (R194). A REQUEST WRITE word writes the next token at the sink, checking its ESQ. -/
  | requestWrite (b : Nat) (a : Nat) (x : Access)
  /-- REQUEST_ADD (R194). A REQUEST ADD word adds an increment to the element in one read-modify-write. -/
  | requestAdd (b : Nat) (a : Nat) (x : Access)
  /-- FETCH (R221). A DQ FETCH reads an LPDDR5X word into an inbound entry. -/
  | fetch (b : Nat)
  /-- FETCH_COMPLETE (R221). A fetched word arrives in its inbound entry and releases any waiting WAIT. -/
  | fetchComplete (b : Nat) (tag : Nat) (x : LpRead)
  /-- WAIT (R221). A DQ WAIT sends an inbound entry's word as a vector token once it has arrived. -/
  | wait (b : Nat)
  /-- POST (R221). A DQ POST writes the next vector token to an LPDDR5X word. -/
  | post (b : Nat)
  /-- MU_FLUSH (R200). When every used MU input holds FLUSH it consumes them and sends FLUSH on the AGU sources in use. -/
  | muFlush (b : Nat)
  /-- CURD_RECORD (R211). The curd engine takes a record, matches rules 0 to 15 and queues one capture or drops it on a full queue. -/
  | curdRecord
  /-- CURD_SLOT_READ (R214). The engine starts reading a written slot once its buffer has room, or marks the frame lost if overwrite is near. -/
  | curdSlotRead (bad : List Nat) (rereads : Nat)
  /-- CURD_CAPTURE_COMPLETE (R215). A capture's copies end: data, bitmap and header written and WR advanced, or truncated. -/
  | curdCaptureComplete
  /-- CURD_ENABLE_WRITE (R237). A write of VAT_CURD_CTRL ENABLE turns the engine on, refused with BAD_STORE outside a curd store region. -/
  | curdEnableWrite (v : Bool)
  /-- CURD_COUNT_CLEAR (R237). Writing COUNT_CLEAR clears VAT_CURD_STAT and CAPTURES. -/
  | curdCountClear
  /-- CURD_AREA_WRITE (R238). A write of VAT_CURD_AREA while disabled sets the store and resets WR and RD. -/
  | curdAreaWrite (v : Nat)
  /-- CURD_RD_WRITE (R239). A write of RD advances the consumer offset or is ignored if out of span. -/
  | curdRdWrite (v : Nat)
  /-- CURD_RULE_WRITE (R212). A rule write sets the rule and clamps PRE_FRAMES and POST_FRAMES to 64 µs. -/
  | curdRuleWrite (r : Nat) (v : Nat)
  /-- MEMORY_WAKE (R224). A memory in retention completes its wake and waiting accesses proceed. -/
  | memoryWake (mem : Nat)
  /-- GRAPH_SUBMIT (R280). A write of RCE_SUBMIT checks and accepts a task graph or refuses it as MALFORMED, ADDRESS or BUSY. -/
  | graphSubmit (tag : Nat) (tasks : Nat)
  /-- TASK_DISPATCH (R274). A task whose predecessors are final is dispatched, or given SKIPPED, and run tasks start one at a time. -/
  | taskDispatch (slot : Nat) (idx : Nat)
  /-- GRAPH_ABORT (R275). Writing ABORT gives ABORTED to every task of the graph not yet started. -/
  | graphAbort (slot : Nat)
  /-- LOAD (R259). LOAD checks the image in code order and configures the device to LOADED or refuses it. -/
  | load (slot : Nat) (idx : Nat)
  /-- UNLOAD (R265). UNLOAD returns the device from LOADED or DRAINED to IDLE. -/
  | unload (slot : Nat) (idx : Nat)
  /-- ARM (R266). ARM wakes memories, installs banks, sets state, applies seeds, ends old captures, divides the vat and registers RUN_CTX. -/
  | arm (slot : Nat) (idx : Nat)
  /-- START (R308). START writes the run-start entry 255 and resolves relative schedule entries, completing at boundary 0. -/
  | start (slot : Nat) (idx : Nat)
  /-- STOP (R269). STOP closes inputs, flushes and drains the run towards DRAINED. -/
  | stop (slot : Nat) (idx : Nat)
  /-- SEGMENT_BREAK (R267). A SEGMENT_BREAK task requests or joins a break and completes when it is reached. -/
  | segmentBreak (slot : Nat) (idx : Nat)
  /-- SEGMENT_OPEN (R268). SEGMENT_OPEN releases task holds and completes at the first boundary of the new segment. -/
  | segmentOpen (slot : Nat) (idx : Nat)
  /-- INSTALL (R271). INSTALL copies a bank into a slot's weight stores in a break with a new RUN_CTX. -/
  | install (slot : Nat) (idx : Nat)
  /-- REGISTER_BANK (R257). REGISTER_BANK enters a bank into the library index with its digests. -/
  | registerBank (slot : Nat) (idx : Nat)
  /-- MARCH (R225). MARCH runs a destructive or preserving march test on a memory and repairs rows. -/
  | march (slot : Nat) (idx : Nat) (x : MarchFails)
  /-- COPY (R276). COPY moves data between device addresses. -/
  | copy (slot : Nat) (run : CopyRun)
  /-- TASK_NOP (R276). The NOP task completes at once. -/
  | taskNop (slot : Nat) (idx : Nat)
  /-- BREAK_REACHED (R267). FLUSHED is set and every injected frame has released its records, so the break is reached. -/
  | breakReached
  /-- DRAIN_TIMEOUT (R267). FLUSHED not set within 1 ms: DRAIN_FAILED, failure snapshot, run reset and QUIESCING. -/
  | drainTimeout
  /-- DRAINED_REACHED (R269). FLUSHED is set and every stamped frame has settled, so the run reaches DRAINED. -/
  | drainedReached
  /-- RELOCATION (R449). Firmware recovery at a reached break relocates figures of failed units, reloads them and releases its hold, or declares CAPACITY_LOST. -/
  | relocation (fails : List Nat) (bad : List (Nat × Nat))
  /-- LOAD_CFG_WRITE (R281). A write of MARGIN_PCT sets the arrival margin, clamped at 50. -/
  | loadCfgWrite (v : Nat)
  /-- CHAR_QUERY_WRITE (R283). A write of VFLOOR_MV makes TWC_PS show the worst-case turn time. -/
  | charQueryWrite (v : Nat)
  /-- SERVO_UPDATE (R291). At each update interval the time unit measures offset and adjusts f, sets LOCKED, switches sources or opens an epoch. -/
  | servoUpdate
  /-- REVERT_TO_PRIMARY (R301). After the primary has been valid for 1 s with REVERT set the time unit switches back. -/
  | revertToPrimary
  /-- PPS_IN_EDGE (R292). A PPS_IN rising edge is accepted as an update or rejected with PPS_REJECT. -/
  | ppsInEdge (sub : Nat)
  /-- TIME (R295). A TIME control block is received: CRC checked, path and offset computed, pending step handled. -/
  | time (p : RxBlock) (sym : Nat) (rx : Nat)
  /-- STEP (R299). A STEP control block is received and records, replaces or forwards a pending step. -/
  | step (p : RxBlock) (sym : Nat)
  /-- TIME_SYMBOL_SEND (R294). Every 1 µs each TIME_TX PEER port sends a time symbol. -/
  | timeSymbolSend (p : Nat)
  /-- STEP_SYMBOL_SEND (R299). While a step is pending, a step symbol is sent every 1 µs on every TIME_TX port. -/
  | stepSymbolSend (p : Nat)
  /-- SOURCE_LOSS (R293). No valid symbol for 8 µs or no PPS edge for 1.5 s: SOURCE_LOST set, f_p held at zero. -/
  | sourceLoss
  /-- STEP_AT_REACHED (R300). With the sequencer stopped, the pending opening takes effect in the first tick at or after STEP_AT. -/
  | stepAtReached
  /-- RESYNC (R297). Writing RESYNC opens an epoch onto the source's epoch, or is refused with RESYNC_REFUSED. -/
  | resync
  /-- TIME_SET (R323). A write of TU_TIME_SET sets the time or opens an announced epoch. -/
  | timeSet (ns : Nat)
  /-- TIME_READ (R317). A read of TU_TIME latches fraction and epoch into TU_TIME_FRAC. -/
  | timeRead
  /-- TU_COUNT_CLEAR (R315). Writing COUNT_CLEAR clears every TU_ counter except OPENINGS. -/
  | tuCountClear
  /-- SCHED_WRITE (R302). CMD WRITE commits staging into a host entry and arms it, or sets REJECT. -/
  | schedWrite (i : Nat)
  /-- SCHED_READ (R333). CMD READ copies an entry into the staging registers. -/
  | schedRead (i : Nat)
  /-- SCHED_CANCEL (R333). CMD CANCEL disables an entry without a report. -/
  | schedCancel (i : Nat)
  /-- SCHED_EVENT_POP (R333). Writing POP removes the head of the schedule event queue. -/
  | schedEventPop
  /-- SCHEDULE_FIRE (R303). An armed entry reaches its time, fires its action, and moves on by its period or reports past due. -/
  | scheduleFire (i : Nat)
  /-- TRGOUT_EDGE (R312). A TRGOUT record or schedule edge, or the end of its pulse width, changes the line. -/
  | trgoutEdge (t : Nat)
  /-- TCAP_EDGE (R313). A selected TCAP edge is captured with its time and epoch, or counted as missed or overflow. -/
  | tcapEdge (i : Nat) (falling : Bool) (sub : Nat)
  /-- TCAP_POP (R330). Writing POP removes the head TCAP capture. -/
  | tcapPop (i : Nat)
  /-- PPS_OUT_EDGE (R314). PPS_OUT rises at each whole second and falls after PPS_WIDTH_US. -/
  | ppsOutEdge
  /-- FRAME_ASSEMBLED (R349). A port finishes decoding a frame, checks header, length and CRC, and passes it on or counts a violation. -/
  | frameAssembled (p : Nat) (f : RxFrame)
  /-- PROTO_ERR_DEFERRED (R367). 1 µs after a PROTO_ERR, one PROTO_ERR for the deferred violations is sent with MORE. -/
  | protoErrDeferred (p : Nat)
  /-- QUARANTINE_PROTO_ERR (R369). Every 1 ms a quarantined port sends PROTO_ERR with CODE 15. -/
  | quarantineProtoErr (p : Nat)
  /-- VIOLATION_WINDOW_END (R369). A violation window closes after WINDOW_US. -/
  | violationWindowEnd (p : Nat)
  /-- ALIGN (R348). An ALIGN block is received and used to identify and deskew lanes and stamp time. -/
  | align (p : RxBlock) (lane : Nat) (m : AlignMark)
  /-- ALIGN_SEND (R348). A sender sends an ALIGN block after every 767 other blocks. -/
  | alignSend (p : Nat)
  /-- CREDIT (R360). A CREDIT block raises the port's CREDIT by GRANT, or is a CREDIT violation. -/
  | credit (p : RxBlock) (grant : Nat)
  /-- IDLE_ENTER (R365). An IDLE_ENTER block puts a Peust 2 or 3 port into IDLE. -/
  | idleEnter (p : RxBlock)
  /-- RETRAIN_REQ (R364). A received RETRAIN_REQ drops the link and starts a new set of attempts. -/
  | retrainReq (p : RxBlock)
  /-- RETRY (R354). A Peust 1 RETRY word makes the T4 replay frames from that SEQ, or is a RETRY violation. -/
  | retry (p : Nat) (seq : Nat)
  /-- PORT_RECORD_SEND (R355). A port sends its next queued record as a RECORD block or frame. -/
  | portRecordSend (p : Nat)
  /-- RESULT_FRAME_SEND (R357). A PEER port with RESULT_EN sends a RESULT frame for each released frame record. -/
  | resultFrameSend (p : Nat)
  /-- CAPTURE_SEGMENT_SEND (R359). A READOUT port sends the next CAPTURE frame block as credit allows. -/
  | captureSegmentSend (p : Nat)
  /-- CREDIT_TIMEOUT (R359). A port waiting more than 1 ms for credit loses the capture. -/
  | creditTimeout (p : Nat)
  /-- SIGNAL_DETECT (R361). Signal and clock lock on all four lanes moves DETECT to NEGOTIATE. -/
  | signalDetect (p : Nat)
  /-- TRAIN (R362). A TRAIN word is received in NEGOTIATE, leading to agreement, VERSION failure or OWN_LIGHT. -/
  | train (p : Nat) (w : Nat)
  /-- EQUALISE_DONE (R361). Every lane holds its error target for 1 ms and the port moves to ALIGN. -/
  | equaliseDone (p : Nat) (taps : List Nat)
  /-- ALIGN_DONE (R361). Lanes identified and deskewed; the port enters ACTIVE. -/
  | alignDone (p : Nat)
  /-- TRAIN_TIMEOUT (R363). A training state times out, failing the attempt, or after three attempts the port enters DOWN. -/
  | trainTimeout (p : Nat)
  /-- DARK_END (R363). 10 ms after a failed attempt the next attempt starts at DETECT. -/
  | darkEnd (p : Nat)
  /-- DOWN_RETRY (R363). With AUTO_RETRY a DOWN port attempts on signal detect or 1 s after entering DOWN. -/
  | downRetry (p : Nat) (signal : Bool)
  /-- LINK_DROP (R364). Loss of signal, uncorrectable blocks or missing ALIGN drops the link and starts new attempts. -/
  | linkDrop (p : Nat) (loss : Bool)
  /-- IDLE_EXIT (R365). A training burst is received in IDLE, lock and deskew regained, and the port returns to ACTIVE. -/
  | idleExit (p : Nat)
  /-- IDLE_TIMEOUT (R365). IDLE longer than 100 ms, or no exit within 100 µs of signal, drops the link. -/
  | idleTimeout (p : Nat) (signal : Bool)
  /-- LASER_MEASURE (R374). Every 1 ms each laser source's power is measured and WARN, ALARM and LOS set or cleared. -/
  | laserMeasure (k : Nat) (power : Nat)
  /-- MARGIN_WARN (R375). Each 1 ms window sets MARGIN_WARN when corrected bits exceed a 1e-5 ratio. -/
  | marginWarn (p : Nat) (bits : List Nat)
  /-- RETRAIN (R363). Writing RETRAIN starts a new set of three attempts. -/
  | retrain (p : Nat)
  /-- IDLE_REQ (R365). Setting IDLE_REQ sends IDLE_ENTER and goes dark; clearing it begins the exit burst. -/
  | idleReq (p : Nat) (v : Bool)
  /-- LOG_POP (R368). Writing LOG_POP removes the port's head event log entry. -/
  | logPop (p : Nat)
  /-- PL_COUNT_CLEAR (R377). Writing COUNT_CLEAR clears the port's counters. -/
  | plCountClear (p : Nat)
  /-- TEST_SETTING_WRITE (R371). Writing a pattern or LOOPBACK enters or leaves TEST. -/
  | testSettingWrite (p : Nat) (lane : Nat) (v : Nat)
  /-- SLIP (R372). Writing SLIP in TEST delays the lane's word boundary by one bit or symbol. -/
  | slip (p : Nat) (lane : Nat)
  /-- INJECT_ONE (R371). Writing INJECT_ONE flips one bit in the next block or word sent. -/
  | injectOne (p : Nat) (lane : Nat)
  /-- CXL_MEM_READ (R399). A host CXL.mem read returns LPDDR5X data, poisoned on an uncorrectable error. -/
  | cxlMemRead (addr : Nat) (x : LpRead)
  /-- CXL_MEM_WRITE (R399). A host CXL.mem write is stored, or discarded and counted in a protected region. -/
  | cxlMemWrite (addr : Nat) (bytes : List Nat)
  /-- SNOOP (R393). A CXL.cache snoop is answered with RspIHitI. -/
  | snoop (addr : Nat)
  /-- HDM_COMMIT (R394). The host commits the HDM decoder; without back-invalidate the T4 rejects it. -/
  | hdmCommit (bi : Bool)
  /-- CXL_LINK_DOWN (R418). The CXL link goes down: data port aborts, entries held, LINK_DOWN_SEEN set. -/
  | cxlLinkDown
  /-- CXL_LINK_UP (R418). The link returns and held entries are written in order. -/
  | cxlLinkUp (m : LinkMode)
  /-- DP_START (R401). Writing START begins a data port burst, or is refused with UNITS or BUSY. -/
  | dpStart (v : Nat)
  /-- DP_ABORT (R406). Writing ABORT ends the burst at once, discarding buffered units. -/
  | dpAbort
  /-- DP_WINDOW_WRITE (R402). A window write moves units into the burst buffer or is refused as SIZE or OVERRUN. -/
  | dpWindowWrite (off : Nat) (bytes : List Nat)
  /-- DP_WINDOW_READ (R404). A window read returns fetched units once they arrive. -/
  | dpWindowRead (off : Nat) (size : Nat) (x : ServiceRead)
  /-- DP_BURST_DONE (R403). A write burst's units have all been written and are visible; DONE is set. -/
  | dpBurstDone
  /-- CQ_ENABLE (R407). Setting ENABLE checks the queue location and resets HEAD, TAIL and PHASE. -/
  | cqEnable (v : Nat)
  /-- CQ_HEAD_WRITE (R407). A write of HEAD frees consumed entries, ignored if it passes TAIL. -/
  | cqHeadWrite (v : Nat)
  /-- CQ_STAT_CLEAR (R424). Writing STAT_CLEAR clears the queue counters. -/
  | cqStatClear
  /-- CQ_ENTRY_WRITE (R408). A held or new GRAPH_DONE, RUN_SUMMARY or ALERT entry is written when space appears. -/
  | cqEntryWrite
  /-- CQ_INTERRUPT (R413). Vector 0 is signalled after the holdoff or when the queue is half full. -/
  | cqInterrupt
  /-- GET_EVENT_RECORDS (R414). Returns General Media event records. -/
  | getEventRecords (inp : List Nat)
  /-- CLEAR_EVENT_RECORDS (R414). Clears General Media event records. -/
  | clearEventRecords (inp : List Nat)
  /-- GET_EVENT_INTERRUPT_POLICY (R414). Returns the event interrupt policy. -/
  | getEventInterruptPolicy (inp : List Nat)
  /-- SET_EVENT_INTERRUPT_POLICY (R414). Sets the event interrupt policy on vector 2. -/
  | setEventInterruptPolicy (inp : List Nat)
  /-- GET_FW_INFO (R414). Returns firmware slot information. -/
  | getFwInfo (inp : List Nat)
  /-- TRANSFER_FW (R550). Collects a firmware image in the staging area in the background, ending STAGED. -/
  | transferFw (inp : List Nat)
  /-- ACTIVATE_FW (R550). Verifies the staged image and begins programming it into flash. -/
  | activateFw (inp : List Nat)
  /-- FW_PROGRAMMING_DONE (R550). Flash programming ends PROGRAMMED or PROGRAM_FAILED, and in recovery mode the device resets. -/
  | fwProgrammingDone (ok : Bool)
  /-- GET_TIMESTAMP (R414). Returns the event record timestamp. -/
  | getTimestamp (inp : List Nat)
  /-- SET_TIMESTAMP (R414). Sets the event record timestamp without affecting the time unit. -/
  | setTimestamp (inp : List Nat)
  /-- GET_SUPPORTED_LOGS (R414). Lists the supported logs. -/
  | getSupportedLogs (inp : List Nat)
  /-- GET_LOG (R414). Returns the command effects log. -/
  | getLog (inp : List Nat)
  /-- IDENTIFY_MEMORY_DEVICE (R414). Reports 80 GiB volatile memory. -/
  | identifyMemoryDevice (inp : List Nat)
  /-- GET_HEALTH_INFO (R414). Returns health status, temperature and LPDDR5X error counts. -/
  | getHealthInfo (inp : List Nat)
  /-- MAILBOX_UNSUPPORTED (R414). Any other standard opcode returns Unsupported. -/
  | mailboxUnsupported (opcode : Nat) (inp : List Nat)
  /-- GET_DEVICE_INFO (R415). Returns identity, usable unit counts and V. -/
  | getDeviceInfo (inp : List Nat)
  /-- REGION_CREATE (R416). Allocates an LPDDR5X region at the lowest fitting base, or returns NO_SPACE or BAD_KIND. -/
  | regionCreate (inp : List Nat)
  /-- REGION_FREE (R416). Frees a region unless not permitted or in use. -/
  | regionFree (inp : List Nat)
  /-- RESET (R417). Makes a device reset within 1 ms, optionally after entering self-refresh. -/
  | reset (inp : List Nat)
  /-- LOG_INFO (R415). Returns the run log base, size and write offset. -/
  | logInfo (inp : List Nat)
  /-- GET_CERTIFICATE (R553). Returns the next part of the vendor certificate. -/
  | getCertificate (inp : List Nat)
  /-- ATTEST (R557). Returns a signed attestation report over the nonce, between run tasks. -/
  | attest (inp : List Nat)
  /-- OWNER_ENROL (R554). Stores or clears an owner enrolment signed by Engavex. -/
  | ownerEnrol (inp : List Nat)
  /-- OWNER_POLICY (R555). Stores an owner-signed policy. -/
  | ownerPolicy (inp : List Nat)
  /-- SPDM_GET_VERSION (R560). SPDM request GET_VERSION is answered. -/
  | spdmGetVersion (req : List Nat)
  /-- SPDM_GET_CAPABILITIES (R560). SPDM request GET_CAPABILITIES is answered. -/
  | spdmGetCapabilities (req : List Nat)
  /-- SPDM_NEGOTIATE_ALGORITHMS (R560). SPDM request NEGOTIATE_ALGORITHMS is answered. -/
  | spdmNegotiateAlgorithms (req : List Nat)
  /-- SPDM_GET_DIGESTS (R560). SPDM request GET_DIGESTS is answered. -/
  | spdmGetDigests (req : List Nat)
  /-- SPDM_GET_CERTIFICATE (R560). SPDM request GET_CERTIFICATE returns the slot 0 chain. -/
  | spdmGetCertificate (req : List Nat)
  /-- SPDM_CHALLENGE (R560). SPDM CHALLENGE is answered, or refused while IDENTITY_OK is clear. -/
  | spdmChallenge (req : List Nat)
  /-- SPDM_GET_MEASUREMENTS (R560). SPDM GET_MEASUREMENTS returns the four digests. -/
  | spdmGetMeasurements (req : List Nat)
  /-- SPDM_KEY_EXCHANGE (R560). SPDM KEY_EXCHANGE starts a session. -/
  | spdmKeyExchange (req : List Nat)
  /-- SPDM_FINISH (R560). SPDM FINISH completes session setup. -/
  | spdmFinish (req : List Nat)
  /-- SPDM_END_SESSION (R560). SPDM END_SESSION ends a session. -/
  | spdmEndSession (req : List Nat)
  /-- STALL_REPORT (R444). A sink's stall timer reaches THRESHOLD_TURNS and it sends a stall report, or a spill area is exhausted. -/
  | stallReport (b : Nat) (net : Nat) (i : Nat)
  /-- PROBE_RESULT (R445). A wait-for probe closes a cycle and spills the lowest queue, or is abandoned. -/
  | probeResult (b : Nat) (net : Nat) (i : Nat)
  /-- LEDGER_CLEAR (R443). Writing CLEAR empties the ledger and ESQ index. -/
  | ledgerClear
  /-- LEDGER_COUNT_CLEAR (R463). Writing COUNT_CLEAR clears LEDGER_LOST and the fault counters. -/
  | ledgerCountClear
  /-- LEDGER_SEL_WRITE (R464). A write of FAB_LEDGER_SEL snapshots an entry into the read registers. -/
  | ledgerSelWrite (i : Nat)
  /-- ESQ_LEDGER_WRITE (R470). A write of ESQ looks up the ledger entry that voided it. -/
  | esqLedgerWrite (esq : Nat)
  /-- TAKE (R479). Writing TAKE triggers a snapshot with TAKE_SELECTOR. -/
  | take
  /-- STALL_CLEAR (R478). Writing STALL_CLEAR clears every stall and unit counter. -/
  | stallClear
  /-- FREEZE (R478). Setting FREEZE stops the stall counters within 200 ns; clearing resumes them. -/
  | freeze (v : Bool)
  /-- SNAP_AREA_WRITE (R492). A write of FAB_SNAP_AREA sets the snapshot area and restarts at slot 0. -/
  | snapAreaWrite (v : Nat)
  /-- SNAPSHOT_WRITTEN (R481). A latched snapshot finishes writing; DONE set and SNAP_SEQ advanced. -/
  | snapshotWritten
  /-- SNAPSHOT (R487). The SNAPSHOT task takes a snapshot and completes with SNAP_SEQ. -/
  | snapshot (slot : Nat) (idx : Nat)
  /-- SCAN_OUT (R488). SCAN_OUT writes each selected block's queues and unit state over the promenade. -/
  | scanOut (slot : Nat) (idx : Nat) (bad : List Nat)
  /-- SCAN_IN (R489). SCAN_IN checks and writes architectural state back, ledgering STATE_LOST. -/
  | scanIn (slot : Nat) (idx : Nat)
  /-- REQ_OFF (R503). A domain request of OFF takes effect or is refused with REQ_REFUSED. -/
  | reqOff (g : Nat)
  /-- REQ_LOW (R503). A domain request of LOW takes effect or is refused. -/
  | reqLow (g : Nat)
  /-- REQ_ON (R503). A domain request of ON takes effect. -/
  | reqOn (g : Nat)
  /-- REQ_AUTO (R502). A domain request of AUTO lets the device choose the state. -/
  | reqAuto (g : Nat)
  /-- REGULATOR_FAULT (R504). A regulator detects overcurrent, undervoltage or overtemperature and turns its domain off as FAILED. -/
  | regulatorFault (g : Nat) (cause : Nat)
  /-- AVC_INTERVAL (R505). At each controller interval the domain's voltage steps by the smallest slack seen. -/
  | avcInterval (d : Nat)
  /-- TEMP_READING (R507). Every 10 µs sensors are read and WARN, CRIT and trip thresholds acted on. -/
  | tempReading (temps : List Nat)
  /-- HOT_LOCK_WRITE (R510). Writing 1 to HOT_LOCK clears it only while WARN is clear. -/
  | hotLockWrite
  /-- PEAK_CLEAR (R514). Writing PEAK_CLEAR resets every TEMP_PEAK. -/
  | peakClear
  /-- MAIN_UNDERVOLTAGE (R501). The main input falls below 1,710 mV or 1,620 mV, setting UV_WARN or turning domains off. -/
  | mainUndervoltage (mv : Nat)
  /-- POWER_DOWN (R501). Power-good falls and domains turn off in reverse order within 100 µs. -/
  | powerDown
  /-- COLD_RESET (R529). Power-up or loss of power resets everything and LPDDR5X contents are lost. -/
  | coldReset
  /-- DEVICE_RESET (R530). RESET_N, PERST_N or a CXL reset held low begins a device reset within 1 µs. -/
  | deviceReset (src : ResetSource)
  /-- BOOT_START (R542). The Molward die leaves reset and runs boot steps 1 to 10, or enters recovery or halts. -/
  | bootStart (x : BootInput)
  /-- BOOT_READY (R542). Every training port is ACTIVE, DOWN or held by LOS, and READY is set. -/
  | bootReady
  /-- SMB_STATUS (R537). SMBus code 0x00 returns status bits. -/
  | smbStatus
  /-- SMB_TEMP_MAX (R537). SMBus code 0x01 returns TEMP_MAX. -/
  | smbTempMax
  /-- SMB_POWER (R537). SMBus code 0x02 returns POWER_W. -/
  | smbPower
  /-- SMB_MAIN_MV (R537). SMBus code 0x03 returns MAIN_MV. -/
  | smbMainMv
  /-- SMB_SERIAL (R537). SMBus code 0x04 returns GLB_SERIAL. -/
  | smbSerial
  /-- SMB_ID (R537). SMBus code 0x05 returns GLB_ID. -/
  | smbId
  /-- SMB_LASER_POWER (R537). SMBus code 0x06 returns every laser source's power. -/
  | smbLaserPower
  /-- SMB_PORT_STATE (R537). SMBus code 0x07 returns every port's training state. -/
  | smbPortState
  /-- SMB_QUIESCE (R537). SMBus code 0x20 with 0xA5 begins a protective quiesce. -/
  | smbQuiesce (key : Nat)
  /-- SMB_ALERT_RESPONSE (R536). A read of the Alert Response Address releases SMB_ALERT_N. -/
  | smbAlertResponse
  /-- BYPASS (R538). TAP instruction BYPASS. -/
  | bypass
  /-- IDCODE (R538). TAP instruction IDCODE returns the stepping and part code. -/
  | idcode
  /-- SAMPLE_PRELOAD (R538). TAP instruction SAMPLE/PRELOAD. -/
  | samplePreload (bits : List Nat)
  /-- EXTEST (R538). TAP instruction EXTEST, acting only while RESET_N is low. -/
  | extest
  /-- CLAMP (R538). TAP instruction CLAMP, acting only while RESET_N is low. -/
  | clamp
  /-- HIGHZ (R538). TAP instruction HIGHZ, acting only while RESET_N is low. -/
  | highz
  /-- AC_EXTEST_INSTRUCTION (R538). IEEE 1149.6 instructions on the CXL pairs, acting only while RESET_N is low. -/
  | acExtestInstruction
  /-- TAP_RESET (R538). TRST_N low or five TMS-high cycles reset the TAP. -/
  | tapReset
  /-- RX_LOCK (R371). In TEST a lane's PRBS checker synchronises to the received pattern within 64 symbols, sets RX_LOCK and starts counting PRBS_ERRORS. -/
  | rxLock (p : Nat) (lane : Nat) (errs : Nat)
  /-- PROTO_ERR (R367). A PROTO_ERR block or word is received from the partner, and the T4 takes no action, counts nothing and logs nothing. -/
  | protoErr (p : RxBlock)
  /-- IDLE_BLOCK (R347). An IDLE control block or word is received between frames and ignored, counting only toward the expected ALIGN position. -/
  | idleBlock (p : RxBlock)
  /-- RECORD_BLOCK (R342). A RECORD control block arrives on a port, for example from a peer T4's PEER port, and no role takes it. -/
  | recordBlock (p : RxBlock)
  /-- INVALID_BLOCK (R366). A block outside any frame is flagged uncorrectable, carries SH 0b00 or a reserved CTYPE, or is a data block outside a frame, and is counted, logged and answered as a violation. -/
  | invalidBlock (p : Nat) (kind : BadBlock)
  /-- OPTICAL_GROUP_ON (R500). 5 ms after an optical engine group turns ON, its ports with TRAIN_EN set enter DETECT. -/
  | opticalGroupOn (g : Nat)
  /-- RETRAIN_REQ_END (R364). 1 µs after a link drop begins, the port stops sending RETRAIN_REQ, goes dark and starts its attempt at DETECT. -/
  | retrainReqEnd (p : Nat)
  /-- RCE_WATCHDOG (R453). The RCE watchdog detects failure of the Molward management die within 100 ms; the run continues without a service plane, and a later hard fault moves the run to QUIESCING. -/
  | rceWatchdog
  /-- POWER_AVERAGE (R516). Every 1 ms the main input power average updates POWER_W and POWER_PEAK_W and accumulates ENERGY_MJ. -/
  | powerAverage (mw : Nat) (da : Nat) (mv : Nat)
  /-- RESET_N_RISE (R538). RESET_N rises: a device reset can end, and a TAP in EXTEST, CLAMP, HIGHZ or an IEEE 1149.6 instruction returns to BYPASS. -/
  | resetNRise
  /-- CXL_CACHE_ENABLE (R394). The host enables CXL.cache, setting CACHE_EN, so that completion queue entries are written by CXL.cache full-line writes. -/
  | cxlCacheEnable
  /-- IDE_KEY_EXCHANGE (R560). CXL IDE key management messages in an SPDM session set up IDE keys for CXL.io and CXL.cachemem streams. -/
  | ideKeyExchange (req : List Nat)
  /-- SMB_OTHER_CODE (R537). An SMBus transfer with a command code that the table does not list is not acknowledged. -/
  | smbOtherCode (code : Nat)
  deriving DecidableEq, Repr

end Sys2Proof
end

