-- ==== Sys2Proof/Decode.lean ====
section
/-!
DEFINITION. The block takes commands, not instruction words: the table of operations and events gives no row any
bits, so no word spells a command. (The tile instruction words of R107 are data of the block; Machine/TileCode.lean
reads and writes them.)
-/

namespace Sys2Proof

/-- The command a word spells by the table's bits: no row has bits, so none. -/
def decodeTableWord (_nbits _w : Nat) : Option Instr := none

end Sys2Proof
end

