-- ==== Sys2Proof/Config.lean ====
section
/-!
DEFINITION. What the spec leaves open or takes from a standard it does not restate: opaque constants without a body,
so that a statement holds for every value of them. Each is named in the assumption log.
-/

namespace Sys2Proof.Config

/-- R86: whether the tie detector flags a pair of request edges between 10 ps and 40 ps apart, for the k-th such
pair. -/
opaque tieFlag : Nat → Bool
/-- R362: the NONCE of a training attempt, drawn afresh for each: the k-th draw. -/
opaque nonce : Nat → Nat
/-- SHA3-256 (R250, R256, R460, R542): the digest of a byte string, its first byte least significant. -/
opaque sha3 : List Nat → Nat
/-- R519: the logic voltage set point, in mV, of a switched domain that is not a fabric domain and is not OFF: the spec
states none. -/
opaque railMv : Nat → Nat
/-- R6, R262: the free part of the characterisation table: by stepping, grade and set point in mV. -/
opaque turnFree : Nat → Nat → Nat → Nat
/-- R143, R171: what an accumulator holds once a sum has left 32 bits, which the limits of R143 exclude. -/
opaque accFree : Int → BitVec 32
/-- R370: what a continuous adaptation makes of tap i of port p in ACTIVE, by tick. -/
opaque liveTap : Nat → Nat → Nat → Nat
/-- R371: which bit of the k-th run of 2ⁿ bits a lane sends is the one that INJECT_RATE_LOG2 flips: port, lane, run. -/
opaque injectAt : Nat → Nat → Nat → Nat
/-- R91, R477: the turns of a 1 µs window, which ends in a tick, that a wait counts in a register; no more than the ring made. -/
opaque waitTurns : Nat → Nat → Nat
/-- RFC 8032: whether an Ed25519 signature verifies: public key, message, signature (R552 to R556). -/
opaque edVerify : List Nat → List Nat → List Nat → Bool
/-- FIPS 204: whether an ML-DSA-65 signature verifies: public key, message, signature (R552 to R556). -/
opaque mlVerify : List Nat → List Nat → List Nat → Bool
/-- R551: the device's Ed25519 public key, as derived from the root value of its die. -/
opaque devEdPk : List Nat
/-- R551: the device's ML-DSA-65 public key, as derived from the root value of its die. -/
opaque devMlPk : List Nat
/-- R551, R557: the device's Ed25519 signature of a message. -/
opaque devEdSign : List Nat → List Nat
/-- R551, R557: the device's ML-DSA-65 signature of a message. -/
opaque devMlSign : List Nat → List Nat
/-- R545: the vendor's Ed25519 public key in the mask ROM. -/
opaque vendorEdPk : List Nat
/-- R545: the digest of the vendor's ML-DSA-65 public key in the mask ROM. -/
opaque vendorMlDigest : Nat
/-- R552: the vendor's ML-DSA-65 public key, with which firmware checks certificates and enrolments. -/
opaque vendorMlPk : List Nat
/-- R542, R552: the SHA3-256 digest of the device record. -/
opaque recordDigest : Nat
/-- R296, R542: the characterised TX_FIXED_PS (2p) and RX_FIXED_PS (2p + 1) of port p in the device record. -/
opaque fixedPs : Nat → Nat
/-- R219: the sizes that firmware gives regions 0 and 1. -/
opaque firmwareMib : Nat → Nat
/-- R560: the X.509 certificate chain of slot 0 in the identity area, as SPDM presents it. -/
opaque spdmChain : List Nat
/-- R560: the random bytes and ephemeral public keys of SPDM responses: the k-th draw. -/
opaque spdmRandom : Nat → List Nat
/-- R560: the verify data of a side of a session handshake, by transcript. -/
opaque spdmVerify : Nat → List Nat → List Nat
/-- R560: CAPABILITIES' CTExponent, DataTransferSize and MaxSPDMmsgSize. -/
opaque spdmSize : Nat → Nat
/-- R538: bits [11:0] of IDCODE. -/
opaque idcodeLow : Nat
/-- R538: what SAMPLE takes from the pins: the k-th sample. -/
opaque pinSample : Nat → List Nat

end Sys2Proof.Config
end

