-- ==== Sys2Proof/Machine/Bits.lean ====
section
/-!
DEFINITION. Bit fields, signed readings, saturation and byte order over natural numbers: the helpers every family of
commands reads fields, counts and bytes with.
-/

namespace Sys2Proof.Machine

/-- Bits [lsb + w − 1 : lsb] of a number. -/
def bitsOf (n lsb w : Nat) : Nat := (n >>> lsb) % 2 ^ w

/-- The number with bits [lsb + w − 1 : lsb] replaced by the low w bits of v. -/
def setBits (n lsb w v : Nat) : Nat :=
  n % 2 ^ lsb + ((v % 2 ^ w) + (n >>> (lsb + w)) * 2 ^ w) * 2 ^ lsb

/-- Bit i of a number. -/
def bitAt (n i : Nat) : Bool := (n >>> i) % 2 == 1

/-- A Boolean as a bit. -/
def b2n (b : Bool) : Nat := if b then 1 else 0

/-- The two's complement reading of the low w bits. -/
def sx (w n : Nat) : Int :=
  let m := n % 2 ^ w
  if m < 2 ^ (w - 1) then (m : Int) else (m : Int) - (2 ^ w : Nat)

/-- The low w bits of an integer, two's complement. -/
def wrapTo (w : Nat) (i : Int) : Nat := (i % ((2 ^ w : Nat) : Int)).toNat

/-- An integer held within bounds. -/
def clampI (lo hi i : Int) : Int := if i < lo then lo else if hi < i then hi else i

/-- A sum that saturates at the all-ones value of w bits (R13). -/
def satAdd (w a b : Nat) : Nat := min (a + b) (2 ^ w - 1)

/-- A quotient rounded to nearest, ties away from zero. -/
def rndDiv (a : Int) (b : Nat) : Int :=
  if 0 ≤ a then ((2 * a.toNat + b) / (2 * b) : Nat) else -((2 * (-a).toNat + b) / (2 * b) : Nat)

/-- A cyclic redundancy code of width w over one bit, unreflected. -/
def crcBit (w poly crc : Nat) (b : Bool) : Nat :=
  let sh := crc * 2 % 2 ^ w
  if bitAt crc (w - 1) != b then sh ^^^ poly else sh

/-- The code over the low k bits of a number, most significant first. -/
def crcBits (w poly : Nat) : Nat → Nat → Nat → Nat
  | 0, _, crc => crc
  | k + 1, n, crc => crcBits w poly k n (crcBit w poly crc (bitAt n k))

/-- The code over bytes, each taken most significant bit first. -/
def crcBytes (w poly crc : Nat) (bs : List Nat) : Nat := bs.foldl (fun c b => crcBits w poly 8 b c) crc

/-- CRC-16 with polynomial 0x1021 and initial value 0xFFFF over the top k bits named (R294, R350). -/
def crc16 (k n : Nat) : Nat := crcBits 16 0x1021 k n 0xFFFF

/-- The number of ones in the low w bits. -/
def popCount : Nat → Nat → Nat
  | 0, _ => 0
  | w + 1, n => n % 2 + popCount w (n / 2)

/-- The positions of the ones in the low w bits, ascending from position `i`. -/
def onesFrom : Nat → Nat → Nat → List Nat
  | 0, _, _ => []
  | w + 1, i, n => if n % 2 = 1 then i :: onesFrom w (i + 1) (n / 2) else onesFrom w (i + 1) (n / 2)

/-- The positions of the ones among the low w bits, ascending. -/
def onesOf (w n : Nat) : List Nat := onesFrom w 0 n

/-- The least multiple of 2^k at or above n. -/
def alignUp (k n : Nat) : Nat := (n + (2 ^ k - 1)) / 2 ^ k * 2 ^ k

/-- The quotient rounded up. -/
def ceilDiv (a b : Nat) : Nat := (a + b - 1) / b

/-- The k little-endian bytes of a number. -/
def leBytes : Nat → Nat → List Nat
  | 0, _ => []
  | k + 1, n => n % 256 :: leBytes k (n / 256)

/-- The number whose little-endian bytes are given. -/
def leNat : List Nat → Nat
  | [] => 0
  | b :: bs => b % 256 + 256 * leNat bs

/-- The k big-endian bytes of a number. -/
def beBytes (k n : Nat) : List Nat := (leBytes k n).reverse

/-- The number whose big-endian bytes are given. -/
def beNat (bs : List Nat) : Nat := leNat bs.reverse

/-- Field of a byte string: `size` bytes at `pos`, little-endian; bytes past the end read as 0. -/
def leAt (bs : List Nat) (pos size : Nat) : Nat := leNat ((bs.drop pos).take size)

/-- A list padded with zeros, or cut, to a length. -/
def padTo (n : Nat) (bs : List Nat) : List Nat := (bs ++ List.replicate (n - bs.length) 0).take n

/-- Replace the element at an index. -/
def setNth {α : Type} (l : List α) (i : Nat) (a : α) : List α := l.set i a

/-- The list 0, 1, …, n − 1. -/
def upTo (n : Nat) : List Nat := List.range n

end Sys2Proof.Machine
end

