-- ==== Sys2Proof/Machine/Emit.lean ====
section
/-!
DEFINITION. What leaves the device: the model's own log of everything an observer outside sees (records, symbols,
captures, host writes, interrupts, responses), oldest last. The spec gives the block no such store; the log is the
model's way to say what a command sends.
-/

namespace Sys2Proof.Machine

/-- One thing that left the device. -/
inductive Emit where
  /-- R27: a record released on a stream in a tick. -/
  | record (stream tick : Nat) (r : Record)
  /-- R355: a record sent on a port in a RECORD block. -/
  | portRecord (port stream : Nat) (r : Record)
  /-- R349, R350: a frame sent on a port: its header and payload bytes. -/
  | frame (port : Nat) (bytes : List Nat)
  /-- R367: a PROTO_ERR. -/
  | protoErr (port code seq stamp more : Nat)
  /-- R347: another control block or word sent on a port. -/
  | control (port ctype value : Nat)
  /-- R371: one bit flipped on a transmit lane. -/
  | laneFlip (port lane : Nat)
  /-- R294: a time symbol. -/
  | timeSymbol (port value : Nat)
  /-- R299: a step symbol. -/
  | stepSymbol (port value : Nat)
  /-- R311: a TRGOUT line takes a level, at a time in ps from tick 0. -/
  | trgout (line atPs : Nat) (high : Bool)
  /-- R314: PPS_OUT takes a level, at a time in ps from tick 0. -/
  | ppsOut (atPs : Nat) (high : Bool)
  /-- R394, R408: bytes written to host memory, by CXL.cache (ItoMWr) or by posted writes of CXL.io. -/
  | hostWrite (cache : Bool) (addr : Nat) (bytes : List Nat)
  /-- R400: a line of LPDDR5X is back-invalidated in the host. -/
  | backInvalidate (line : Nat)
  /-- R395: an MSI-X vector signalled. -/
  | msix (vector : Nat)
  /-- A value returned for a host read: of a register, the DP window or LPDDR5X. -/
  | readData (addr : Nat) (bytes : List Nat) (poisoned : Bool)
  /-- R414: a mailbox command's return code and output payload. -/
  | mailbox (opcode code : Nat) (bytes : List Nat)
  /-- R560: an SPDM response. -/
  | spdm (code : Nat) (bytes : List Nat)
  /-- R537: an SMBus response, or no acknowledge. -/
  | smbus (code : Nat) (ack : Bool) (bytes : List Nat)
  /-- R538: a TAP data register value shifted out. -/
  | tap (bits : List Nat)
  /-- R393: the answer to a snoop. -/
  | snoopReply (addr : Nat)
  deriving DecidableEq, Repr, Inhabited

end Sys2Proof.Machine
end

