-- ==== Sys2Proof/Machine/ImageTypes.lean ====
section
/-!
DEFINITION. The parts of a loaded Graem image as the loader reads them (R250 to R255), and the entries of the weight
bank library index (R257): plain data that State holds while an image is loaded.
-/

namespace Sys2Proof.Machine

/-- R252: a register record. -/
structure RegRec where
  block : Nat
  off : Nat
  value : Nat
  deriving DecidableEq, Repr, Inhabited

/-- R252: a memory record: a first MU word and the words from it on. -/
structure MemRec where
  block : Nat
  first : Nat
  words : List Nat
  deriving DecidableEq, Repr, Inhabited

/-- R254: one alternative placement of a figure; a path update gives a path's worst-case turns. -/
structure Placement where
  num : Nat
  blocks : List Nat
  records : List RegRec
  paths : List (Nat × Nat)
  deriving DecidableEq, Repr, Inhabited

/-- R251: a figure with its sections. `placements` counts placement 0 and the alternatives. -/
structure Figure where
  id : Nat
  t2 : Bool
  home : Nat
  placements : Nat
  config : List RegRec
  muData : List MemRec
  alts : List Placement
  deriving DecidableEq, Repr, Inhabited

/-- R251: MANIFEST's claim of one block. -/
structure BlockClaim where
  block : Nat
  tiles : Nat
  vus : Nat
  mu : Nat
  sus : Nat
  deriving DecidableEq, Repr, Inhabited

/-- R251: one port's entry in PORTS. -/
structure PortEntry where
  role : Nat
  delay : Nat
  winOff : Nat
  winCount : Nat
  deriving DecidableEq, Repr, Inhabited

/-- R251: one stream's entry in STREAMS. -/
structure StreamEntry where
  egress : Nat
  flags : Nat
  horizon : Nat
  deriving DecidableEq, Repr, Inhabited

/-- R253: one entry of PATHS, its VUs as (block, VU). -/
structure PathEntry where
  path : Nat
  stream : Nat
  start : Nat
  ref : Nat
  lastToken : Nat
  turns : Nat
  vus : List (Nat × Nat)
  deriving DecidableEq, Repr, Inhabited

/-- R253: one entry of JOINS, its sinks as (block, network, sink). -/
structure JoinEntry where
  block : Nat
  unit : Nat
  tLong : Nat
  tShort : Nat
  interval : Nat
  sinks : List (Nat × Nat × Nat)
  deriving DecidableEq, Repr, Inhabited

/-- R253: one entry of STEER, its units as (block, class, index). -/
structure SteerEntry where
  steerBlock : Nat
  steerSu : Nat
  mergeBlock : Nat
  mergeSu : Nat
  units : List (Nat × Nat × Nat)
  deriving DecidableEq, Repr, Inhabited

/-- R253: one entry of INTERVALS. -/
structure IntervalEntry where
  unit : Nat
  turns : Nat
  events : Nat
  deriving DecidableEq, Repr, Inhabited

/-- R251: one entry of WEIGHT_SLOTS; the layout digest is a 256-bit number, its first byte least significant. -/
structure SlotEntry where
  slot : Nat
  bank : Nat
  layout : Nat
  deriving DecidableEq, Repr, Inhabited

/-- R251: one entry of SEEDS. -/
structure SeedTarget where
  block : Nat
  off : Nat
  mask : Nat
  deriving DecidableEq, Repr, Inhabited

/-- R251, R255: one LPDDR5X region request. -/
structure RegionReq where
  kind : Nat
  mib : Nat
  deriving DecidableEq, Repr, Inhabited

/-- The image in force, its patches applied (R250 to R255). -/
structure Image where
  digest : Nat
  period : Nat
  vfloor : Nat
  devCount : Nat
  devIndex : Nat
  streams : Nat
  latency : List Nat
  domains : Nat
  claims : List BlockClaim
  figures : List Figure
  ports : List PortEntry
  streamCfg : List StreamEntry
  schedule : List (List Nat)
  slots : List SlotEntry
  paths : List PathEntry
  joins : List JoinEntry
  steers : List SteerEntry
  intervals : List IntervalEntry
  regions : List RegionReq
  seeds : List SeedTarget
  signed : Bool
  deriving DecidableEq, Repr, Inhabited

/-- R257: an entry of the bank library index. -/
structure BankEntry where
  bank : Nat
  addr : Nat
  length : Nat
  digest : Nat
  layout : Nat
  deriving DecidableEq, Repr, Inhabited

end Sys2Proof.Machine
end

