-- ==== Sys2Proof/Machine/Regs.lean ====
section
/-!
DEFINITION. The register file's map: one offset and one field definition per register and field of the
spec's register tables (R10: 64 bits at 8-byte aligned offsets of BAR0), the reset value of every offset, and for
every register the bits the host writes (R11). Names are the spec's: REGISTER, REGISTER_FIELD.
A block register takes the block number, a tile register block and physical tile, a VU register the base of its
window (R65, R161), a port register its port.
-/

namespace Sys2Proof.Machine

/-- A field of a register: the BAR0 offset of the register, its least significant bit and its width. -/
structure Fld where
  off : Nat
  lsb : Nat
  width : Nat
  deriving DecidableEq, Repr

/-- R65: base of block b's register window. -/
def blk (b : Nat) : Nat := 0x1000000 + 0x10000 * b
/-- R65: base of physical tile t's window in block b. -/
def tileWin (b t : Nat) : Nat := blk b + 0x2000 + 0x800 * t
/-- R65: base of VU v's window in block b. -/
def vuWin (b v : Nat) : Nat := blk b + 0xc000 + 0x1000 * v
/-- R161: base of spare VU k's window of domain d, with j = 2d + k. -/
def spareWin (j : Nat) : Nat := 0xc0000 + 0x1000 * j
/-- R396: base of port p's window. -/
def plWin (p : Nat) : Nat := 0x100000 + 0x4000 * p
/-- R97: first switch table offset of a network (0 scalar, 1 vector, 2 control). -/
def swBase (net : Nat) : Nat := if net = 0 then 0x800 else if net = 1 then 0xc00 else 0xe00
/-- R494: first queue statistics offset of a network. -/
def qstatBase (net : Nat) : Nat := if net = 0 then 0xf000 else if net = 1 then 0xf300 else 0xf400

/-- R40: offset of RIND_CTRL. -/
def RIND_CTRL : Nat := 0x40000
def RIND_CTRL_COUNT_CLEAR : Fld := ⟨RIND_CTRL, 2, 1⟩
def RIND_CTRL_SLACK_CLEAR : Fld := ⟨RIND_CTRL, 1, 1⟩
def RIND_CTRL_CLOSE_INPUTS : Fld := ⟨RIND_CTRL, 0, 1⟩
/-- R41: offset of RIND_STATUS. -/
def RIND_STATUS : Nat := 0x40008
def RIND_STATUS_EPOCH : Fld := ⟨RIND_STATUS, 16, 16⟩
def RIND_STATUS_LATE_NOTICE_SEEN : Fld := ⟨RIND_STATUS, 7, 1⟩
def RIND_STATUS_TIMEOUT_SEEN : Fld := ⟨RIND_STATUS, 6, 1⟩
def RIND_STATUS_HOLDOVER : Fld := ⟨RIND_STATUS, 5, 1⟩
def RIND_STATUS_SEQ_RUNNING : Fld := ⟨RIND_STATUS, 4, 1⟩
def RIND_STATUS_INPUTS_CLOSED : Fld := ⟨RIND_STATUS, 3, 1⟩
def RIND_STATUS_RUN_STATE : Fld := ⟨RIND_STATUS, 0, 3⟩
/-- R42: offset of RIND_FRAME_PERIOD. -/
def RIND_FRAME_PERIOD : Nat := 0x40010
def RIND_FRAME_PERIOD_PERIOD_TICKS : Fld := ⟨RIND_FRAME_PERIOD, 0, 13⟩
/-- R43: offset of RIND_FRAME_NUMBER. -/
def RIND_FRAME_NUMBER : Nat := 0x40018
def RIND_FRAME_NUMBER_VALID : Fld := ⟨RIND_FRAME_NUMBER, 63, 1⟩
def RIND_FRAME_NUMBER_FRAME_NUMBER : Fld := ⟨RIND_FRAME_NUMBER, 0, 63⟩
/-- R44: offset of RIND_TICK. -/
def RIND_TICK : Nat := 0x40020
def RIND_TICK_TICK : Fld := ⟨RIND_TICK, 0, 64⟩
/-- R45: offset of RIND_DROP_COUNT. -/
def RIND_DROP_COUNT : Nat := 0x40028
def RIND_DROP_COUNT_CLOSED_FRAMES : Fld := ⟨RIND_DROP_COUNT, 32, 32⟩
def RIND_DROP_COUNT_DEAD_TIME : Fld := ⟨RIND_DROP_COUNT, 0, 32⟩
/-- R46: offset of RIND_RESULT_ERR_COUNT. -/
def RIND_RESULT_ERR_COUNT : Nat := 0x40030
def RIND_RESULT_ERR_COUNT_TIMEOUT : Fld := ⟨RIND_RESULT_ERR_COUNT, 48, 16⟩
def RIND_RESULT_ERR_COUNT_LATE_NOTICE : Fld := ⟨RIND_RESULT_ERR_COUNT, 32, 16⟩
def RIND_RESULT_ERR_COUNT_DUPLICATE : Fld := ⟨RIND_RESULT_ERR_COUNT, 16, 16⟩
def RIND_RESULT_ERR_COUNT_ORPHAN : Fld := ⟨RIND_RESULT_ERR_COUNT, 0, 16⟩
/-- R47: offset of RIND_STAMP_SEL. -/
def RIND_STAMP_SEL : Nat := 0x40038
def RIND_STAMP_SEL_ESQ : Fld := ⟨RIND_STAMP_SEL, 0, 12⟩
/-- R48: offset of RIND_STAMP_TIME. -/
def RIND_STAMP_TIME : Nat := 0x40040
def RIND_STAMP_TIME_TIME : Fld := ⟨RIND_STAMP_TIME, 0, 64⟩
/-- R49: offset of RIND_STAMP_INFO. -/
def RIND_STAMP_INFO : Nat := 0x40048
def RIND_STAMP_INFO_BOUNDARY_TICK : Fld := ⟨RIND_STAMP_INFO, 32, 32⟩
def RIND_STAMP_INFO_RELEASED : Fld := ⟨RIND_STAMP_INFO, 24, 8⟩
def RIND_STAMP_INFO_RETIRED : Fld := ⟨RIND_STAMP_INFO, 19, 1⟩
def RIND_STAMP_INFO_VOID_SET : Fld := ⟨RIND_STAMP_INFO, 18, 1⟩
def RIND_STAMP_INFO_INJECTED : Fld := ⟨RIND_STAMP_INFO, 17, 1⟩
def RIND_STAMP_INFO_VALID : Fld := ⟨RIND_STAMP_INFO, 16, 1⟩
def RIND_STAMP_INFO_EPOCH : Fld := ⟨RIND_STAMP_INFO, 0, 16⟩
/-- R50: offset of RIND_STAMP_PRESENT. -/
def RIND_STAMP_PRESENT : Nat := 0x40050
def RIND_STAMP_PRESENT_PRESENT : Fld := ⟨RIND_STAMP_PRESENT, 0, 64⟩
/-- R51: offset of RIND_STAMP_CRC. -/
def RIND_STAMP_CRC : Nat := 0x40058
def RIND_STAMP_CRC_CRC : Fld := ⟨RIND_STAMP_CRC, 0, 64⟩
/-- R52: offset of RIND_PORT_ALIGN. -/
def RIND_PORT_ALIGN (p : Nat) : Nat := 0x40400 + 0x8 * p
def RIND_PORT_ALIGN_DELAY_TICKS (p : Nat) : Fld := ⟨RIND_PORT_ALIGN p, 0, 11⟩
/-- R53: offset of RIND_PORT_STAT. -/
def RIND_PORT_STAT (p : Nat) : Nat := 0x40600 + 0x8 * p
def RIND_PORT_STAT_EXCESS_COUNT (p : Nat) : Fld := ⟨RIND_PORT_STAT p, 32, 16⟩
def RIND_PORT_STAT_ABSENT_COUNT (p : Nat) : Fld := ⟨RIND_PORT_STAT p, 16, 16⟩
def RIND_PORT_STAT_MARGIN_MIN (p : Nat) : Fld := ⟨RIND_PORT_STAT p, 0, 16⟩
/-- R54: offset of RIND_TRGOUT_MAP. -/
def RIND_TRGOUT_MAP (t : Nat) : Nat := 0x40800 + 0x8 * t
def RIND_TRGOUT_MAP_WIDTH_TICKS (t : Nat) : Fld := ⟨RIND_TRGOUT_MAP t, 8, 8⟩
def RIND_TRGOUT_MAP_ACCEPT_LINE (t : Nat) : Fld := ⟨RIND_TRGOUT_MAP t, 4, 4⟩
def RIND_TRGOUT_MAP_STREAM (t : Nat) : Fld := ⟨RIND_TRGOUT_MAP t, 1, 3⟩
def RIND_TRGOUT_MAP_ENABLE (t : Nat) : Fld := ⟨RIND_TRGOUT_MAP t, 0, 1⟩
/-- R55: offset of RIND_STREAM_CFG. -/
def RIND_STREAM_CFG (s : Nat) : Nat := 0x41000 + 0x100 * s
def RIND_STREAM_CFG_HORIZON_TICKS (s : Nat) : Fld := ⟨RIND_STREAM_CFG s, 16, 16⟩
def RIND_STREAM_CFG_HIST_SHIFT (s : Nat) : Fld := ⟨RIND_STREAM_CFG s, 12, 4⟩
def RIND_STREAM_CFG_EGRESS_POINT (s : Nat) : Fld := ⟨RIND_STREAM_CFG s, 8, 4⟩
def RIND_STREAM_CFG_TO_CURD (s : Nat) : Fld := ⟨RIND_STREAM_CFG s, 4, 1⟩
def RIND_STREAM_CFG_LATE_CAPTURE (s : Nat) : Fld := ⟨RIND_STREAM_CFG s, 3, 1⟩
def RIND_STREAM_CFG_POLICY (s : Nat) : Fld := ⟨RIND_STREAM_CFG s, 1, 2⟩
def RIND_STREAM_CFG_ENABLED (s : Nat) : Fld := ⟨RIND_STREAM_CFG s, 0, 1⟩
/-- R56: offset of RIND_STREAM_LAT. -/
def RIND_STREAM_LAT (s : Nat) : Nat := 0x41008 + 0x100 * s
def RIND_STREAM_LAT_EFFECTIVE_HORIZON (s : Nat) : Fld := ⟨RIND_STREAM_LAT s, 16, 16⟩
def RIND_STREAM_LAT_L_TICKS (s : Nat) : Fld := ⟨RIND_STREAM_LAT s, 0, 12⟩
/-- R57: offset of RIND_STREAM_DEST. -/
def RIND_STREAM_DEST (s : Nat) : Nat := 0x41010 + 0x100 * s
def RIND_STREAM_DEST_PORT_MASK (s : Nat) : Fld := ⟨RIND_STREAM_DEST s, 0, 64⟩
/-- R58: offset of RIND_SLACK_MIN. -/
def RIND_SLACK_MIN (s : Nat) : Nat := 0x41018 + 0x100 * s
def RIND_SLACK_MIN_SLACK_MAX (s : Nat) : Fld := ⟨RIND_SLACK_MIN s, 32, 32⟩
def RIND_SLACK_MIN_SLACK_MIN (s : Nat) : Fld := ⟨RIND_SLACK_MIN s, 0, 32⟩
/-- R59: offset of RIND_KIND_COUNT. -/
def RIND_KIND_COUNT (s k : Nat) : Nat := 0x41020 + 0x100 * s + 0x8 * k
def RIND_KIND_COUNT_COUNT (s k : Nat) : Fld := ⟨RIND_KIND_COUNT s k, 0, 48⟩
/-- R60: offset of RIND_SLACK_HIST. -/
def RIND_SLACK_HIST (s b : Nat) : Nat := 0x41080 + 0x100 * s + 0x8 * b
def RIND_SLACK_HIST_COUNT (s b : Nat) : Fld := ⟨RIND_SLACK_HIST s b, 0, 48⟩
/-- R87: offset of FAB_GEOMETRY. -/
def FAB_GEOMETRY : Nat := 0x80000
def FAB_GEOMETRY_SPARE_VUS : Fld := ⟨FAB_GEOMETRY, 32, 4⟩
def FAB_GEOMETRY_SUS : Fld := ⟨FAB_GEOMETRY, 28, 4⟩
def FAB_GEOMETRY_VUS : Fld := ⟨FAB_GEOMETRY, 24, 4⟩
def FAB_GEOMETRY_TILES : Fld := ⟨FAB_GEOMETRY, 16, 8⟩
def FAB_GEOMETRY_GRID_Y : Fld := ⟨FAB_GEOMETRY, 8, 8⟩
def FAB_GEOMETRY_GRID_X : Fld := ⟨FAB_GEOMETRY, 0, 8⟩
/-- R88: offset of FAB_CTRL. -/
def FAB_CTRL : Nat := 0x80008
def FAB_CTRL_TURN_MIN_CLEAR : Fld := ⟨FAB_CTRL, 1, 1⟩
def FAB_CTRL_TIE_COUNT_CLEAR : Fld := ⟨FAB_CTRL, 0, 1⟩
/-- R89: offset of FAB_STATUS. -/
def FAB_STATUS : Nat := 0x80010
def FAB_STATUS_DOMAIN_UP : Fld := ⟨FAB_STATUS, 4, 16⟩
def FAB_STATUS_FLUSHED : Fld := ⟨FAB_STATUS, 2, 1⟩
def FAB_STATUS_CFG_WRITE_DROP : Fld := ⟨FAB_STATUS, 1, 1⟩
def FAB_STATUS_CFG_LOCKED : Fld := ⟨FAB_STATUS, 0, 1⟩
/-- R90: offset of FAB_TIE_COUNT. -/
def FAB_TIE_COUNT : Nat := 0x80018
def FAB_TIE_COUNT_COUNT : Fld := ⟨FAB_TIE_COUNT, 0, 48⟩
/-- R91: offset of FAB_TURN_MON. -/
def FAB_TURN_MON (d : Nat) : Nat := 0x80100 + 0x8 * d
def FAB_TURN_MON_TURN_RATE_MIN (d : Nat) : Fld := ⟨FAB_TURN_MON d, 16, 16⟩
def FAB_TURN_MON_TURN_RATE (d : Nat) : Fld := ⟨FAB_TURN_MON d, 0, 16⟩
/-- R92: offset of FAB_DOMAIN_SPARE. -/
def FAB_DOMAIN_SPARE (d : Nat) : Nat := 0x80200 + 0x8 * d
def FAB_DOMAIN_SPARE_FREE_TILE_SPARES (d : Nat) : Fld := ⟨FAB_DOMAIN_SPARE d, 8, 5⟩
def FAB_DOMAIN_SPARE_SPARE1_FAILED (d : Nat) : Fld := ⟨FAB_DOMAIN_SPARE d, 3, 1⟩
def FAB_DOMAIN_SPARE_SPARE1_USED (d : Nat) : Fld := ⟨FAB_DOMAIN_SPARE d, 2, 1⟩
def FAB_DOMAIN_SPARE_SPARE0_FAILED (d : Nat) : Fld := ⟨FAB_DOMAIN_SPARE d, 1, 1⟩
def FAB_DOMAIN_SPARE_SPARE0_USED (d : Nat) : Fld := ⟨FAB_DOMAIN_SPARE d, 0, 1⟩
/-- R93: offset of BLK_ID. -/
def BLK_ID (b : Nat) : Nat := blk b + 0x0
def BLK_ID_NORTH (b : Nat) : Fld := ⟨BLK_ID b, 23, 1⟩
def BLK_ID_EAST (b : Nat) : Fld := ⟨BLK_ID b, 22, 1⟩
def BLK_ID_SOUTH (b : Nat) : Fld := ⟨BLK_ID b, 21, 1⟩
def BLK_ID_WEST (b : Nat) : Fld := ⟨BLK_ID b, 20, 1⟩
def BLK_ID_DOMAIN (b : Nat) : Fld := ⟨BLK_ID b, 16, 4⟩
def BLK_ID_Y (b : Nat) : Fld := ⟨BLK_ID b, 12, 4⟩
def BLK_ID_X (b : Nat) : Fld := ⟨BLK_ID b, 8, 4⟩
def BLK_ID_BLOCK (b : Nat) : Fld := ⟨BLK_ID b, 0, 8⟩
/-- R94: offset of BLK_TILE_SPARE. -/
def BLK_TILE_SPARE (b : Nat) : Nat := blk b + 0x8
def BLK_TILE_SPARE_ENABLE (b : Nat) : Fld := ⟨BLK_TILE_SPARE b, 4, 1⟩
def BLK_TILE_SPARE_TARGET (b : Nat) : Fld := ⟨BLK_TILE_SPARE b, 0, 4⟩
/-- R95: offset of BLK_VU_MAP. -/
def BLK_VU_MAP (b : Nat) : Nat := blk b + 0x10
def BLK_VU_MAP_VU1_SEL (b : Nat) : Fld := ⟨BLK_VU_MAP b, 2, 2⟩
def BLK_VU_MAP_VU0_SEL (b : Nat) : Fld := ⟨BLK_VU_MAP b, 0, 2⟩
/-- R96: offset of BLK_POOL. -/
def BLK_POOL (b : Nat) : Nat := blk b + 0x18
def BLK_POOL_CONTROL_USED (b : Nat) : Fld := ⟨BLK_POOL b, 32, 9⟩
def BLK_POOL_VECTOR_USED (b : Nat) : Fld := ⟨BLK_POOL b, 16, 7⟩
def BLK_POOL_SCALAR_USED (b : Nat) : Fld := ⟨BLK_POOL b, 0, 10⟩
/-- R124: offset of BLK_TILE_CFG. -/
def BLK_TILE_CFG (b t : Nat) : Nat := tileWin b t + 0x0
def BLK_TILE_CFG_DESC_VALID (b t : Nat) : Fld := ⟨BLK_TILE_CFG b t, 8, 4⟩
def BLK_TILE_CFG_OUT_USED (b t : Nat) : Fld := ⟨BLK_TILE_CFG b t, 3, 5⟩
def BLK_TILE_CFG_READY_ORDER (b t : Nat) : Fld := ⟨BLK_TILE_CFG b t, 2, 1⟩
def BLK_TILE_CFG_LOADED (b t : Nat) : Fld := ⟨BLK_TILE_CFG b t, 0, 1⟩
/-- R125: offset of BLK_TILE_FIRE. -/
def BLK_TILE_FIRE (b t f : Nat) : Nat := tileWin b t + 0x8 + 0x8 * f
def BLK_TILE_FIRE_MAX_INSTR (b t f : Nat) : Fld := ⟨BLK_TILE_FIRE b t f, 16, 7⟩
def BLK_TILE_FIRE_START (b t f : Nat) : Fld := ⟨BLK_TILE_FIRE b t f, 8, 7⟩
def BLK_TILE_FIRE_IN_MASK (b t f : Nat) : Fld := ⟨BLK_TILE_FIRE b t f, 0, 5⟩
/-- R126: offset of BLK_TILE_CRELOAD. -/
def BLK_TILE_CRELOAD (b t : Nat) : Nat := tileWin b t + 0x28
def BLK_TILE_CRELOAD_RELOAD3 (b t : Nat) : Fld := ⟨BLK_TILE_CRELOAD b t, 48, 16⟩
def BLK_TILE_CRELOAD_RELOAD2 (b t : Nat) : Fld := ⟨BLK_TILE_CRELOAD b t, 32, 16⟩
def BLK_TILE_CRELOAD_RELOAD1 (b t : Nat) : Fld := ⟨BLK_TILE_CRELOAD b t, 16, 16⟩
def BLK_TILE_CRELOAD_RELOAD0 (b t : Nat) : Fld := ⟨BLK_TILE_CRELOAD b t, 0, 16⟩
/-- R127: offset of BLK_TILE_STATE. -/
def BLK_TILE_STATE (b t : Nat) : Nat := tileWin b t + 0x30
def BLK_TILE_STATE_PRED (b t : Nat) : Fld := ⟨BLK_TILE_STATE b t, 32, 4⟩
def BLK_TILE_STATE_FIRE_ESQ (b t : Nat) : Fld := ⟨BLK_TILE_STATE b t, 16, 12⟩
def BLK_TILE_STATE_PC (b t : Nat) : Fld := ⟨BLK_TILE_STATE b t, 8, 7⟩
def BLK_TILE_STATE_NEXT_DESC (b t : Nat) : Fld := ⟨BLK_TILE_STATE b t, 4, 2⟩
def BLK_TILE_STATE_FLUSHED (b t : Nat) : Fld := ⟨BLK_TILE_STATE b t, 3, 1⟩
def BLK_TILE_STATE_FLUSHING (b t : Nat) : Fld := ⟨BLK_TILE_STATE b t, 2, 1⟩
def BLK_TILE_STATE_FAILED (b t : Nat) : Fld := ⟨BLK_TILE_STATE b t, 1, 1⟩
def BLK_TILE_STATE_FIRING (b t : Nat) : Fld := ⟨BLK_TILE_STATE b t, 0, 1⟩
/-- R128: offset of BLK_TILE_FIRINGS. -/
def BLK_TILE_FIRINGS (b t : Nat) : Nat := tileWin b t + 0x38
def BLK_TILE_FIRINGS_FIRINGS (b t : Nat) : Fld := ⟨BLK_TILE_FIRINGS b t, 0, 48⟩
/-- R129: offset of BLK_TILE_ERR. -/
def BLK_TILE_ERR (b t : Nat) : Nat := tileWin b t + 0x40
def BLK_TILE_ERR_OVERRUN (b t : Nat) : Fld := ⟨BLK_TILE_ERR b t, 48, 16⟩
def BLK_TILE_ERR_IMEM_REREAD (b t : Nat) : Fld := ⟨BLK_TILE_ERR b t, 32, 16⟩
def BLK_TILE_ERR_REG_PARITY (b t : Nat) : Fld := ⟨BLK_TILE_ERR b t, 16, 16⟩
def BLK_TILE_ERR_TAG_MISMATCH (b t : Nat) : Fld := ⟨BLK_TILE_ERR b t, 0, 16⟩
/-- R130: offset of BLK_TILE_FLUSH_CNT. -/
def BLK_TILE_FLUSH_CNT (b t : Nat) : Nat := tileWin b t + 0x48
def BLK_TILE_FLUSH_CNT_FLUSH_ABORT (b t : Nat) : Fld := ⟨BLK_TILE_FLUSH_CNT b t, 32, 16⟩
def BLK_TILE_FLUSH_CNT_FLUSH_DISCARD (b t : Nat) : Fld := ⟨BLK_TILE_FLUSH_CNT b t, 0, 32⟩
/-- R131: offset of BLK_TILE_GREG. -/
def BLK_TILE_GREG (b t i : Nat) : Nat := tileWin b t + 0x80 + 0x8 * i
def BLK_TILE_GREG_VALUE (b t i : Nat) : Fld := ⟨BLK_TILE_GREG b t i, 0, 32⟩
/-- R132: offset of BLK_TILE_COUNTERS. -/
def BLK_TILE_COUNTERS (b t : Nat) : Nat := tileWin b t + 0x100
def BLK_TILE_COUNTERS_C3 (b t : Nat) : Fld := ⟨BLK_TILE_COUNTERS b t, 48, 16⟩
def BLK_TILE_COUNTERS_C2 (b t : Nat) : Fld := ⟨BLK_TILE_COUNTERS b t, 32, 16⟩
def BLK_TILE_COUNTERS_C1 (b t : Nat) : Fld := ⟨BLK_TILE_COUNTERS b t, 16, 16⟩
def BLK_TILE_COUNTERS_C0 (b t : Nat) : Fld := ⟨BLK_TILE_COUNTERS b t, 0, 16⟩
/-- R133: offset of BLK_TILE_IMEM. -/
def BLK_TILE_IMEM (b t j : Nat) : Nat := tileWin b t + 0x400 + 0x8 * j
def BLK_TILE_IMEM_ODD (b t j : Nat) : Fld := ⟨BLK_TILE_IMEM b t j, 32, 32⟩
def BLK_TILE_IMEM_EVEN (b t j : Nat) : Fld := ⟨BLK_TILE_IMEM b t j, 0, 32⟩
/-- R134: offset of BLK_TILE_LUT. -/
def BLK_TILE_LUT (b t j : Nat) : Nat := tileWin b t + 0x600 + 0x8 * j
def BLK_TILE_LUT_ENTRY3 (b t j : Nat) : Fld := ⟨BLK_TILE_LUT b t j, 48, 16⟩
def BLK_TILE_LUT_ENTRY2 (b t j : Nat) : Fld := ⟨BLK_TILE_LUT b t j, 32, 16⟩
def BLK_TILE_LUT_ENTRY1 (b t j : Nat) : Fld := ⟨BLK_TILE_LUT b t j, 16, 16⟩
def BLK_TILE_LUT_ENTRY0 (b t j : Nat) : Fld := ⟨BLK_TILE_LUT b t j, 0, 16⟩
/-- R135: offset of BLK_SU_CFG. -/
def BLK_SU_CFG (b u : Nat) : Nat := blk b + 0x1000 + 0x40 * u
def BLK_SU_CFG_INVERT (b u : Nat) : Fld := ⟨BLK_SU_CFG b u, 7, 1⟩
def BLK_SU_CFG_DISCARD1 (b u : Nat) : Fld := ⟨BLK_SU_CFG b u, 6, 1⟩
def BLK_SU_CFG_DISCARD0 (b u : Nat) : Fld := ⟨BLK_SU_CFG b u, 5, 1⟩
def BLK_SU_CFG_DEFAULT (b u : Nat) : Fld := ⟨BLK_SU_CFG b u, 4, 1⟩
def BLK_SU_CFG_TAKE (b u : Nat) : Fld := ⟨BLK_SU_CFG b u, 3, 1⟩
def BLK_SU_CFG_NET (b u : Nat) : Fld := ⟨BLK_SU_CFG b u, 2, 1⟩
def BLK_SU_CFG_MODE (b u : Nat) : Fld := ⟨BLK_SU_CFG b u, 0, 2⟩
/-- R136: offset of BLK_SU_COUNT. -/
def BLK_SU_COUNT (b u : Nat) : Nat := blk b + 0x1008 + 0x40 * u
def BLK_SU_COUNT_TO_OUT1 (b u : Nat) : Fld := ⟨BLK_SU_COUNT b u, 32, 32⟩
def BLK_SU_COUNT_TO_OUT0 (b u : Nat) : Fld := ⟨BLK_SU_COUNT b u, 0, 32⟩
/-- R137: offset of BLK_SU_ERR. -/
def BLK_SU_ERR (b u : Nat) : Nat := blk b + 0x1010 + 0x40 * u
def BLK_SU_ERR_FLUSH_DISCARD (b u : Nat) : Fld := ⟨BLK_SU_ERR b u, 48, 16⟩
def BLK_SU_ERR_DISCARDED (b u : Nat) : Fld := ⟨BLK_SU_ERR b u, 16, 32⟩
def BLK_SU_ERR_MISMATCH (b u : Nat) : Fld := ⟨BLK_SU_ERR b u, 0, 16⟩
/-- R162: offset of BLK_VU_CFG. -/
def BLK_VU_CFG (w : Nat) : Nat := w + 0x0
def BLK_VU_CFG_SCALE_OUT (w : Nat) : Fld := ⟨BLK_VU_CFG w, 7, 1⟩
def BLK_VU_CFG_OUT_USED (w : Nat) : Fld := ⟨BLK_VU_CFG w, 5, 2⟩
def BLK_VU_CFG_IN_USED (w : Nat) : Fld := ⟨BLK_VU_CFG w, 2, 3⟩
def BLK_VU_CFG_LOADED (w : Nat) : Fld := ⟨BLK_VU_CFG w, 0, 1⟩
/-- R163: offset of BLK_VU_STATE. -/
def BLK_VU_STATE (w : Nat) : Nat := w + 0x8
def BLK_VU_STATE_CYCLE_ESQ (w : Nat) : Fld := ⟨BLK_VU_STATE w, 28, 12⟩
def BLK_VU_STATE_REPEAT_POS (w : Nat) : Fld := ⟨BLK_VU_STATE w, 20, 8⟩
def BLK_VU_STATE_STEP (w : Nat) : Fld := ⟨BLK_VU_STATE w, 14, 6⟩
def BLK_VU_STATE_ROW_HELD (w : Nat) : Fld := ⟨BLK_VU_STATE w, 6, 1⟩
def BLK_VU_STATE_ACC_OPEN (w : Nat) : Fld := ⟨BLK_VU_STATE w, 5, 1⟩
def BLK_VU_STATE_FLUSHED (w : Nat) : Fld := ⟨BLK_VU_STATE w, 4, 1⟩
def BLK_VU_STATE_FLUSHING (w : Nat) : Fld := ⟨BLK_VU_STATE w, 3, 1⟩
def BLK_VU_STATE_FAILED (w : Nat) : Fld := ⟨BLK_VU_STATE w, 2, 1⟩
def BLK_VU_STATE_BUSY (w : Nat) : Fld := ⟨BLK_VU_STATE w, 0, 1⟩
/-- R164: offset of BLK_VU_ERR. -/
def BLK_VU_ERR (w : Nat) : Nat := w + 0x10
def BLK_VU_ERR_SAT16 (w : Nat) : Fld := ⟨BLK_VU_ERR w, 48, 16⟩
def BLK_VU_ERR_REREAD (w : Nat) : Fld := ⟨BLK_VU_ERR w, 32, 16⟩
def BLK_VU_ERR_PIPE_PARITY (w : Nat) : Fld := ⟨BLK_VU_ERR w, 16, 16⟩
def BLK_VU_ERR_TAG_MISMATCH (w : Nat) : Fld := ⟨BLK_VU_ERR w, 0, 16⟩
/-- R165: offset of BLK_VU_CYCLES. -/
def BLK_VU_CYCLES (w : Nat) : Nat := w + 0x18
def BLK_VU_CYCLES_FLUSH_DISCARD (w : Nat) : Fld := ⟨BLK_VU_CYCLES w, 48, 16⟩
def BLK_VU_CYCLES_CYCLES (w : Nat) : Fld := ⟨BLK_VU_CYCLES w, 0, 48⟩
/-- R166: offset of BLK_VU_S2. -/
def BLK_VU_S2 (w k : Nat) : Nat := w + 0x40 + 0x8 * k
def BLK_VU_S2_ADAPT_COUNT (w k : Nat) : Fld := ⟨BLK_VU_S2 w k, 48, 16⟩
def BLK_VU_S2_OUT_ZP (w k : Nat) : Fld := ⟨BLK_VU_S2 w k, 40, 8⟩
def BLK_VU_S2_FIXED_Q (w k : Nat) : Fld := ⟨BLK_VU_S2 w k, 32, 8⟩
def BLK_VU_S2_S2_IMAGE (w k : Nat) : Fld := ⟨BLK_VU_S2 w k, 16, 16⟩
def BLK_VU_S2_S2 (w k : Nat) : Fld := ⟨BLK_VU_S2 w k, 0, 16⟩
/-- R167: offset of BLK_VU_QCOUNT. -/
def BLK_VU_QCOUNT (w k c : Nat) : Nat := w + 0x80 + 0x20 * k + 0x8 * c
def BLK_VU_QCOUNT_COUNT (w k c : Nat) : Fld := ⟨BLK_VU_QCOUNT w k c, 0, 48⟩
/-- R168: offset of BLK_VU_UCODE. -/
def BLK_VU_UCODE (w j : Nat) : Nat := w + 0x100 + 0x8 * j
def BLK_VU_UCODE_WORD (w j : Nat) : Fld := ⟨BLK_VU_UCODE w j, 0, 64⟩
/-- R169: offset of BLK_VU_RESCALE. -/
def BLK_VU_RESCALE (w r j : Nat) : Nat := w + 0x400 + 0x100 * r + 0x8 * j
def BLK_VU_RESCALE_SHIFT_ODD (w r j : Nat) : Fld := ⟨BLK_VU_RESCALE w r j, 48, 6⟩
def BLK_VU_RESCALE_MULT_ODD (w r j : Nat) : Fld := ⟨BLK_VU_RESCALE w r j, 32, 16⟩
def BLK_VU_RESCALE_SHIFT_EVEN (w r j : Nat) : Fld := ⟨BLK_VU_RESCALE w r j, 16, 6⟩
def BLK_VU_RESCALE_MULT_EVEN (w r j : Nat) : Fld := ⟨BLK_VU_RESCALE w r j, 0, 16⟩
/-- R170: offset of BLK_VU_ACT. -/
def BLK_VU_ACT (w a j : Nat) : Nat := w + 0x800 + 0x200 * a + 0x8 * j
def BLK_VU_ACT_ENTRY3 (w a j : Nat) : Fld := ⟨BLK_VU_ACT w a j, 48, 16⟩
def BLK_VU_ACT_ENTRY2 (w a j : Nat) : Fld := ⟨BLK_VU_ACT w a j, 32, 16⟩
def BLK_VU_ACT_ENTRY1 (w a j : Nat) : Fld := ⟨BLK_VU_ACT w a j, 16, 16⟩
def BLK_VU_ACT_ENTRY0 (w a j : Nat) : Fld := ⟨BLK_VU_ACT w a j, 0, 16⟩
/-- R189: offset of BLK_VU_S2_LIM. -/
def BLK_VU_S2_LIM (w k : Nat) : Nat := w + 0x60 + 0x8 * k
def BLK_VU_S2_LIM_BLOCKED (w k : Nat) : Fld := ⟨BLK_VU_S2_LIM w k, 32, 16⟩
def BLK_VU_S2_LIM_FLOOR_RUN (w k : Nat) : Fld := ⟨BLK_VU_S2_LIM w k, 24, 4⟩
def BLK_VU_S2_LIM_DOWN_AFTER (w k : Nat) : Fld := ⟨BLK_VU_S2_LIM w k, 16, 4⟩
def BLK_VU_S2_LIM_E2_MAX (w k : Nat) : Fld := ⟨BLK_VU_S2_LIM w k, 8, 6⟩
def BLK_VU_S2_LIM_E2_MIN (w k : Nat) : Fld := ⟨BLK_VU_S2_LIM w k, 0, 6⟩
/-- R228: offset of BLK_MU_STATUS. -/
def BLK_MU_STATUS (b : Nat) : Nat := blk b + 0xe000
def BLK_MU_STATUS_SPARES_EXHAUSTED (b : Nat) : Fld := ⟨BLK_MU_STATUS b, 13, 1⟩
def BLK_MU_STATUS_ROWS_MAPPED (b : Nat) : Fld := ⟨BLK_MU_STATUS b, 8, 5⟩
def BLK_MU_STATUS_RETAINED (b : Nat) : Fld := ⟨BLK_MU_STATUS b, 4, 1⟩
def BLK_MU_STATUS_FLUSHED (b : Nat) : Fld := ⟨BLK_MU_STATUS b, 3, 1⟩
def BLK_MU_STATUS_FLUSHING (b : Nat) : Fld := ⟨BLK_MU_STATUS b, 2, 1⟩
def BLK_MU_STATUS_FAILED (b : Nat) : Fld := ⟨BLK_MU_STATUS b, 1, 1⟩
def BLK_MU_STATUS_LOADED (b : Nat) : Fld := ⟨BLK_MU_STATUS b, 0, 1⟩
/-- R229: offset of BLK_MU_AGU_CFG. -/
def BLK_MU_AGU_CFG (b a : Nat) : Nat := blk b + 0xe008 + 0x18 * a
def BLK_MU_AGU_CFG_WRAP (b a : Nat) : Fld := ⟨BLK_MU_AGU_CFG b a, 41, 17⟩
def BLK_MU_AGU_CFG_STRIDE (b a : Nat) : Fld := ⟨BLK_MU_AGU_CFG b a, 24, 17⟩
def BLK_MU_AGU_CFG_COUNT (b a : Nat) : Fld := ⟨BLK_MU_AGU_CFG b a, 16, 8⟩
def BLK_MU_AGU_CFG_ADVANCE (b a : Nat) : Fld := ⟨BLK_MU_AGU_CFG b a, 5, 1⟩
def BLK_MU_AGU_CFG_INDEXED (b a : Nat) : Fld := ⟨BLK_MU_AGU_CFG b a, 4, 1⟩
def BLK_MU_AGU_CFG_NET (b a : Nat) : Fld := ⟨BLK_MU_AGU_CFG b a, 3, 1⟩
def BLK_MU_AGU_CFG_MODE (b a : Nat) : Fld := ⟨BLK_MU_AGU_CFG b a, 0, 3⟩
/-- R230: offset of BLK_MU_AGU_ADDR. -/
def BLK_MU_AGU_ADDR (b a : Nat) : Nat := blk b + 0xe010 + 0x18 * a
def BLK_MU_AGU_ADDR_PTR (b a : Nat) : Fld := ⟨BLK_MU_AGU_ADDR b a, 32, 17⟩
def BLK_MU_AGU_ADDR_BASE (b a : Nat) : Fld := ⟨BLK_MU_AGU_ADDR b a, 0, 17⟩
/-- R231: offset of BLK_MU_AGU_LB. -/
def BLK_MU_AGU_LB (b a : Nat) : Nat := blk b + 0xe018 + 0x18 * a
def BLK_MU_AGU_LB_COUNT (b a : Nat) : Fld := ⟨BLK_MU_AGU_LB b a, 32, 8⟩
def BLK_MU_AGU_LB_OFFSET (b a : Nat) : Fld := ⟨BLK_MU_AGU_LB b a, 19, 13⟩
def BLK_MU_AGU_LB_LAG (b a : Nat) : Fld := ⟨BLK_MU_AGU_LB b a, 7, 12⟩
def BLK_MU_AGU_LB_PORT (b a : Nat) : Fld := ⟨BLK_MU_AGU_LB b a, 0, 6⟩
/-- R232: offset of BLK_MU_DQ. -/
def BLK_MU_DQ (b : Nat) : Nat := blk b + 0xe038
def BLK_MU_DQ_BASE_MIB (b : Nat) : Fld := ⟨BLK_MU_DQ b, 11, 17⟩
def BLK_MU_DQ_SIZE_MIB (b : Nat) : Fld := ⟨BLK_MU_DQ b, 0, 11⟩
/-- R233: offset of BLK_MU_ERR. -/
def BLK_MU_ERR (b : Nat) : Nat := blk b + 0xe040
def BLK_MU_ERR_FLUSH_DISCARD (b : Nat) : Fld := ⟨BLK_MU_ERR b, 48, 16⟩
def BLK_MU_ERR_REREAD (b : Nat) : Fld := ⟨BLK_MU_ERR b, 32, 16⟩
def BLK_MU_ERR_ZEROED (b : Nat) : Fld := ⟨BLK_MU_ERR b, 16, 16⟩
def BLK_MU_ERR_TAG_MISMATCH (b : Nat) : Fld := ⟨BLK_MU_ERR b, 0, 16⟩
/-- R234: offset of BLK_MU_ACCESS. -/
def BLK_MU_ACCESS (b : Nat) : Nat := blk b + 0xe048
def BLK_MU_ACCESS_BAD_REQ (b : Nat) : Fld := ⟨BLK_MU_ACCESS b, 48, 16⟩
def BLK_MU_ACCESS_DQ_ERROR (b : Nat) : Fld := ⟨BLK_MU_ACCESS b, 32, 16⟩
def BLK_MU_ACCESS_ACCESSES (b : Nat) : Fld := ⟨BLK_MU_ACCESS b, 0, 32⟩
/-- R235: offset of VAT_STATUS. -/
def VAT_STATUS : Nat := 0x200000
def VAT_STATUS_RINGS_VALID : Fld := ⟨VAT_STATUS, 63, 1⟩
def VAT_STATUS_RING_WORDS : Fld := ⟨VAT_STATUS, 34, 26⟩
def VAT_STATUS_USABLE_WORDS : Fld := ⟨VAT_STATUS, 8, 26⟩
def VAT_STATUS_DIE_RETAINED : Fld := ⟨VAT_STATUS, 4, 4⟩
def VAT_STATUS_DIE_AWAKE : Fld := ⟨VAT_STATUS, 0, 4⟩
/-- R236: offset of VAT_ERR. -/
def VAT_ERR : Nat := 0x200008
def VAT_ERR_ZEROED : Fld := ⟨VAT_ERR, 16, 16⟩
def VAT_ERR_REREAD : Fld := ⟨VAT_ERR, 0, 16⟩
/-- R237: offset of VAT_CURD_CTRL. -/
def VAT_CURD_CTRL : Nat := 0x200010
def VAT_CURD_CTRL_BAD_STORE : Fld := ⟨VAT_CURD_CTRL, 2, 1⟩
def VAT_CURD_CTRL_COUNT_CLEAR : Fld := ⟨VAT_CURD_CTRL, 1, 1⟩
def VAT_CURD_CTRL_ENABLE : Fld := ⟨VAT_CURD_CTRL, 0, 1⟩
/-- R238: offset of VAT_CURD_AREA. -/
def VAT_CURD_AREA : Nat := 0x200018
def VAT_CURD_AREA_SIZE_4K : Fld := ⟨VAT_CURD_AREA, 25, 25⟩
def VAT_CURD_AREA_BASE_4K : Fld := ⟨VAT_CURD_AREA, 0, 25⟩
/-- R239: offset of VAT_CURD_PTR. -/
def VAT_CURD_PTR : Nat := 0x200020
def VAT_CURD_PTR_RD : Fld := ⟨VAT_CURD_PTR, 32, 31⟩
def VAT_CURD_PTR_WR : Fld := ⟨VAT_CURD_PTR, 0, 31⟩
/-- R240: offset of VAT_CURD_STAT. -/
def VAT_CURD_STAT : Nat := 0x200028
def VAT_CURD_STAT_TRUNCATED : Fld := ⟨VAT_CURD_STAT, 48, 16⟩
def VAT_CURD_STAT_LOST_FRAMES : Fld := ⟨VAT_CURD_STAT, 32, 16⟩
def VAT_CURD_STAT_STORE_FULL : Fld := ⟨VAT_CURD_STAT, 16, 16⟩
def VAT_CURD_STAT_QUEUE_FULL : Fld := ⟨VAT_CURD_STAT, 0, 16⟩
/-- R241: offset of VAT_CURD_COUNT. -/
def VAT_CURD_COUNT : Nat := 0x200030
def VAT_CURD_COUNT_QUEUED : Fld := ⟨VAT_CURD_COUNT, 32, 11⟩
def VAT_CURD_COUNT_CAPTURES : Fld := ⟨VAT_CURD_COUNT, 0, 32⟩
/-- R242: offset of VAT_DIE_FAIL. -/
def VAT_DIE_FAIL (k : Nat) : Nat := 0x200080 + 0x8 * k
def VAT_DIE_FAIL_GROUP_FAILED (k : Nat) : Fld := ⟨VAT_DIE_FAIL k, 0, 64⟩
/-- R243: offset of VAT_RING. -/
def VAT_RING (p : Nat) : Nat := 0x200100 + 0x8 * p
def VAT_RING_DEPTH_FRAMES (p : Nat) : Fld := ⟨VAT_RING p, 21, 26⟩
def VAT_RING_SLOT_WORDS (p : Nat) : Fld := ⟨VAT_RING p, 8, 13⟩
def VAT_RING_INPUT (p : Nat) : Fld := ⟨VAT_RING p, 6, 1⟩
def VAT_RING_RING_INDEX (p : Nat) : Fld := ⟨VAT_RING p, 0, 6⟩
/-- R244: offset of VAT_CURD_RULE. -/
def VAT_CURD_RULE (r : Nat) : Nat := 0x200400 + 0x20 * r
def VAT_CURD_RULE_POST_FRAMES (r : Nat) : Fld := ⟨VAT_CURD_RULE r, 38, 14⟩
def VAT_CURD_RULE_PRE_FRAMES (r : Nat) : Fld := ⟨VAT_CURD_RULE r, 24, 14⟩
def VAT_CURD_RULE_LINE_MASK (r : Nat) : Fld := ⟨VAT_CURD_RULE r, 8, 16⟩
def VAT_CURD_RULE_CLAMPED (r : Nat) : Fld := ⟨VAT_CURD_RULE r, 5, 1⟩
def VAT_CURD_RULE_TO_STORE (r : Nat) : Fld := ⟨VAT_CURD_RULE r, 4, 1⟩
def VAT_CURD_RULE_STREAM (r : Nat) : Fld := ⟨VAT_CURD_RULE r, 1, 3⟩
def VAT_CURD_RULE_ENABLE (r : Nat) : Fld := ⟨VAT_CURD_RULE r, 0, 1⟩
/-- R245: offset of VAT_CURD_PORTS. -/
def VAT_CURD_PORTS (r : Nat) : Nat := 0x200408 + 0x20 * r
def VAT_CURD_PORTS_PORT_MASK (r : Nat) : Fld := ⟨VAT_CURD_PORTS r, 0, 64⟩
/-- R246: offset of VAT_CURD_DEST. -/
def VAT_CURD_DEST (r : Nat) : Nat := 0x200410 + 0x20 * r
def VAT_CURD_DEST_DEST_MASK (r : Nat) : Fld := ⟨VAT_CURD_DEST r, 0, 64⟩
/-- R247: offset of LPX_STATUS. -/
def LPX_STATUS : Nat := 0x280000
def LPX_STATUS_HOST_WRITE_DROP : Fld := ⟨LPX_STATUS, 16, 32⟩
def LPX_STATUS_SELF_REFRESH : Fld := ⟨LPX_STATUS, 7, 1⟩
def LPX_STATUS_SR_KEPT : Fld := ⟨LPX_STATUS, 6, 1⟩
def LPX_STATUS_PKG_TRAINED : Fld := ⟨LPX_STATUS, 0, 5⟩
/-- R248: offset of LPX_ERR. -/
def LPX_ERR (c : Nat) : Nat := 0x280010 + 0x8 * c
def LPX_ERR_UNCORRECTED (c : Nat) : Fld := ⟨LPX_ERR c, 32, 16⟩
def LPX_ERR_CORRECTED (c : Nat) : Fld := ⟨LPX_ERR c, 0, 32⟩
/-- R249: offset of LPX_REGION. -/
def LPX_REGION (k : Nat) : Nat := 0x280100 + 0x8 * k
def LPX_REGION_SIZE_MIB (k : Nat) : Fld := ⟨LPX_REGION k, 21, 17⟩
def LPX_REGION_BASE_MIB (k : Nat) : Fld := ⟨LPX_REGION k, 4, 17⟩
def LPX_REGION_KIND (k : Nat) : Fld := ⟨LPX_REGION k, 0, 4⟩
/-- R277: offset of RCE_STATUS. -/
def RCE_STATUS : Nat := 0x10000
def RCE_STATUS_SEGMENTS : Fld := ⟨RCE_STATUS, 32, 32⟩
def RCE_STATUS_CAPACITY_LOST : Fld := ⟨RCE_STATUS, 9, 1⟩
def RCE_STATUS_DRAIN_FAILED : Fld := ⟨RCE_STATUS, 8, 1⟩
def RCE_STATUS_IN_FLIGHT : Fld := ⟨RCE_STATUS, 0, 5⟩
/-- R278: offset of RCE_SUBMIT_ADDR. -/
def RCE_SUBMIT_ADDR : Nat := 0x10008
def RCE_SUBMIT_ADDR_ADDR : Fld := ⟨RCE_SUBMIT_ADDR, 6, 58⟩
/-- R279: offset of RCE_SUBMIT. -/
def RCE_SUBMIT : Nat := 0x10010
def RCE_SUBMIT_TAG : Fld := ⟨RCE_SUBMIT, 32, 16⟩
def RCE_SUBMIT_TASKS : Fld := ⟨RCE_SUBMIT, 0, 13⟩
/-- R280: offset of RCE_SUBMIT_RESULT. -/
def RCE_SUBMIT_RESULT : Nat := 0x10018
def RCE_SUBMIT_RESULT_SLOT : Fld := ⟨RCE_SUBMIT_RESULT, 32, 4⟩
def RCE_SUBMIT_RESULT_CODE : Fld := ⟨RCE_SUBMIT_RESULT, 0, 8⟩
/-- R281: offset of RCE_LOAD_CFG. -/
def RCE_LOAD_CFG : Nat := 0x10020
def RCE_LOAD_CFG_MARGIN_PCT : Fld := ⟨RCE_LOAD_CFG, 0, 6⟩
/-- R282: offset of RCE_LOAD_RESULT. -/
def RCE_LOAD_RESULT : Nat := 0x10028
def RCE_LOAD_RESULT_UNIT : Fld := ⟨RCE_LOAD_RESULT, 40, 24⟩
def RCE_LOAD_RESULT_INDEX : Fld := ⟨RCE_LOAD_RESULT, 24, 16⟩
def RCE_LOAD_RESULT_CODE : Fld := ⟨RCE_LOAD_RESULT, 0, 8⟩
/-- R283: offset of RCE_CHAR_QUERY. -/
def RCE_CHAR_QUERY : Nat := 0x10030
def RCE_CHAR_QUERY_TWC_PS : Fld := ⟨RCE_CHAR_QUERY, 32, 16⟩
def RCE_CHAR_QUERY_VFLOOR_MV : Fld := ⟨RCE_CHAR_QUERY, 0, 16⟩
/-- R284: offset of RCE_RUN_CTX. -/
def RCE_RUN_CTX : Nat := 0x10038
def RCE_RUN_CTX_PENDING : Fld := ⟨RCE_RUN_CTX, 32, 32⟩
def RCE_RUN_CTX_RUN_CTX : Fld := ⟨RCE_RUN_CTX, 0, 32⟩
/-- R285: offset of RCE_ARRIVAL. -/
def RCE_ARRIVAL (s : Nat) : Nat := 0x10040 + 0x8 * s
def RCE_ARRIVAL_LIMIT_PS (s : Nat) : Fld := ⟨RCE_ARRIVAL s, 32, 32⟩
def RCE_ARRIVAL_PREDICTED_PS (s : Nat) : Fld := ⟨RCE_ARRIVAL s, 0, 32⟩
/-- R286: offset of RCE_GRAPH. -/
def RCE_GRAPH (g : Nat) : Nat := 0x10100 + 0x8 * g
def RCE_GRAPH_TAG (g : Nat) : Fld := ⟨RCE_GRAPH g, 48, 16⟩
def RCE_GRAPH_FINISHED (g : Nat) : Fld := ⟨RCE_GRAPH g, 35, 13⟩
def RCE_GRAPH_FAILED (g : Nat) : Fld := ⟨RCE_GRAPH g, 22, 13⟩
def RCE_GRAPH_STATE (g : Nat) : Fld := ⟨RCE_GRAPH g, 1, 2⟩
def RCE_GRAPH_ABORT (g : Nat) : Fld := ⟨RCE_GRAPH g, 0, 1⟩
/-- R315: offset of TU_CTRL. -/
def TU_CTRL : Nat := 0x30000
def TU_CTRL_COUNT_CLEAR : Fld := ⟨TU_CTRL, 24, 1⟩
def TU_CTRL_RESYNC : Fld := ⟨TU_CTRL, 23, 1⟩
def TU_CTRL_REVERT : Fld := ⟨TU_CTRL, 22, 1⟩
def TU_CTRL_BACKUP_EN : Fld := ⟨TU_CTRL, 21, 1⟩
def TU_CTRL_BACKUP_PORT : Fld := ⟨TU_CTRL, 15, 6⟩
def TU_CTRL_SOURCE_PORT : Fld := ⟨TU_CTRL, 9, 6⟩
def TU_CTRL_PPS_OUT_EN : Fld := ⟨TU_CTRL, 8, 1⟩
def TU_CTRL_SOURCE : Fld := ⟨TU_CTRL, 0, 2⟩
/-- R316: offset of TU_STATUS. -/
def TU_STATUS : Nat := 0x30008
def TU_STATUS_EPOCH_SKEW : Fld := ⟨TU_STATUS, 48, 16⟩
def TU_STATUS_EPOCH : Fld := ⟨TU_STATUS, 32, 16⟩
def TU_STATUS_RESYNC_REFUSED : Fld := ⟨TU_STATUS, 8, 1⟩
def TU_STATUS_STEP_PENDING : Fld := ⟨TU_STATUS, 7, 1⟩
def TU_STATUS_ON_BACKUP : Fld := ⟨TU_STATUS, 6, 1⟩
def TU_STATUS_SOURCE_LOST : Fld := ⟨TU_STATUS, 5, 1⟩
def TU_STATUS_LOCKED : Fld := ⟨TU_STATUS, 4, 1⟩
def TU_STATUS_TIME_VALID : Fld := ⟨TU_STATUS, 3, 1⟩
def TU_STATUS_BASE_LOST : Fld := ⟨TU_STATUS, 2, 1⟩
def TU_STATUS_PPS_REJECT : Fld := ⟨TU_STATUS, 1, 1⟩
def TU_STATUS_OPENED : Fld := ⟨TU_STATUS, 0, 1⟩
/-- R317: offset of TU_TIME. -/
def TU_TIME : Nat := 0x30010
def TU_TIME_NS : Fld := ⟨TU_TIME, 0, 64⟩
/-- R318: offset of TU_TIME_FRAC. -/
def TU_TIME_FRAC : Nat := 0x30018
def TU_TIME_FRAC_EPOCH : Fld := ⟨TU_TIME_FRAC, 48, 16⟩
def TU_TIME_FRAC_FRAC : Fld := ⟨TU_TIME_FRAC, 0, 32⟩
/-- R319: offset of TU_INC. -/
def TU_INC : Nat := 0x30020
def TU_INC_INC : Fld := ⟨TU_INC, 0, 64⟩
/-- R320: offset of TU_SERVO. -/
def TU_SERVO : Nat := 0x30028
def TU_SERVO_MANUAL_PPB : Fld := ⟨TU_SERVO, 32, 32⟩
def TU_SERVO_KI : Fld := ⟨TU_SERVO, 16, 16⟩
def TU_SERVO_KP : Fld := ⟨TU_SERVO, 0, 16⟩
/-- R321: offset of TU_SERVO_STATE. -/
def TU_SERVO_STATE : Nat := 0x30030
def TU_SERVO_STATE_F_P : Fld := ⟨TU_SERVO_STATE, 32, 32⟩
def TU_SERVO_STATE_F_I : Fld := ⟨TU_SERVO_STATE, 0, 32⟩
/-- R322: offset of TU_OFFSET. -/
def TU_OFFSET : Nat := 0x30038
def TU_OFFSET_BACKUP_PS : Fld := ⟨TU_OFFSET, 32, 32⟩
def TU_OFFSET_SOURCE_PS : Fld := ⟨TU_OFFSET, 0, 32⟩
/-- R323: offset of TU_TIME_SET. -/
def TU_TIME_SET : Nat := 0x30040
def TU_TIME_SET_NS : Fld := ⟨TU_TIME_SET, 0, 64⟩
/-- R324: offset of TU_STEP_CFG. -/
def TU_STEP_CFG : Nat := 0x30048
def TU_STEP_CFG_STEP_PHASE_NS : Fld := ⟨TU_STEP_CFG, 32, 14⟩
def TU_STEP_CFG_STEP_GRID_TICKS : Fld := ⟨TU_STEP_CFG, 16, 13⟩
def TU_STEP_CFG_LEAD_US : Fld := ⟨TU_STEP_CFG, 0, 16⟩
/-- R325: offset of TU_STEP_AT. -/
def TU_STEP_AT : Nat := 0x30050
def TU_STEP_AT_STEP_AT : Fld := ⟨TU_STEP_AT, 0, 64⟩
/-- R326: offset of TU_STEP_INFO. -/
def TU_STEP_INFO : Nat := 0x30058
def TU_STEP_INFO_OPENINGS : Fld := ⟨TU_STEP_INFO, 32, 32⟩
def TU_STEP_INFO_NEW_EPOCH : Fld := ⟨TU_STEP_INFO, 16, 16⟩
/-- R327: offset of TU_PPS. -/
def TU_PPS : Nat := 0x30060
def TU_PPS_PPS_OFFSET_PS : Fld := ⟨TU_PPS, 32, 32⟩
def TU_PPS_PPS_WIDTH_US : Fld := ⟨TU_PPS, 0, 20⟩
/-- R328: offset of TU_TIME_TX. -/
def TU_TIME_TX : Nat := 0x30068
def TU_TIME_TX_PORT_MASK : Fld := ⟨TU_TIME_TX, 0, 64⟩
/-- R329: offset of TU_TRGOUT_CFG. -/
def TU_TRGOUT_CFG (t : Nat) : Nat := 0x30100 + 0x8 * t
def TU_TRGOUT_CFG_LEVEL (t : Nat) : Fld := ⟨TU_TRGOUT_CFG t, 9, 1⟩
def TU_TRGOUT_CFG_INVERT (t : Nat) : Fld := ⟨TU_TRGOUT_CFG t, 8, 1⟩
def TU_TRGOUT_CFG_FINE_10PS (t : Nat) : Fld := ⟨TU_TRGOUT_CFG t, 0, 7⟩
/-- R330: offset of TU_TCAP_CFG. -/
def TU_TCAP_CFG (i : Nat) : Nat := 0x30200 + 0x8 * i
def TU_TCAP_CFG_OVERFLOW (i : Nat) : Fld := ⟨TU_TCAP_CFG i, 48, 16⟩
def TU_TCAP_CFG_MISSED (i : Nat) : Fld := ⟨TU_TCAP_CFG i, 32, 16⟩
def TU_TCAP_CFG_DELAY_PS (i : Nat) : Fld := ⟨TU_TCAP_CFG i, 16, 16⟩
def TU_TCAP_CFG_QUEUED (i : Nat) : Fld := ⟨TU_TCAP_CFG i, 4, 5⟩
def TU_TCAP_CFG_POP (i : Nat) : Fld := ⟨TU_TCAP_CFG i, 3, 1⟩
def TU_TCAP_CFG_EDGE (i : Nat) : Fld := ⟨TU_TCAP_CFG i, 1, 2⟩
/-- R331: offset of TU_TCAP_TIME. -/
def TU_TCAP_TIME (i : Nat) : Nat := 0x30240 + 0x8 * i
def TU_TCAP_TIME_NS (i : Nat) : Fld := ⟨TU_TCAP_TIME i, 0, 64⟩
/-- R332: offset of TU_TCAP_INFO. -/
def TU_TCAP_INFO (i : Nat) : Nat := 0x30280 + 0x8 * i
def TU_TCAP_INFO_EPOCH (i : Nat) : Fld := ⟨TU_TCAP_INFO i, 48, 16⟩
def TU_TCAP_INFO_VALID (i : Nat) : Fld := ⟨TU_TCAP_INFO i, 12, 1⟩
def TU_TCAP_INFO_UNTIMED (i : Nat) : Fld := ⟨TU_TCAP_INFO i, 11, 1⟩
def TU_TCAP_INFO_FALLING (i : Nat) : Fld := ⟨TU_TCAP_INFO i, 10, 1⟩
def TU_TCAP_INFO_FRAC_PS (i : Nat) : Fld := ⟨TU_TCAP_INFO i, 0, 10⟩
/-- R333: offset of TU_SCHED_SEL. -/
def TU_SCHED_SEL : Nat := 0x30300
def TU_SCHED_SEL_REJECT : Fld := ⟨TU_SCHED_SEL, 12, 1⟩
def TU_SCHED_SEL_POP : Fld := ⟨TU_SCHED_SEL, 11, 1⟩
def TU_SCHED_SEL_CMD : Fld := ⟨TU_SCHED_SEL, 8, 3⟩
def TU_SCHED_SEL_INDEX : Fld := ⟨TU_SCHED_SEL, 0, 8⟩
/-- R334: offset of TU_SCHED_TIME. -/
def TU_SCHED_TIME : Nat := 0x30308
def TU_SCHED_TIME_TIME : Fld := ⟨TU_SCHED_TIME, 0, 48⟩
/-- R335: offset of TU_SCHED_PERIOD. -/
def TU_SCHED_PERIOD : Nat := 0x30310
def TU_SCHED_PERIOD_PERIOD_NS : Fld := ⟨TU_SCHED_PERIOD, 0, 40⟩
/-- R336: offset of TU_SCHED_CTRL. -/
def TU_SCHED_CTRL : Nat := 0x30318
def TU_SCHED_CTRL_ARG : Fld := ⟨TU_SCHED_CTRL, 32, 32⟩
def TU_SCHED_CTRL_EPOCH : Fld := ⟨TU_SCHED_CTRL, 16, 16⟩
def TU_SCHED_CTRL_ACTION : Fld := ⟨TU_SCHED_CTRL, 8, 4⟩
def TU_SCHED_CTRL_STATE : Fld := ⟨TU_SCHED_CTRL, 6, 2⟩
def TU_SCHED_CTRL_REL : Fld := ⟨TU_SCHED_CTRL, 4, 1⟩
def TU_SCHED_CTRL_POLICY : Fld := ⟨TU_SCHED_CTRL, 3, 1⟩
def TU_SCHED_CTRL_ENABLE : Fld := ⟨TU_SCHED_CTRL, 2, 1⟩
/-- R337: offset of TU_SCHED_EVENT. -/
def TU_SCHED_EVENT : Nat := 0x30320
def TU_SCHED_EVENT_VALUE : Fld := ⟨TU_SCHED_EVENT, 32, 32⟩
def TU_SCHED_EVENT_EPOCH : Fld := ⟨TU_SCHED_EVENT, 16, 16⟩
def TU_SCHED_EVENT_INDEX : Fld := ⟨TU_SCHED_EVENT, 8, 8⟩
def TU_SCHED_EVENT_CODE : Fld := ⟨TU_SCHED_EVENT, 0, 4⟩
/-- R338: offset of TU_SCHED_STAT. -/
def TU_SCHED_STAT : Nat := 0x30328
def TU_SCHED_STAT_EVENTS_LOST : Fld := ⟨TU_SCHED_STAT, 48, 16⟩
def TU_SCHED_STAT_FIRED : Fld := ⟨TU_SCHED_STAT, 0, 48⟩
/-- R339: offset of TU_PORT_COMP. -/
def TU_PORT_COMP (p : Nat) : Nat := 0x30400 + 0x10 * p
def TU_PORT_COMP_FIBRE_ASYM_PS (p : Nat) : Fld := ⟨TU_PORT_COMP p, 32, 32⟩
def TU_PORT_COMP_RX_FIXED_PS (p : Nat) : Fld := ⟨TU_PORT_COMP p, 16, 16⟩
def TU_PORT_COMP_TX_FIXED_PS (p : Nat) : Fld := ⟨TU_PORT_COMP p, 0, 16⟩
/-- R340: offset of TU_PORT_TIME. -/
def TU_PORT_TIME (p : Nat) : Nat := 0x30408 + 0x10 * p
def TU_PORT_TIME_PATH_PS (p : Nat) : Fld := ⟨TU_PORT_TIME p, 32, 32⟩
def TU_PORT_TIME_CRC_ERR (p : Nat) : Fld := ⟨TU_PORT_TIME p, 16, 16⟩
def TU_PORT_TIME_HOPS (p : Nat) : Fld := ⟨TU_PORT_TIME p, 8, 8⟩
def TU_PORT_TIME_ECHO_OK (p : Nat) : Fld := ⟨TU_PORT_TIME p, 7, 1⟩
def TU_PORT_TIME_SYMBOL_OK (p : Nat) : Fld := ⟨TU_PORT_TIME p, 6, 1⟩
/-- R376: offset of PL_CFG. -/
def PL_CFG (p : Nat) : Nat := plWin p + 0x0
def PL_CFG_SRC_ID (p : Nat) : Fld := ⟨PL_CFG p, 48, 16⟩
def PL_CFG_RESULT_STREAM (p : Nat) : Fld := ⟨PL_CFG p, 44, 3⟩
def PL_CFG_RESULT_EN (p : Nat) : Fld := ⟨PL_CFG p, 43, 1⟩
def PL_CFG_CREDIT_EN (p : Nat) : Fld := ⟨PL_CFG p, 42, 1⟩
def PL_CFG_RETRY_EN (p : Nat) : Fld := ⟨PL_CFG p, 41, 1⟩
def PL_CFG_PAYLOAD_BYTES (p : Nat) : Fld := ⟨PL_CFG p, 19, 19⟩
def PL_CFG_VERSION_MAX (p : Nat) : Fld := ⟨PL_CFG p, 6, 2⟩
def PL_CFG_AUTO_RETRY (p : Nat) : Fld := ⟨PL_CFG p, 5, 1⟩
def PL_CFG_TRAIN_EN (p : Nat) : Fld := ⟨PL_CFG p, 4, 1⟩
def PL_CFG_ROLE (p : Nat) : Fld := ⟨PL_CFG p, 0, 2⟩
/-- R377: offset of PL_CTRL. -/
def PL_CTRL (p : Nat) : Nat := plWin p + 0x8
def PL_CTRL_LOG_POP (p : Nat) : Fld := ⟨PL_CTRL p, 6, 1⟩
def PL_CTRL_COUNT_CLEAR (p : Nat) : Fld := ⟨PL_CTRL p, 5, 1⟩
def PL_CTRL_LOOPBACK (p : Nat) : Fld := ⟨PL_CTRL p, 3, 2⟩
def PL_CTRL_IDLE_REQ (p : Nat) : Fld := ⟨PL_CTRL p, 1, 1⟩
def PL_CTRL_RETRAIN (p : Nat) : Fld := ⟨PL_CTRL p, 0, 1⟩
/-- R378: offset of PL_STATUS. -/
def PL_STATUS (p : Nat) : Nat := plWin p + 0x10
def PL_STATUS_LINK_DROPS (p : Nat) : Fld := ⟨PL_STATUS p, 48, 16⟩
def PL_STATUS_LANE_MAP (p : Nat) : Fld := ⟨PL_STATUS p, 40, 8⟩
def PL_STATUS_PARTNER_MAX (p : Nat) : Fld := ⟨PL_STATUS p, 36, 4⟩
def PL_STATUS_FAIL_CAUSE (p : Nat) : Fld := ⟨PL_STATUS p, 32, 4⟩
def PL_STATUS_FAIL_STATE (p : Nat) : Fld := ⟨PL_STATUS p, 28, 4⟩
def PL_STATUS_ATTEMPTS (p : Nat) : Fld := ⟨PL_STATUS p, 24, 4⟩
def PL_STATUS_LASER_ALARM (p : Nat) : Fld := ⟨PL_STATUS p, 15, 1⟩
def PL_STATUS_PAYLOAD_TOO_LONG (p : Nat) : Fld := ⟨PL_STATUS p, 14, 1⟩
def PL_STATUS_MARGIN_WARN (p : Nat) : Fld := ⟨PL_STATUS p, 13, 1⟩
def PL_STATUS_VERSION (p : Nat) : Fld := ⟨PL_STATUS p, 10, 2⟩
def PL_STATUS_STATE (p : Nat) : Fld := ⟨PL_STATUS p, 0, 4⟩
/-- R379: offset of PL_RX_CNT. -/
def PL_RX_CNT (p : Nat) : Nat := plWin p + 0x18
def PL_RX_CNT_LATE_FRAMES (p : Nat) : Fld := ⟨PL_RX_CNT p, 32, 32⟩
def PL_RX_CNT_FRAMES (p : Nat) : Fld := ⟨PL_RX_CNT p, 0, 32⟩
/-- R380: offset of PL_SEQ. -/
def PL_SEQ (p : Nat) : Nat := plWin p + 0x20
def PL_SEQ_SEQ_VALID (p : Nat) : Fld := ⟨PL_SEQ p, 32, 1⟩
def PL_SEQ_LAST_SEQ (p : Nat) : Fld := ⟨PL_SEQ p, 16, 16⟩
def PL_SEQ_NEXT (p : Nat) : Fld := ⟨PL_SEQ p, 0, 16⟩
/-- R381: offset of PL_FEC. -/
def PL_FEC (p : Nat) : Nat := plWin p + 0x28
def PL_FEC_UNCORRECTABLE (p : Nat) : Fld := ⟨PL_FEC p, 40, 24⟩
def PL_FEC_CORRECTED (p : Nat) : Fld := ⟨PL_FEC p, 0, 40⟩
/-- R382: offset of PL_TX_CNT. -/
def PL_TX_CNT (p : Nat) : Nat := plWin p + 0x30
def PL_TX_CNT_CAPTURES_LOST (p : Nat) : Fld := ⟨PL_TX_CNT p, 48, 16⟩
def PL_TX_CNT_RECORDS_LOST (p : Nat) : Fld := ⟨PL_TX_CNT p, 32, 16⟩
def PL_TX_CNT_RECORDS_SENT (p : Nat) : Fld := ⟨PL_TX_CNT p, 0, 32⟩
/-- R383: offset of PL_CREDIT. -/
def PL_CREDIT (p : Nat) : Nat := plWin p + 0x38
def PL_CREDIT_STALL_BLOCKS (p : Nat) : Fld := ⟨PL_CREDIT p, 32, 32⟩
def PL_CREDIT_CREDIT (p : Nat) : Fld := ⟨PL_CREDIT p, 0, 16⟩
/-- R384: offset of PL_QUAR_CFG. -/
def PL_QUAR_CFG (p : Nat) : Nat := plWin p + 0x40
def PL_QUAR_CFG_WINDOW_US (p : Nat) : Fld := ⟨PL_QUAR_CFG p, 32, 16⟩
def PL_QUAR_CFG_LIMIT (p : Nat) : Fld := ⟨PL_QUAR_CFG p, 0, 16⟩
/-- R385: offset of PL_EVENT_INFO. -/
def PL_EVENT_INFO (p : Nat) : Nat := plWin p + 0x48
def PL_EVENT_INFO_LOG_LOST (p : Nat) : Fld := ⟨PL_EVENT_INFO p, 48, 16⟩
def PL_EVENT_INFO_SEQ (p : Nat) : Fld := ⟨PL_EVENT_INFO p, 32, 16⟩
def PL_EVENT_INFO_EPOCH (p : Nat) : Fld := ⟨PL_EVENT_INFO p, 16, 16⟩
def PL_EVENT_INFO_QUEUED (p : Nat) : Fld := ⟨PL_EVENT_INFO p, 8, 8⟩
def PL_EVENT_INFO_VALID (p : Nat) : Fld := ⟨PL_EVENT_INFO p, 7, 1⟩
def PL_EVENT_INFO_CODE (p : Nat) : Fld := ⟨PL_EVENT_INFO p, 0, 4⟩
/-- R386: offset of PL_EVENT_TIME. -/
def PL_EVENT_TIME (p : Nat) : Nat := plWin p + 0x50
def PL_EVENT_TIME_NS (p : Nat) : Fld := ⟨PL_EVENT_TIME p, 0, 64⟩
/-- R387: offset of PL_VIOL_CNT. -/
def PL_VIOL_CNT (p c : Nat) : Nat := plWin p + 0x80 + 0x8 * c
def PL_VIOL_CNT_COUNT (p c : Nat) : Fld := ⟨PL_VIOL_CNT p c, 0, 32⟩
/-- R388: offset of PL_LANE_EQ. -/
def PL_LANE_EQ (p l : Nat) : Nat := plWin p + 0x200 + 0x40 * l
def PL_LANE_EQ_FREEZE (p l : Nat) : Fld := ⟨PL_LANE_EQ p l, 63, 1⟩
def PL_LANE_EQ_TAP_SEL (p l : Nat) : Fld := ⟨PL_LANE_EQ p l, 54, 4⟩
def PL_LANE_EQ_TAP_VALUE (p l : Nat) : Fld := ⟨PL_LANE_EQ p l, 32, 16⟩
/-- R389: offset of PL_LANE_SLIP. -/
def PL_LANE_SLIP (p l : Nat) : Nat := plWin p + 0x208 + 0x40 * l
def PL_LANE_SLIP_SLIP_TOTAL (p l : Nat) : Fld := ⟨PL_LANE_SLIP p l, 8, 8⟩
def PL_LANE_SLIP_SLIP (p l : Nat) : Fld := ⟨PL_LANE_SLIP p l, 0, 1⟩
/-- R390: offset of PL_LANE_PRBS. -/
def PL_LANE_PRBS (p l : Nat) : Nat := plWin p + 0x210 + 0x40 * l
def PL_LANE_PRBS_RX_LOCK (p l : Nat) : Fld := ⟨PL_LANE_PRBS p l, 14, 1⟩
def PL_LANE_PRBS_INJECT_ONE (p l : Nat) : Fld := ⟨PL_LANE_PRBS p l, 13, 1⟩
def PL_LANE_PRBS_INJECT_RATE_LOG2 (p l : Nat) : Fld := ⟨PL_LANE_PRBS p l, 8, 5⟩
def PL_LANE_PRBS_INVERT (p l : Nat) : Fld := ⟨PL_LANE_PRBS p l, 7, 1⟩
def PL_LANE_PRBS_RX_PATTERN (p l : Nat) : Fld := ⟨PL_LANE_PRBS p l, 4, 3⟩
def PL_LANE_PRBS_TX_PATTERN (p l : Nat) : Fld := ⟨PL_LANE_PRBS p l, 0, 3⟩
/-- R391: offset of PL_LANE_STAT. -/
def PL_LANE_STAT (p l : Nat) : Nat := plWin p + 0x218 + 0x40 * l
def PL_LANE_STAT_PRBS_ERRORS (p l : Nat) : Fld := ⟨PL_LANE_STAT p l, 32, 32⟩
def PL_LANE_STAT_CORRECTED_BITS (p l : Nat) : Fld := ⟨PL_LANE_STAT p l, 0, 32⟩
/-- R392: offset of PL_LASER. -/
def PL_LASER (k : Nat) : Nat := plWin (4 * k) + 0x800
def PL_LASER_POWER_UW (k : Nat) : Fld := ⟨PL_LASER k, 48, 16⟩
def PL_LASER_WARN_UW (k : Nat) : Fld := ⟨PL_LASER k, 32, 16⟩
def PL_LASER_ALARM_UW (k : Nat) : Fld := ⟨PL_LASER k, 16, 16⟩
def PL_LASER_LOS_UW (k : Nat) : Fld := ⟨PL_LASER k, 4, 12⟩
def PL_LASER_LOS (k : Nat) : Fld := ⟨PL_LASER k, 2, 1⟩
def PL_LASER_ALARM (k : Nat) : Fld := ⟨PL_LASER k, 1, 1⟩
def PL_LASER_WARN (k : Nat) : Fld := ⟨PL_LASER k, 0, 1⟩
/-- R419: offset of GLB_ID. -/
def GLB_ID : Nat := 0x0
def GLB_ID_PART : Fld := ⟨GLB_ID, 16, 16⟩
def GLB_ID_GRADE : Fld := ⟨GLB_ID, 8, 4⟩
def GLB_ID_STEPPING : Fld := ⟨GLB_ID, 0, 4⟩
/-- R420: offset of GLB_SERIAL. -/
def GLB_SERIAL : Nat := 0x8
def GLB_SERIAL_SERIAL : Fld := ⟨GLB_SERIAL, 0, 64⟩
/-- R421: offset of GLB_FW_VERSION. -/
def GLB_FW_VERSION : Nat := 0x10
def GLB_FW_VERSION_MAJOR : Fld := ⟨GLB_FW_VERSION, 48, 16⟩
def GLB_FW_VERSION_MINOR : Fld := ⟨GLB_FW_VERSION, 32, 16⟩
def GLB_FW_VERSION_BUILD : Fld := ⟨GLB_FW_VERSION, 0, 32⟩
/-- R422: offset of GLB_STATUS. -/
def GLB_STATUS : Nat := 0x18
def GLB_STATUS_BAD_ACCESS : Fld := ⟨GLB_STATUS, 7, 1⟩
def GLB_STATUS_UNMAPPED : Fld := ⟨GLB_STATUS, 6, 1⟩
def GLB_STATUS_CACHE_EN : Fld := ⟨GLB_STATUS, 5, 1⟩
def GLB_STATUS_MEM_EN : Fld := ⟨GLB_STATUS, 4, 1⟩
def GLB_STATUS_FALLBACK : Fld := ⟨GLB_STATUS, 3, 1⟩
def GLB_STATUS_LINK_DOWN_SEEN : Fld := ⟨GLB_STATUS, 2, 1⟩
def GLB_STATUS_RECOVERY : Fld := ⟨GLB_STATUS, 1, 1⟩
def GLB_STATUS_READY : Fld := ⟨GLB_STATUS, 0, 1⟩
/-- R423: offset of GLB_CQ_BASE. -/
def GLB_CQ_BASE : Nat := 0x20
def GLB_CQ_BASE_ADDR : Fld := ⟨GLB_CQ_BASE, 6, 58⟩
def GLB_CQ_BASE_LOC : Fld := ⟨GLB_CQ_BASE, 0, 1⟩
/-- R424: offset of GLB_CQ_CFG. -/
def GLB_CQ_CFG : Nat := 0x28
def GLB_CQ_CFG_HOLDOFF_US : Fld := ⟨GLB_CQ_CFG, 16, 12⟩
def GLB_CQ_CFG_STAT_CLEAR : Fld := ⟨GLB_CQ_CFG, 9, 1⟩
def GLB_CQ_CFG_ENABLE : Fld := ⟨GLB_CQ_CFG, 8, 1⟩
def GLB_CQ_CFG_ENTRIES_LOG2 : Fld := ⟨GLB_CQ_CFG, 0, 5⟩
/-- R425: offset of GLB_CQ_HEAD. -/
def GLB_CQ_HEAD : Nat := 0x30
def GLB_CQ_HEAD_HEAD : Fld := ⟨GLB_CQ_HEAD, 0, 16⟩
/-- R426: offset of GLB_CQ_TAIL. -/
def GLB_CQ_TAIL : Nat := 0x38
def GLB_CQ_TAIL_PHASE : Fld := ⟨GLB_CQ_TAIL, 16, 1⟩
def GLB_CQ_TAIL_TAIL : Fld := ⟨GLB_CQ_TAIL, 0, 16⟩
/-- R427: offset of GLB_CQ_STAT. -/
def GLB_CQ_STAT : Nat := 0x40
def GLB_CQ_STAT_HELD : Fld := ⟨GLB_CQ_STAT, 48, 6⟩
def GLB_CQ_STAT_DROPPED : Fld := ⟨GLB_CQ_STAT, 32, 16⟩
def GLB_CQ_STAT_WRITTEN : Fld := ⟨GLB_CQ_STAT, 0, 32⟩
/-- R428: offset of GLB_ALERT_MASK. -/
def GLB_ALERT_MASK : Nat := 0x48
def GLB_ALERT_MASK_ENABLE : Fld := ⟨GLB_ALERT_MASK, 1, 14⟩
/-- R429: offset of DP_ADDR. -/
def DP_ADDR : Nat := 0x20000
def DP_ADDR_ADDR : Fld := ⟨DP_ADDR, 3, 61⟩
/-- R430: offset of DP_CTRL. -/
def DP_CTRL : Nat := 0x20008
def DP_CTRL_UNITS : Fld := ⟨DP_CTRL, 12, 10⟩
def DP_CTRL_INC : Fld := ⟨DP_CTRL, 4, 2⟩
def DP_CTRL_DIR : Fld := ⟨DP_CTRL, 3, 1⟩
def DP_CTRL_ABORT : Fld := ⟨DP_CTRL, 2, 1⟩
def DP_CTRL_START : Fld := ⟨DP_CTRL, 0, 1⟩
/-- R431: offset of DP_STATUS. -/
def DP_STATUS : Nat := 0x20010
def DP_STATUS_DONE_UNITS : Fld := ⟨DP_STATUS, 32, 10⟩
def DP_STATUS_AVAIL : Fld := ⟨DP_STATUS, 16, 10⟩
def DP_STATUS_ERR : Fld := ⟨DP_STATUS, 8, 4⟩
def DP_STATUS_DONE : Fld := ⟨DP_STATUS, 1, 1⟩
def DP_STATUS_BUSY : Fld := ⟨DP_STATUS, 0, 1⟩
/-- R432: offset of DP_ERR_ADDR. -/
def DP_ERR_ADDR : Nat := 0x20018
def DP_ERR_ADDR_ADDR : Fld := ⟨DP_ERR_ADDR, 0, 64⟩
/-- R462: offset of FAB_LEDGER_STATUS. -/
def FAB_LEDGER_STATUS : Nat := 0x81000
def FAB_LEDGER_STATUS_LEDGER_LOST : Fld := ⟨FAB_LEDGER_STATUS, 48, 16⟩
def FAB_LEDGER_STATUS_ENTRIES : Fld := ⟨FAB_LEDGER_STATUS, 32, 11⟩
def FAB_LEDGER_STATUS_FULL : Fld := ⟨FAB_LEDGER_STATUS, 1, 1⟩
def FAB_LEDGER_STATUS_NEW : Fld := ⟨FAB_LEDGER_STATUS, 0, 1⟩
/-- R463: offset of FAB_LEDGER_CTRL. -/
def FAB_LEDGER_CTRL : Nat := 0x81008
def FAB_LEDGER_CTRL_COUNT_CLEAR : Fld := ⟨FAB_LEDGER_CTRL, 1, 1⟩
def FAB_LEDGER_CTRL_CLEAR : Fld := ⟨FAB_LEDGER_CTRL, 0, 1⟩
/-- R464: offset of FAB_LEDGER_SEL. -/
def FAB_LEDGER_SEL : Nat := 0x81010
def FAB_LEDGER_SEL_INDEX : Fld := ⟨FAB_LEDGER_SEL, 0, 10⟩
/-- R465: offset of FAB_LEDGER_A. -/
def FAB_LEDGER_A : Nat := 0x81018
def FAB_LEDGER_A_COUNT : Fld := ⟨FAB_LEDGER_A, 32, 32⟩
def FAB_LEDGER_A_KIND : Fld := ⟨FAB_LEDGER_A, 24, 8⟩
def FAB_LEDGER_A_UNIT : Fld := ⟨FAB_LEDGER_A, 0, 24⟩
/-- R466: offset of FAB_LEDGER_B. -/
def FAB_LEDGER_B : Nat := 0x81020
def FAB_LEDGER_B_REPORTER : Fld := ⟨FAB_LEDGER_B, 40, 24⟩
def FAB_LEDGER_B_LAST_ESQ : Fld := ⟨FAB_LEDGER_B, 28, 12⟩
def FAB_LEDGER_B_FIRST_ESQ : Fld := ⟨FAB_LEDGER_B, 16, 12⟩
def FAB_LEDGER_B_HARD : Fld := ⟨FAB_LEDGER_B, 2, 1⟩
def FAB_LEDGER_B_VOIDS : Fld := ⟨FAB_LEDGER_B, 1, 1⟩
def FAB_LEDGER_B_VALID : Fld := ⟨FAB_LEDGER_B, 0, 1⟩
/-- R467: offset of FAB_LEDGER_C. -/
def FAB_LEDGER_C : Nat := 0x81028
def FAB_LEDGER_C_EPOCH : Fld := ⟨FAB_LEDGER_C, 48, 16⟩
def FAB_LEDGER_C_FIRST_STAMP : Fld := ⟨FAB_LEDGER_C, 0, 48⟩
/-- R468: offset of FAB_LEDGER_D. -/
def FAB_LEDGER_D : Nat := 0x81030
def FAB_LEDGER_D_SEGMENT : Fld := ⟨FAB_LEDGER_D, 32, 32⟩
def FAB_LEDGER_D_RUN_CTX : Fld := ⟨FAB_LEDGER_D, 0, 32⟩
/-- R469: offset of FAB_LEDGER_MAP. -/
def FAB_LEDGER_MAP (k : Nat) : Nat := 0x81038 + 0x8 * k
def FAB_LEDGER_MAP_BLOCKS (k : Nat) : Fld := ⟨FAB_LEDGER_MAP k, 0, 64⟩
/-- R470: offset of FAB_ESQ_LEDGER. -/
def FAB_ESQ_LEDGER : Nat := 0x81058
def FAB_ESQ_LEDGER_VALID : Fld := ⟨FAB_ESQ_LEDGER, 26, 1⟩
def FAB_ESQ_LEDGER_INDEX : Fld := ⟨FAB_ESQ_LEDGER, 16, 10⟩
def FAB_ESQ_LEDGER_ESQ : Fld := ⟨FAB_ESQ_LEDGER, 0, 12⟩
/-- R471: offset of FAB_REPLAY. -/
def FAB_REPLAY : Nat := 0x81080
def FAB_REPLAY_ZERO_FORWARDS : Fld := ⟨FAB_REPLAY, 40, 24⟩
def FAB_REPLAY_REPLAYS : Fld := ⟨FAB_REPLAY, 0, 40⟩
/-- R472: offset of FAB_TIE_T2. -/
def FAB_TIE_T2 : Nat := 0x81088
def FAB_TIE_T2_COUNT : Fld := ⟨FAB_TIE_T2, 0, 48⟩
/-- R473: offset of FAB_DL_CFG. -/
def FAB_DL_CFG : Nat := 0x82000
def FAB_DL_CFG_ENABLE : Fld := ⟨FAB_DL_CFG, 16, 1⟩
def FAB_DL_CFG_THRESHOLD_TURNS : Fld := ⟨FAB_DL_CFG, 0, 16⟩
/-- R474: offset of FAB_DL_STAT. -/
def FAB_DL_STAT : Nat := 0x82008
def FAB_DL_STAT_PROBES : Fld := ⟨FAB_DL_STAT, 48, 16⟩
def FAB_DL_STAT_CYCLES : Fld := ⟨FAB_DL_STAT, 32, 16⟩
def FAB_DL_STAT_ABANDONED : Fld := ⟨FAB_DL_STAT, 16, 16⟩
def FAB_DL_STAT_EXHAUSTED : Fld := ⟨FAB_DL_STAT, 0, 16⟩
/-- R475: offset of FAB_DL_SPILL. -/
def FAB_DL_SPILL : Nat := 0x82010
def FAB_DL_SPILL_ACTIVE : Fld := ⟨FAB_DL_SPILL, 48, 1⟩
def FAB_DL_SPILL_HELD : Fld := ⟨FAB_DL_SPILL, 32, 16⟩
def FAB_DL_SPILL_LAST_QUEUE : Fld := ⟨FAB_DL_SPILL, 0, 18⟩
/-- R490: offset of FAB_OBS_CTRL. -/
def FAB_OBS_CTRL : Nat := 0x83000
def FAB_OBS_CTRL_FAIL_SELECTOR : Fld := ⟨FAB_OBS_CTRL, 16, 8⟩
def FAB_OBS_CTRL_TAKE_SELECTOR : Fld := ⟨FAB_OBS_CTRL, 8, 8⟩
def FAB_OBS_CTRL_TAKE : Fld := ⟨FAB_OBS_CTRL, 3, 1⟩
def FAB_OBS_CTRL_STALL_CLEAR : Fld := ⟨FAB_OBS_CTRL, 2, 1⟩
def FAB_OBS_CTRL_FREEZE : Fld := ⟨FAB_OBS_CTRL, 1, 1⟩
/-- R491: offset of FAB_FLUSH_STATUS. -/
def FAB_FLUSH_STATUS : Nat := 0x83008
def FAB_FLUSH_STATUS_EGRESS_EXPECTED : Fld := ⟨FAB_FLUSH_STATUS, 16, 16⟩
def FAB_FLUSH_STATUS_EGRESS_FLUSHED : Fld := ⟨FAB_FLUSH_STATUS, 0, 16⟩
/-- R492: offset of FAB_SNAP_AREA. -/
def FAB_SNAP_AREA : Nat := 0x83010
def FAB_SNAP_AREA_SLOT_64K : Fld := ⟨FAB_SNAP_AREA, 48, 8⟩
def FAB_SNAP_AREA_SLOTS : Fld := ⟨FAB_SNAP_AREA, 32, 8⟩
def FAB_SNAP_AREA_BASE_4K : Fld := ⟨FAB_SNAP_AREA, 0, 25⟩
/-- R493: offset of FAB_SNAP_STATUS. -/
def FAB_SNAP_STATUS : Nat := 0x83018
def FAB_SNAP_STATUS_SNAP_SEQ : Fld := ⟨FAB_SNAP_STATUS, 32, 32⟩
def FAB_SNAP_STATUS_MISSED : Fld := ⟨FAB_SNAP_STATUS, 16, 16⟩
def FAB_SNAP_STATUS_NEXT_SLOT : Fld := ⟨FAB_SNAP_STATUS, 8, 8⟩
def FAB_SNAP_STATUS_BAD_AREA : Fld := ⟨FAB_SNAP_STATUS, 3, 1⟩
def FAB_SNAP_STATUS_TRUNCATED : Fld := ⟨FAB_SNAP_STATUS, 2, 1⟩
def FAB_SNAP_STATUS_DONE : Fld := ⟨FAB_SNAP_STATUS, 1, 1⟩
def FAB_SNAP_STATUS_BUSY : Fld := ⟨FAB_SNAP_STATUS, 0, 1⟩
/-- R494: offset of BLK_QSTAT_SCALAR. -/
def BLK_QSTAT (b net i : Nat) : Nat := blk b + qstatBase net + 8 * i
def BLK_QSTAT_STALL_TURNS (b net i : Nat) : Fld := ⟨BLK_QSTAT b net i, 32, 32⟩
def BLK_QSTAT_SPILL_HELD (b net i : Nat) : Fld := ⟨BLK_QSTAT b net i, 16, 13⟩
def BLK_QSTAT_REPORTS (b net i : Nat) : Fld := ⟨BLK_QSTAT b net i, 8, 8⟩
def BLK_QSTAT_OCC_MAX (b net i : Nat) : Fld := ⟨BLK_QSTAT b net i, 0, 7⟩
/-- R495: offset of BLK_UNIT_WAIT. -/
def BLK_UNIT_WAIT (b k : Nat) : Nat := blk b + 0xf600 + 0x10 * k
def BLK_UNIT_WAIT_OUT_WAIT_TURNS (b k : Nat) : Fld := ⟨BLK_UNIT_WAIT b k, 32, 32⟩
def BLK_UNIT_WAIT_IN_WAIT_TURNS (b k : Nat) : Fld := ⟨BLK_UNIT_WAIT b k, 0, 32⟩
/-- R496: offset of BLK_UNIT_BUSY. -/
def BLK_UNIT_BUSY (b k : Nat) : Nat := blk b + 0xf608 + 0x10 * k
def BLK_UNIT_BUSY_BUSY_TURNS (b k : Nat) : Fld := ⟨BLK_UNIT_BUSY b k, 32, 32⟩
def BLK_UNIT_BUSY_WAIT_ON (b k : Nat) : Fld := ⟨BLK_UNIT_BUSY b k, 8, 8⟩
def BLK_UNIT_BUSY_WAIT_NET (b k : Nat) : Fld := ⟨BLK_UNIT_BUSY b k, 4, 2⟩
def BLK_UNIT_BUSY_WAIT_STATE (b k : Nat) : Fld := ⟨BLK_UNIT_BUSY b k, 0, 2⟩
/-- R513: offset of PWR_STATUS. -/
def PWR_STATUS : Nat := 0x300000
def PWR_STATUS_TEMP_MAX : Fld := ⟨PWR_STATUS, 48, 16⟩
def PWR_STATUS_HOT_SENSOR : Fld := ⟨PWR_STATUS, 40, 8⟩
def PWR_STATUS_TRIPPED : Fld := ⟨PWR_STATUS, 7, 1⟩
def PWR_STATUS_HOT_LOCK : Fld := ⟨PWR_STATUS, 6, 1⟩
def PWR_STATUS_UV_WARN : Fld := ⟨PWR_STATUS, 5, 1⟩
def PWR_STATUS_CRIT : Fld := ⟨PWR_STATUS, 4, 1⟩
def PWR_STATUS_WARN : Fld := ⟨PWR_STATUS, 3, 1⟩
def PWR_STATUS_COOL_REQ : Fld := ⟨PWR_STATUS, 2, 1⟩
def PWR_STATUS_REQ_REFUSED : Fld := ⟨PWR_STATUS, 1, 1⟩
/-- R514: offset of PWR_THERM_CFG. -/
def PWR_THERM_CFG : Nat := 0x300008
def PWR_THERM_CFG_PEAK_CLEAR : Fld := ⟨PWR_THERM_CFG, 32, 1⟩
def PWR_THERM_CFG_CRIT_DC : Fld := ⟨PWR_THERM_CFG, 16, 16⟩
def PWR_THERM_CFG_WARN_DC : Fld := ⟨PWR_THERM_CFG, 0, 16⟩
/-- R515: offset of PWR_AVC_CFG. -/
def PWR_AVC_CFG : Nat := 0x300010
def PWR_AVC_CFG_START_MV : Fld := ⟨PWR_AVC_CFG, 48, 16⟩
def PWR_AVC_CFG_VMAX_MV : Fld := ⟨PWR_AVC_CFG, 32, 16⟩
def PWR_AVC_CFG_INTERVAL_US : Fld := ⟨PWR_AVC_CFG, 20, 12⟩
def PWR_AVC_CFG_HYST_TICKS : Fld := ⟨PWR_AVC_CFG, 12, 8⟩
def PWR_AVC_CFG_TARGET_SLACK_TICKS : Fld := ⟨PWR_AVC_CFG, 2, 10⟩
def PWR_AVC_CFG_MODE : Fld := ⟨PWR_AVC_CFG, 0, 2⟩
/-- R516: offset of PWR_INPUT. -/
def PWR_INPUT : Nat := 0x300018
def PWR_INPUT_POWER_PEAK_W : Fld := ⟨PWR_INPUT, 48, 16⟩
def PWR_INPUT_POWER_W : Fld := ⟨PWR_INPUT, 32, 16⟩
def PWR_INPUT_MAIN_DA : Fld := ⟨PWR_INPUT, 16, 16⟩
def PWR_INPUT_MAIN_MV : Fld := ⟨PWR_INPUT, 0, 16⟩
/-- R517: offset of PWR_ENERGY. -/
def PWR_ENERGY : Nat := 0x300020
def PWR_ENERGY_ENERGY_MJ : Fld := ⟨PWR_ENERGY, 0, 64⟩
/-- R518: offset of PWR_DOMAIN_CTRL. -/
def PWR_DOMAIN_CTRL (k : Nat) : Nat := 0x300100 + 0x8 * k
def PWR_DOMAIN_CTRL_FIXED_MV (k : Nat) : Fld := ⟨PWR_DOMAIN_CTRL k, 16, 16⟩
def PWR_DOMAIN_CTRL_REQ (k : Nat) : Fld := ⟨PWR_DOMAIN_CTRL k, 0, 2⟩
/-- R519: offset of PWR_DOMAIN_STAT. -/
def PWR_DOMAIN_STAT (k : Nat) : Nat := 0x300200 + 0x8 * k
def PWR_DOMAIN_STAT_FLOOR_MV (k : Nat) : Fld := ⟨PWR_DOMAIN_STAT k, 48, 16⟩
def PWR_DOMAIN_STAT_V_MV (k : Nat) : Fld := ⟨PWR_DOMAIN_STAT k, 32, 16⟩
def PWR_DOMAIN_STAT_AVC_STREAMS (k : Nat) : Fld := ⟨PWR_DOMAIN_STAT k, 16, 8⟩
def PWR_DOMAIN_STAT_FAULT (k : Nat) : Fld := ⟨PWR_DOMAIN_STAT k, 8, 8⟩
def PWR_DOMAIN_STAT_CLAIMED (k : Nat) : Fld := ⟨PWR_DOMAIN_STAT k, 2, 1⟩
def PWR_DOMAIN_STAT_STATE (k : Nat) : Fld := ⟨PWR_DOMAIN_STAT k, 0, 2⟩
/-- R520: offset of PWR_AVC_STAT. -/
def PWR_AVC_STAT (d : Nat) : Nat := 0x300300 + 0x8 * d
def PWR_AVC_STAT_LATE_STEPS (d : Nat) : Fld := ⟨PWR_AVC_STAT d, 48, 16⟩
def PWR_AVC_STAT_UP_STEPS (d : Nat) : Fld := ⟨PWR_AVC_STAT d, 32, 16⟩
def PWR_AVC_STAT_DOWN_STEPS (d : Nat) : Fld := ⟨PWR_AVC_STAT d, 16, 16⟩
def PWR_AVC_STAT_WIN_SLACK (d : Nat) : Fld := ⟨PWR_AVC_STAT d, 0, 16⟩
/-- R521: offset of PWR_TEMP. -/
def PWR_TEMP (k : Nat) : Nat := 0x300400 + 0x8 * k
def PWR_TEMP_TEMP_PEAK (k : Nat) : Fld := ⟨PWR_TEMP k, 16, 16⟩
def PWR_TEMP_TEMP (k : Nat) : Fld := ⟨PWR_TEMP k, 0, 16⟩
/-- R561: offset of SEC_STATUS. -/
def SEC_STATUS : Nat := 0x380000
def SEC_STATUS_REQUIRE_SIGNED : Fld := ⟨SEC_STATUS, 4, 1⟩
def SEC_STATUS_OWNER_ENROLLED : Fld := ⟨SEC_STATUS, 3, 1⟩
def SEC_STATUS_IDENTITY_OK : Fld := ⟨SEC_STATUS, 2, 1⟩
def SEC_STATUS_RECOVERY : Fld := ⟨SEC_STATUS, 1, 1⟩
def SEC_STATUS_FW_VERIFIED : Fld := ⟨SEC_STATUS, 0, 1⟩
/-- R562: offset of SEC_BOOT. -/
def SEC_BOOT : Nat := 0x380008
def SEC_BOOT_READY_US : Fld := ⟨SEC_BOOT, 32, 32⟩
def SEC_BOOT_BOOT_STEP : Fld := ⟨SEC_BOOT, 4, 4⟩
def SEC_BOOT_BOOT_ERR : Fld := ⟨SEC_BOOT, 0, 4⟩
/-- R563: offset of SEC_FW. -/
def SEC_FW : Nat := 0x380010
def SEC_FW_MIN_SVN : Fld := ⟨SEC_FW, 32, 32⟩
def SEC_FW_SVN : Fld := ⟨SEC_FW, 0, 32⟩
/-- R564: offset of SEC_FW_DIGEST. -/
def SEC_FW_DIGEST (k : Nat) : Nat := 0x380018 + 0x8 * k
def SEC_FW_DIGEST_DIGEST (k : Nat) : Fld := ⟨SEC_FW_DIGEST k, 0, 64⟩
/-- R565: offset of SEC_OWNER_SEQ. -/
def SEC_OWNER_SEQ : Nat := 0x380038
def SEC_OWNER_SEQ_POLICY_SEQ : Fld := ⟨SEC_OWNER_SEQ, 32, 32⟩
def SEC_OWNER_SEQ_ENROL_SEQ : Fld := ⟨SEC_OWNER_SEQ, 0, 32⟩
/-- R566: offset of SEC_OWNER_MIN. -/
def SEC_OWNER_MIN : Nat := 0x380040
def SEC_OWNER_MIN_MIN_FW_SVN : Fld := ⟨SEC_OWNER_MIN, 0, 32⟩
/-- R567: offset of SEC_OWNER_DIGEST. -/
def SEC_OWNER_DIGEST (k : Nat) : Nat := 0x380048 + 0x8 * k
def SEC_OWNER_DIGEST_DIGEST (k : Nat) : Fld := ⟨SEC_OWNER_DIGEST k, 0, 64⟩
/-- R568: offset of SEC_UPDATE. -/
def SEC_UPDATE : Nat := 0x380068
def SEC_UPDATE_PROGRAMMED_KIB : Fld := ⟨SEC_UPDATE, 32, 32⟩
def SEC_UPDATE_UPDATE_STATE : Fld := ⟨SEC_UPDATE, 0, 3⟩
/-- R569: offset of SEC_ATTEST. -/
def SEC_ATTEST : Nat := 0x380070
def SEC_ATTEST_ATTEST_COUNT : Fld := ⟨SEC_ATTEST, 0, 32⟩
/-- R570: offset of SEC_STEP_END. -/
def SEC_STEP_END (s : Nat) : Nat := 0x380100 + 0x8 * s
def SEC_STEP_END_END_US (s : Nat) : Fld := ⟨SEC_STEP_END s, 0, 32⟩
/-- R97: offset of the switch table register of sink i on network net. -/
def BLK_SW (b net i : Nat) : Nat := blk b + swBase net + 8 * i
def BLK_SW_DEPTH (b net i : Nat) : Fld := ⟨BLK_SW b net i, 8, 6⟩
def BLK_SW_SRC (b net i : Nat) : Fld := ⟨BLK_SW b net i, 1, 7⟩
def BLK_SW_VALID (b net i : Nat) : Fld := ⟨BLK_SW b net i, 0, 1⟩
/-- R497: offsets of the spare VU unit counters. -/
def FAB_SPARE_UNIT_WAIT (j : Nat) : Nat := 0x83100 + 0x10 * j
def FAB_SPARE_UNIT_BUSY (j : Nat) : Nat := 0x83108 + 0x10 * j

end Sys2Proof.Machine
end

