-- ==== Sys2Proof/Machine/RegTable.lean ====
section
/-!
DEFINITION. Which BAR0 offsets hold a register, which of its bits the host writes by access code (R11), and the
reset value of every offset as the spec's register tables give it.
-/

namespace Sys2Proof.Machine

/-- One register or array of registers: first offset, (count, stride) of each index, largest stride first, the bits of
its RW, W1C and WO fields, and whether it is fabric configuration, whose host writes are dropped (R89). -/
structure RegDesc where
  base : Nat
  dims : List (Nat × Nat)
  rw : Nat
  w1c : Nat
  wo : Nat
  cfg : Bool
  deriving DecidableEq, Repr

def regTable0 : List RegDesc := [
  ⟨0x0, [], 0x0, 0x0, 0x0, false⟩, -- GLB_ID
  ⟨0x8, [], 0x0, 0x0, 0x0, false⟩, -- GLB_SERIAL
  ⟨0x10, [], 0x0, 0x0, 0x0, false⟩, -- GLB_FW_VERSION
  ⟨0x18, [], 0x0, 0xc4, 0x0, false⟩, -- GLB_STATUS
  ⟨0x20, [], 0xffffffffffffffc1, 0x0, 0x0, false⟩, -- GLB_CQ_BASE
  ⟨0x28, [], 0xfff011f, 0x0, 0x200, false⟩, -- GLB_CQ_CFG
  ⟨0x30, [], 0xffff, 0x0, 0x0, false⟩, -- GLB_CQ_HEAD
  ⟨0x38, [], 0x0, 0x0, 0x0, false⟩, -- GLB_CQ_TAIL
  ⟨0x40, [], 0x0, 0x0, 0x0, false⟩, -- GLB_CQ_STAT
  ⟨0x48, [], 0x7ffe, 0x0, 0x0, false⟩, -- GLB_ALERT_MASK
  ⟨0x10000, [], 0x0, 0x100, 0x0, false⟩, -- RCE_STATUS
  ⟨0x10008, [], 0xffffffffffffffc0, 0x0, 0x0, false⟩, -- RCE_SUBMIT_ADDR
  ⟨0x10010, [], 0x0, 0x0, 0xffff00001fff, false⟩, -- RCE_SUBMIT
  ⟨0x10018, [], 0x0, 0x0, 0x0, false⟩, -- RCE_SUBMIT_RESULT
  ⟨0x10020, [], 0x3f, 0x0, 0x0, false⟩, -- RCE_LOAD_CFG
  ⟨0x10028, [], 0x0, 0x0, 0x0, false⟩, -- RCE_LOAD_RESULT
  ⟨0x10030, [], 0xffff, 0x0, 0x0, false⟩, -- RCE_CHAR_QUERY
  ⟨0x10038, [], 0x0, 0x0, 0x0, false⟩, -- RCE_RUN_CTX
  ⟨0x10040, [(8, 0x8)], 0x0, 0x0, 0x0, false⟩, -- RCE_ARRIVAL
  ⟨0x10100, [(16, 0x8)], 0x0, 0x0, 0x1, false⟩, -- RCE_GRAPH
  ⟨0x20000, [], 0xfffffffffffffff8, 0x0, 0x0, false⟩, -- DP_ADDR
  ⟨0x20008, [], 0x3ff038, 0x0, 0x5, false⟩, -- DP_CTRL
  ⟨0x20010, [], 0x0, 0x0, 0x0, false⟩, -- DP_STATUS
  ⟨0x20018, [], 0x0, 0x0, 0x0, false⟩, -- DP_ERR_ADDR
  ⟨0x30000, [], 0x7fff03, 0x0, 0x1800000, false⟩, -- TU_CTRL
  ⟨0x30008, [], 0x0, 0x103, 0x0, false⟩, -- TU_STATUS
  ⟨0x30010, [], 0x0, 0x0, 0x0, false⟩, -- TU_TIME
  ⟨0x30018, [], 0x0, 0x0, 0x0, false⟩, -- TU_TIME_FRAC
  ⟨0x30020, [], 0x0, 0x0, 0x0, false⟩, -- TU_INC
  ⟨0x30028, [], 0xffffffffffffffff, 0x0, 0x0, false⟩, -- TU_SERVO
  ⟨0x30030, [], 0x0, 0x0, 0x0, false⟩, -- TU_SERVO_STATE
  ⟨0x30038, [], 0x0, 0x0, 0x0, false⟩, -- TU_OFFSET
  ⟨0x30040, [], 0x0, 0x0, 0xffffffffffffffff, false⟩, -- TU_TIME_SET
  ⟨0x30048, [], 0x3fff1fffffff, 0x0, 0x0, false⟩, -- TU_STEP_CFG
  ⟨0x30050, [], 0x0, 0x0, 0x0, false⟩, -- TU_STEP_AT
  ⟨0x30058, [], 0x0, 0x0, 0x0, false⟩, -- TU_STEP_INFO
  ⟨0x30060, [], 0xffffffff000fffff, 0x0, 0x0, false⟩, -- TU_PPS
  ⟨0x30068, [], 0xffffffffffffffff, 0x0, 0x0, false⟩, -- TU_TIME_TX
  ⟨0x30100, [(32, 0x8)], 0x17f, 0x0, 0x0, false⟩, -- TU_TRGOUT_CFG
  ⟨0x30200, [(8, 0x8)], 0xffff0006, 0x0, 0x8, false⟩ -- TU_TCAP_CFG
]

def regTable1 : List RegDesc := [
  ⟨0x30240, [(8, 0x8)], 0x0, 0x0, 0x0, false⟩, -- TU_TCAP_TIME
  ⟨0x30280, [(8, 0x8)], 0x0, 0x0, 0x0, false⟩, -- TU_TCAP_INFO
  ⟨0x30300, [], 0xff, 0x1000, 0xf00, false⟩, -- TU_SCHED_SEL
  ⟨0x30308, [], 0xffffffffffff, 0x0, 0x0, false⟩, -- TU_SCHED_TIME
  ⟨0x30310, [], 0xffffffffff, 0x0, 0x0, false⟩, -- TU_SCHED_PERIOD
  ⟨0x30318, [], 0xffffffffffff0f1c, 0x0, 0x0, false⟩, -- TU_SCHED_CTRL
  ⟨0x30320, [], 0x0, 0x0, 0x0, false⟩, -- TU_SCHED_EVENT
  ⟨0x30328, [], 0x0, 0x0, 0x0, false⟩, -- TU_SCHED_STAT
  ⟨0x30400, [(64, 0x10)], 0xffffffffffffffff, 0x0, 0x0, false⟩, -- TU_PORT_COMP
  ⟨0x30408, [(64, 0x10)], 0x0, 0x0, 0x0, false⟩, -- TU_PORT_TIME
  ⟨0x40000, [], 0x1, 0x0, 0x6, false⟩, -- RIND_CTRL
  ⟨0x40008, [], 0x0, 0xc0, 0x0, false⟩, -- RIND_STATUS
  ⟨0x40010, [], 0x0, 0x0, 0x0, false⟩, -- RIND_FRAME_PERIOD
  ⟨0x40018, [], 0x0, 0x0, 0x0, false⟩, -- RIND_FRAME_NUMBER
  ⟨0x40020, [], 0x0, 0x0, 0x0, false⟩, -- RIND_TICK
  ⟨0x40028, [], 0x0, 0x0, 0x0, false⟩, -- RIND_DROP_COUNT
  ⟨0x40030, [], 0x0, 0x0, 0x0, false⟩, -- RIND_RESULT_ERR_COUNT
  ⟨0x40038, [], 0xfff, 0x0, 0x0, false⟩, -- RIND_STAMP_SEL
  ⟨0x40040, [], 0x0, 0x0, 0x0, false⟩, -- RIND_STAMP_TIME
  ⟨0x40048, [], 0x0, 0x0, 0x0, false⟩, -- RIND_STAMP_INFO
  ⟨0x40050, [], 0x0, 0x0, 0x0, false⟩, -- RIND_STAMP_PRESENT
  ⟨0x40058, [], 0x0, 0x0, 0x0, false⟩, -- RIND_STAMP_CRC
  ⟨0x40400, [(64, 0x8)], 0x7ff, 0x0, 0x0, false⟩, -- RIND_PORT_ALIGN
  ⟨0x40600, [(64, 0x8)], 0x0, 0x0, 0x0, false⟩, -- RIND_PORT_STAT
  ⟨0x40800, [(32, 0x8)], 0xffff, 0x0, 0x0, false⟩, -- RIND_TRGOUT_MAP
  ⟨0x41000, [(8, 0x100)], 0xfffff01e, 0x0, 0x0, false⟩, -- RIND_STREAM_CFG
  ⟨0x41008, [(8, 0x100)], 0x0, 0x0, 0x0, false⟩, -- RIND_STREAM_LAT
  ⟨0x41010, [(8, 0x100)], 0xffffffffffffffff, 0x0, 0x0, false⟩, -- RIND_STREAM_DEST
  ⟨0x41018, [(8, 0x100)], 0x0, 0x0, 0x0, false⟩, -- RIND_SLACK_MIN
  ⟨0x41020, [(8, 0x100), (5, 0x8)], 0x0, 0x0, 0x0, false⟩, -- RIND_KIND_COUNT
  ⟨0x41080, [(8, 0x100), (16, 0x8)], 0x0, 0x0, 0x0, false⟩, -- RIND_SLACK_HIST
  ⟨0x80000, [], 0x0, 0x0, 0x0, false⟩, -- FAB_GEOMETRY
  ⟨0x80008, [], 0x0, 0x0, 0x3, false⟩, -- FAB_CTRL
  ⟨0x80010, [], 0x0, 0x2, 0x0, false⟩, -- FAB_STATUS
  ⟨0x80018, [], 0x0, 0x0, 0x0, false⟩, -- FAB_TIE_COUNT
  ⟨0x80100, [(16, 0x8)], 0x0, 0x0, 0x0, false⟩, -- FAB_TURN_MON
  ⟨0x80200, [(16, 0x8)], 0x0, 0x0, 0x0, false⟩, -- FAB_DOMAIN_SPARE
  ⟨0x81000, [], 0x0, 0x1, 0x0, false⟩, -- FAB_LEDGER_STATUS
  ⟨0x81008, [], 0x0, 0x0, 0x3, false⟩, -- FAB_LEDGER_CTRL
  ⟨0x81010, [], 0x3ff, 0x0, 0x0, false⟩ -- FAB_LEDGER_SEL
]

def regTable2 : List RegDesc := [
  ⟨0x81018, [], 0x0, 0x0, 0x0, false⟩, -- FAB_LEDGER_A
  ⟨0x81020, [], 0x0, 0x0, 0x0, false⟩, -- FAB_LEDGER_B
  ⟨0x81028, [], 0x0, 0x0, 0x0, false⟩, -- FAB_LEDGER_C
  ⟨0x81030, [], 0x0, 0x0, 0x0, false⟩, -- FAB_LEDGER_D
  ⟨0x81038, [(4, 0x8)], 0x0, 0x0, 0x0, false⟩, -- FAB_LEDGER_MAP
  ⟨0x81058, [], 0xfff, 0x0, 0x0, false⟩, -- FAB_ESQ_LEDGER
  ⟨0x81080, [], 0x0, 0x0, 0x0, false⟩, -- FAB_REPLAY
  ⟨0x81088, [], 0x0, 0x0, 0x0, false⟩, -- FAB_TIE_T2
  ⟨0x82000, [], 0x1ffff, 0x0, 0x0, false⟩, -- FAB_DL_CFG
  ⟨0x82008, [], 0x0, 0x0, 0x0, false⟩, -- FAB_DL_STAT
  ⟨0x82010, [], 0x0, 0x0, 0x0, false⟩, -- FAB_DL_SPILL
  ⟨0x83000, [], 0xffff02, 0x0, 0xc, false⟩, -- FAB_OBS_CTRL
  ⟨0x83008, [], 0x0, 0x0, 0x0, false⟩, -- FAB_FLUSH_STATUS
  ⟨0x83010, [], 0xff00ff01ffffff, 0x0, 0x0, false⟩, -- FAB_SNAP_AREA
  ⟨0x83018, [], 0x0, 0x6, 0x0, false⟩, -- FAB_SNAP_STATUS
  ⟨0x83100, [(32, 0x10)], 0x0, 0x0, 0x0, false⟩, -- FAB_SPARE_UNIT_WAIT
  ⟨0x83108, [(32, 0x10)], 0x0, 0x0, 0x0, false⟩, -- FAB_SPARE_UNIT_BUSY
  ⟨0xc0000, [(32, 0x1000)], 0x0, 0x0, 0x0, true⟩, -- BLK_VU_CFG (spare)
  ⟨0xc0008, [(32, 0x1000)], 0x0, 0x0, 0x0, true⟩, -- BLK_VU_STATE (spare)
  ⟨0xc0010, [(32, 0x1000)], 0x0, 0x0, 0x0, true⟩, -- BLK_VU_ERR (spare)
  ⟨0xc0018, [(32, 0x1000)], 0x0, 0x0, 0x0, true⟩, -- BLK_VU_CYCLES (spare)
  ⟨0xc0040, [(32, 0x1000), (4, 0x8)], 0x0, 0x0, 0x0, true⟩, -- BLK_VU_S2 (spare)
  ⟨0xc0060, [(32, 0x1000), (4, 0x8)], 0x0, 0x0, 0x0, true⟩, -- BLK_VU_S2_LIM (spare)
  ⟨0xc0080, [(32, 0x1000), (4, 0x20), (4, 0x8)], 0x0, 0x0, 0x0, true⟩, -- BLK_VU_QCOUNT (spare)
  ⟨0xc0100, [(32, 0x1000), (64, 0x8)], 0x0, 0x0, 0x0, true⟩, -- BLK_VU_UCODE (spare)
  ⟨0xc0400, [(32, 0x1000), (4, 0x100), (32, 0x8)], 0x0, 0x0, 0x0, true⟩, -- BLK_VU_RESCALE (spare)
  ⟨0xc0800, [(32, 0x1000), (4, 0x200), (64, 0x8)], 0x0, 0x0, 0x0, true⟩, -- BLK_VU_ACT (spare)
  ⟨0x100000, [(64, 0x4000)], 0xffff7e3ffff800f3, 0x0, 0x0, false⟩, -- PL_CFG
  ⟨0x100008, [(64, 0x4000)], 0x1a, 0x0, 0x61, false⟩, -- PL_CTRL
  ⟨0x100010, [(64, 0x4000)], 0x0, 0x0, 0x0, false⟩, -- PL_STATUS
  ⟨0x100018, [(64, 0x4000)], 0x0, 0x0, 0x0, false⟩, -- PL_RX_CNT
  ⟨0x100020, [(64, 0x4000)], 0x0, 0x0, 0x0, false⟩, -- PL_SEQ
  ⟨0x100028, [(64, 0x4000)], 0x0, 0x0, 0x0, false⟩, -- PL_FEC
  ⟨0x100030, [(64, 0x4000)], 0x0, 0x0, 0x0, false⟩, -- PL_TX_CNT
  ⟨0x100038, [(64, 0x4000)], 0x0, 0x0, 0x0, false⟩, -- PL_CREDIT
  ⟨0x100040, [(64, 0x4000)], 0xffff0000ffff, 0x0, 0x0, false⟩, -- PL_QUAR_CFG
  ⟨0x100048, [(64, 0x4000)], 0x0, 0x0, 0x0, false⟩, -- PL_EVENT_INFO
  ⟨0x100050, [(64, 0x4000)], 0x0, 0x0, 0x0, false⟩, -- PL_EVENT_TIME
  ⟨0x100088, [(64, 0x4000), (10, 0x8)], 0x0, 0x0, 0x0, false⟩, -- PL_VIOL_CNT
  ⟨0x100200, [(64, 0x4000), (4, 0x40)], 0x83c0000000000000, 0x0, 0x0, false⟩ -- PL_LANE_EQ
]

def regTable3 : List RegDesc := [
  ⟨0x100208, [(64, 0x4000), (4, 0x40)], 0x0, 0x0, 0x1, false⟩, -- PL_LANE_SLIP
  ⟨0x100210, [(64, 0x4000), (4, 0x40)], 0x1ff7, 0x0, 0x2000, false⟩, -- PL_LANE_PRBS
  ⟨0x100218, [(64, 0x4000), (4, 0x40)], 0x0, 0x0, 0x0, false⟩, -- PL_LANE_STAT
  ⟨0x100800, [(16, 0x10000)], 0xfffffffffff0, 0x0, 0x0, false⟩, -- PL_LASER
  ⟨0x200000, [], 0x0, 0x0, 0x0, false⟩, -- VAT_STATUS
  ⟨0x200008, [], 0x0, 0x0, 0x0, false⟩, -- VAT_ERR
  ⟨0x200010, [], 0x1, 0x0, 0x2, false⟩, -- VAT_CURD_CTRL
  ⟨0x200018, [], 0x3ffffffffffff, 0x0, 0x0, false⟩, -- VAT_CURD_AREA
  ⟨0x200020, [], 0x7fffffff00000000, 0x0, 0x0, false⟩, -- VAT_CURD_PTR
  ⟨0x200028, [], 0x0, 0x0, 0x0, false⟩, -- VAT_CURD_STAT
  ⟨0x200030, [], 0x0, 0x0, 0x0, false⟩, -- VAT_CURD_COUNT
  ⟨0x200080, [(4, 0x8)], 0x0, 0x0, 0x0, false⟩, -- VAT_DIE_FAIL
  ⟨0x200100, [(64, 0x8)], 0x0, 0x0, 0x0, false⟩, -- VAT_RING
  ⟨0x200400, [(16, 0x20)], 0xfffffffffff1f, 0x0, 0x0, false⟩, -- VAT_CURD_RULE
  ⟨0x200408, [(16, 0x20)], 0xffffffffffffffff, 0x0, 0x0, false⟩, -- VAT_CURD_PORTS
  ⟨0x200410, [(16, 0x20)], 0xffffffffffffffff, 0x0, 0x0, false⟩, -- VAT_CURD_DEST
  ⟨0x280000, [], 0x0, 0x0, 0x0, false⟩, -- LPX_STATUS
  ⟨0x280010, [(5, 0x8)], 0x0, 0x0, 0x0, false⟩, -- LPX_ERR
  ⟨0x280100, [(16, 0x8)], 0x0, 0x0, 0x0, false⟩, -- LPX_REGION
  ⟨0x300000, [], 0x0, 0x62, 0x0, false⟩, -- PWR_STATUS
  ⟨0x300008, [], 0xffffffff, 0x0, 0x100000000, false⟩, -- PWR_THERM_CFG
  ⟨0x300010, [], 0xffffffffffffffff, 0x0, 0x0, false⟩, -- PWR_AVC_CFG
  ⟨0x300018, [], 0x0, 0x0, 0x0, false⟩, -- PWR_INPUT
  ⟨0x300020, [], 0x0, 0x0, 0x0, false⟩, -- PWR_ENERGY
  ⟨0x300100, [(30, 0x8)], 0xffff0003, 0x0, 0x0, false⟩, -- PWR_DOMAIN_CTRL
  ⟨0x300200, [(30, 0x8)], 0x0, 0x0, 0x0, false⟩, -- PWR_DOMAIN_STAT
  ⟨0x300300, [(16, 0x8)], 0x0, 0x0, 0x0, false⟩, -- PWR_AVC_STAT
  ⟨0x300400, [(31, 0x8)], 0x0, 0x0, 0x0, false⟩, -- PWR_TEMP
  ⟨0x380000, [], 0x0, 0x0, 0x0, false⟩, -- SEC_STATUS
  ⟨0x380008, [], 0x0, 0x0, 0x0, false⟩, -- SEC_BOOT
  ⟨0x380010, [], 0x0, 0x0, 0x0, false⟩, -- SEC_FW
  ⟨0x380018, [(4, 0x8)], 0x0, 0x0, 0x0, false⟩, -- SEC_FW_DIGEST
  ⟨0x380038, [], 0x0, 0x0, 0x0, false⟩, -- SEC_OWNER_SEQ
  ⟨0x380040, [], 0x0, 0x0, 0x0, false⟩, -- SEC_OWNER_MIN
  ⟨0x380048, [(4, 0x8)], 0x0, 0x0, 0x0, false⟩, -- SEC_OWNER_DIGEST
  ⟨0x380068, [], 0x0, 0x0, 0x0, false⟩, -- SEC_UPDATE
  ⟨0x380070, [], 0x0, 0x0, 0x0, false⟩, -- SEC_ATTEST
  ⟨0x380108, [(11, 0x8)], 0x0, 0x0, 0x0, false⟩, -- SEC_STEP_END
  ⟨0x1000000, [(256, 0x10000)], 0x0, 0x0, 0x0, true⟩, -- BLK_ID
  ⟨0x1000008, [(256, 0x10000)], 0x0, 0x0, 0x0, true⟩ -- BLK_TILE_SPARE
]

def regTable4 : List RegDesc := [
  ⟨0x1000010, [(256, 0x10000)], 0x0, 0x0, 0x0, true⟩, -- BLK_VU_MAP
  ⟨0x1000018, [(256, 0x10000)], 0x0, 0x0, 0x0, true⟩, -- BLK_POOL
  ⟨0x1000800, [(256, 0x10000), (92, 0x8)], 0x0, 0x0, 0x0, true⟩, -- BLK_SW
  ⟨0x1000c00, [(256, 0x10000), (23, 0x8)], 0x0, 0x0, 0x0, true⟩, -- BLK_SW
  ⟨0x1000e00, [(256, 0x10000), (32, 0x8)], 0x0, 0x0, 0x0, true⟩, -- BLK_SW
  ⟨0x1001000, [(256, 0x10000), (4, 0x40)], 0x0, 0x0, 0x0, true⟩, -- BLK_SU_CFG
  ⟨0x1001008, [(256, 0x10000), (4, 0x40)], 0x0, 0x0, 0x0, true⟩, -- BLK_SU_COUNT
  ⟨0x1001010, [(256, 0x10000), (4, 0x40)], 0x0, 0x0, 0x0, true⟩, -- BLK_SU_ERR
  ⟨0x1002000, [(256, 0x10000), (17, 0x800)], 0x0, 0x0, 0x0, true⟩, -- BLK_TILE_CFG
  ⟨0x1002008, [(256, 0x10000), (17, 0x800), (4, 0x8)], 0x0, 0x0, 0x0, true⟩, -- BLK_TILE_FIRE
  ⟨0x1002028, [(256, 0x10000), (17, 0x800)], 0x0, 0x0, 0x0, true⟩, -- BLK_TILE_CRELOAD
  ⟨0x1002030, [(256, 0x10000), (17, 0x800)], 0x0, 0x0, 0x0, true⟩, -- BLK_TILE_STATE
  ⟨0x1002038, [(256, 0x10000), (17, 0x800)], 0x0, 0x0, 0x0, true⟩, -- BLK_TILE_FIRINGS
  ⟨0x1002040, [(256, 0x10000), (17, 0x800)], 0x0, 0x0, 0x0, true⟩, -- BLK_TILE_ERR
  ⟨0x1002048, [(256, 0x10000), (17, 0x800)], 0x0, 0x0, 0x0, true⟩, -- BLK_TILE_FLUSH_CNT
  ⟨0x1002080, [(256, 0x10000), (17, 0x800), (16, 0x8)], 0x0, 0x0, 0x0, true⟩, -- BLK_TILE_GREG
  ⟨0x1002100, [(256, 0x10000), (17, 0x800)], 0x0, 0x0, 0x0, true⟩, -- BLK_TILE_COUNTERS
  ⟨0x1002400, [(256, 0x10000), (17, 0x800), (64, 0x8)], 0x0, 0x0, 0x0, true⟩, -- BLK_TILE_IMEM
  ⟨0x1002600, [(256, 0x10000), (17, 0x800), (64, 0x8)], 0x0, 0x0, 0x0, true⟩, -- BLK_TILE_LUT
  ⟨0x100c000, [(256, 0x10000), (2, 0x1000)], 0x0, 0x0, 0x0, true⟩, -- BLK_VU_CFG
  ⟨0x100c008, [(256, 0x10000), (2, 0x1000)], 0x0, 0x0, 0x0, true⟩, -- BLK_VU_STATE
  ⟨0x100c010, [(256, 0x10000), (2, 0x1000)], 0x0, 0x0, 0x0, true⟩, -- BLK_VU_ERR
  ⟨0x100c018, [(256, 0x10000), (2, 0x1000)], 0x0, 0x0, 0x0, true⟩, -- BLK_VU_CYCLES
  ⟨0x100c040, [(256, 0x10000), (2, 0x1000), (4, 0x8)], 0x0, 0x0, 0x0, true⟩, -- BLK_VU_S2
  ⟨0x100c060, [(256, 0x10000), (2, 0x1000), (4, 0x8)], 0x0, 0x0, 0x0, true⟩, -- BLK_VU_S2_LIM
  ⟨0x100c080, [(256, 0x10000), (2, 0x1000), (4, 0x20), (4, 0x8)], 0x0, 0x0, 0x0, true⟩, -- BLK_VU_QCOUNT
  ⟨0x100c100, [(256, 0x10000), (2, 0x1000), (64, 0x8)], 0x0, 0x0, 0x0, true⟩, -- BLK_VU_UCODE
  ⟨0x100c400, [(256, 0x10000), (2, 0x1000), (4, 0x100), (32, 0x8)], 0x0, 0x0, 0x0, true⟩, -- BLK_VU_RESCALE
  ⟨0x100c800, [(256, 0x10000), (2, 0x1000), (4, 0x200), (64, 0x8)], 0x0, 0x0, 0x0, true⟩, -- BLK_VU_ACT
  ⟨0x100e000, [(256, 0x10000)], 0x0, 0x0, 0x0, true⟩, -- BLK_MU_STATUS
  ⟨0x100e008, [(256, 0x10000), (2, 0x18)], 0x0, 0x0, 0x0, true⟩, -- BLK_MU_AGU_CFG
  ⟨0x100e010, [(256, 0x10000), (2, 0x18)], 0x0, 0x0, 0x0, true⟩, -- BLK_MU_AGU_ADDR
  ⟨0x100e018, [(256, 0x10000), (2, 0x18)], 0x0, 0x0, 0x0, true⟩, -- BLK_MU_AGU_LB
  ⟨0x100e038, [(256, 0x10000)], 0x0, 0x0, 0x0, true⟩, -- BLK_MU_DQ
  ⟨0x100e040, [(256, 0x10000)], 0x0, 0x0, 0x0, true⟩, -- BLK_MU_ERR
  ⟨0x100e048, [(256, 0x10000)], 0x0, 0x0, 0x0, true⟩, -- BLK_MU_ACCESS
  ⟨0x100f000, [(256, 0x10000), (92, 0x8)], 0x0, 0x0, 0x0, true⟩, -- BLK_QSTAT
  ⟨0x100f300, [(256, 0x10000), (23, 0x8)], 0x0, 0x0, 0x0, true⟩, -- BLK_QSTAT
  ⟨0x100f400, [(256, 0x10000), (32, 0x8)], 0x0, 0x0, 0x0, true⟩, -- BLK_QSTAT
  ⟨0x100f600, [(256, 0x10000), (24, 0x10)], 0x0, 0x0, 0x0, true⟩ -- BLK_UNIT_WAIT
]

def regTable5 : List RegDesc := [
  ⟨0x100f608, [(256, 0x10000), (24, 0x10)], 0x0, 0x0, 0x0, true⟩ -- BLK_UNIT_BUSY
]

/-- Every register of the spec's register tables. -/
def regTable : List RegDesc := regTable0 ++ regTable1 ++ regTable2 ++ regTable3 ++ regTable4 ++ regTable5

/-- Whether the offset `rel` from an array's base is one of its registers. -/
def dimsHit : List (Nat × Nat) → Nat → Bool
  | [], rel => rel == 0
  | (n, st) :: ds, rel => decide (rel / st < n) && dimsHit ds (rel % st)

/-- Whether a register description holds the offset. -/
def RegDesc.holds (d : RegDesc) (off : Nat) : Bool := decide (d.base ≤ off) && dimsHit d.dims (off - d.base)

/-- The register at a BAR0 offset; none where the offset is reserved (R396, R397). -/
def regAt (off : Nat) : Option RegDesc := regTable.find? (fun d => d.holds off)

/-- R93: BLK_ID of block b, given by its position (R61). -/
def blkIdReset (b : Nat) : BitVec 64 :=
  let x := b % 16
  let y := b / 16
  BitVec.ofNat 64 (b + x * 0x100 + y * 0x1000 + (4 * (y / 4) + x / 4) * 0x10000
    + (if x = 0 then 0x100000 else 0) + (if y = 0 then 0x200000 else 0)
    + (if x = 15 then 0x400000 else 0) + (if y = 15 then 0x800000 else 0))

/-- The registers whose reset value is not zero, with that value (BLK_ID apart). -/
def resetTable : List (Nat × List (Nat × Nat) × BitVec 64) := [
  (0x0, [], 0x40002#64),
  (0x28, [], 0xa0006#64),
  (0x38, [], 0x10000#64),
  (0x48, [], 0x7ffe#64),
  (0x10020, [], 0xa#64),
  (0x30020, [], 0x140000000#64),
  (0x30028, [], 0x100040#64),
  (0x30048, [], 0x64#64),
  (0x30060, [], 0x186a0#64),
  (0x40600, [(64, 0x8)], 0xffff#64),
  (0x41000, [(8, 0x100)], 0xfa00000#64),
  (0x41018, [(8, 0x100)], 0x800000007fffffff#64),
  (0x80000, [], 0x242111010#64),
  (0x80100, [(16, 0x8)], 0xffff0000#64),
  (0x80200, [(16, 0x8)], 0x1000#64),
  (0x82000, [], 0x10100#64),
  (0x83000, [], 0x70000#64),
  (0xc0060, [(32, 0x1000), (4, 0x8)], 0x3f00#64),
  (0x100000, [(64, 0x4000)], 0xf0#64),
  (0x100040, [(64, 0x4000)], 0x3e800000010#64),
  (0x100800, [(16, 0x10000)], 0x6e8c4e20fa00#64),
  (0x300008, [], 0x3e80384#64),
  (0x300010, [], 0x2ee032006408060#64),
  (0x300100, [(30, 0x8)], 0x2ee0003#64),
  (0x300300, [(16, 0x8)], 0x7fff#64),
  (0x300400, [(31, 0x8)], 0x80000000#64),
  (0x100c060, [(256, 0x10000), (2, 0x1000), (4, 0x8)], 0x3f00#64)]

/-- The reset value of the register at an offset (R10, and each register's own table; GLB_ID, GLB_SERIAL and the
grade of PWR_THERM_CFG are the part's: DESIGN CHOICE, log entry 4). -/
def regReset (off : Nat) : BitVec 64 :=
  if decide (0x1000000 ≤ off) && off % 0x10000 == 0 then blkIdReset ((off - 0x1000000) / 0x10000)
  else match resetTable.find? (fun r => decide (r.1 ≤ off) && dimsHit r.2.1 (off - r.1)) with
    | some r => r.2.2
    | none => 0

end Sys2Proof.Machine
end

