-- ==== Sys2Proof/Machine/Sparse.lean ====
section
/-!
DEFINITION. Finite maps from natural numbers as plain data: a list of (key, value) pairs with strictly rising keys.
Lookup takes the first pair of a key; insertion replaces it or puts it in its place.
-/

namespace Sys2Proof.Machine

/-- A finite map with natural-number keys. -/
abbrev PMap (α : Type) := List (Nat × α)

/-- The value held for a key. -/
def pget {α : Type} : PMap α → Nat → Option α
  | [], _ => none
  | (k, v) :: r, x => if k = x then some v else pget r x

/-- The value held for a key, or a default. -/
def pgetD {α : Type} (m : PMap α) (x : Nat) (d : α) : α := (pget m x).getD d

/-- Put a value under a key. -/
def pput {α : Type} (x : Nat) (a : α) : PMap α → PMap α
  | [] => [(x, a)]
  | (k, v) :: r =>
    if x = k then (x, a) :: r
    else if x < k then (x, a) :: (k, v) :: r
    else (k, v) :: pput x a r

/-- Remove a key. -/
def pdel {α : Type} (x : Nat) (m : PMap α) : PMap α := m.filter (fun e => e.1 != x)

/-- Apply a function to the value of a key, taking a default where the key is absent. -/
def padj {α : Type} (x : Nat) (d : α) (f : α → α) (m : PMap α) : PMap α :=
  pput x (f (pgetD m x d)) m

/-- Put a value into a list ahead of the first element of a kind, or at its end. -/
def putBefore {α : Type} (later : α → Bool) (x : α) : List α → List α
  | [] => [x]
  | y :: r => if later y then x :: y :: r else y :: putBefore later x r

/-- Keys strictly rising: the one canonical form. -/
def rising {α : Type} : PMap α → Bool
  | [] => true
  | (k, _) :: r => (match r with
      | [] => true
      | (k', _) :: _ => decide (k < k')) && rising r

end Sys2Proof.Machine
end

