-- ==== Sys2Proof/Machine/State.lean ====
section
/-!
DEFINITION. The state of the T4 as plain data: the register file, the memories, and every queue, buffer, table and
engine position the spec gives the block, the queue of waiting commands, the outcomes' reasons, and the state after
reset. A register the spec names lives in `Dev.regs` under its BAR0 offset; what the spec shows in a register as a
view of a table or queue lives in that table or queue.
-/

namespace Sys2Proof.Machine

open Sys2Proof

/-! ## Tokens, notices and results (chapters 2 and 11) -/

/-- R69, R70: a token; its parity bits are right by construction, a token received with bad parity being replayed or
zeroed (R436) before any unit sees it. -/
structure Token where
  esq : Nat
  kind : TokKind
  payload : Payload
  deriving DecidableEq, Repr, Inhabited

/-- R433, R435: a fault notice waiting on the priority lane, with the reporting blocks and the number merged. -/
structure Notice where
  esq : Nat
  kind : Nat
  suspect : Nat
  reporter : Nat
  blocks : Nat
  count : Nat
  deriving DecidableEq, Repr, Inhabited

/-- R25: a result in the void guard of an egress point, with the tick it was accepted in. -/
structure Guarded where
  egress : Nat
  esq : Nat
  payload : Payload
  tick : Nat
  deriving DecidableEq, Repr, Inhabited

/-- R439: a fault ledger entry, with the tick of its first report. -/
structure LedgerEntry where
  kind : Nat
  suspect : Nat
  count : Nat
  firstEsq : Nat
  lastEsq : Nat
  stamp : Nat
  epoch : Nat
  reporter : Nat
  blocks : Nat
  runCtx : Nat
  segment : Nat
  tick : Nat
  deriving DecidableEq, Repr, Inhabited

/-! ## The stamp stage and the rind (chapter 1) -/

/-- A stamp-table entry: what R30, R49 and "What the stamp stage does with each frame" give it, the results that
wait for the deadline (R27), the near-ties charged (R33) and the epoch opened at its boundary (R31). -/
structure Stamp where
  valid : Bool := false
  frame : Nat := 0
  time : Nat := 0
  tick : Nat := 0
  epoch : Nat := 0
  present : Nat := 0
  crc : Nat := 0
  runCtx : Nat := 0
  injected : Bool := false
  voided : Bool := false
  released : Nat := 0
  retired : Bool := false
  ties : Nat := 0
  results : PMap Payload := []
  passed : Nat := 0
  dups : Nat := 0
  mark : Option (Nat × Nat) := none
  marked : Nat := 0
  capture : List Nat := []
  seen : Nat := 0
  deriving DecidableEq, Repr, Inhabited

/-- R19: a frame in a port's alignment buffer: its sequence number, payload bytes and the tick it became eligible. -/
structure AlignedFrame where
  seq : Nat
  payload : List Nat
  ftype : Nat
  tick : Nat
  deriving DecidableEq, Repr, Inhabited

/-- R410: the accounts of a segment whose summary has not been made. -/
structure Segment where
  num : Nat
  runCtx : Nat
  first : Nat
  frames : Nat
  kinds : List Nat
  total : Nat
  ledgerNew : Nat
  cause : Nat
  ended : Bool
  deriving DecidableEq, Repr, Inhabited

/-- The stamp stage, the frame sequencer and the rind. -/
structure Rind where
  stamps : PMap Stamp := []
  guard : List Guarded := []
  align : PMap (List AlignedFrame) := []
  waiting : PMap (List AlignedFrame) := []
  anchor : Nat := 0
  anchorFrame : Nat := 0
  lastBoundary : Nat := 0
  schedClosed : Bool := false
  segments : List Segment := []
  slackSince : Option Int := none
  stopped : Bool := false
  lost : Bool := false
  deriving DecidableEq, Repr, Inhabited

/-! ## What the rind feeds (chapters 6 and 9) -/

/-- R211 to R217: a capture: the record's fields, the frames and ports it covers and where it goes as its rule stood when
the record was released, and how far its copy has come: the number of slots read, the frames lost, the whole frames
copied, and the frame in progress. `store` says whether it has a store copy, `ended` whether all its parts have been made,
`trunc` whether the run stopped before its last frame (R217). -/
structure CurdCap where
  frame : Nat
  esq : Nat
  kind : Nat
  rule : Nat
  accept : Nat
  epoch : Nat
  time : Nat
  runCtx : Nat
  tick : Nat
  first : Nat
  last : Nat
  ports : List Nat
  dests : List Nat
  toStore : Bool
  started : Bool
  store : Bool
  cur : Nat
  lost : List Nat
  data : List (List Nat)
  part : List Nat
  partBad : Bool
  ended : Bool
  trunc : Bool
  deriving DecidableEq, Repr, Inhabited

/-- The curd engine's captures: those of records on their way to it, and its queue, the one being copied first. -/
structure Curd where
  coming : List CurdCap := []
  queue : List CurdCap := []
  deriving DecidableEq, Repr, Inhabited

/-- R368: an event of a port's log. -/
structure PortEvent where
  code : Nat
  seq : Nat
  ns : Nat
  epoch : Nat
  deriving DecidableEq, Repr, Inhabited

/-- R359: a capture a READOUT port sends: the bytes not yet framed, the blocks of the present frame sent, whether its
first segment has left, and whether all its bytes are there. -/
structure CapTx where
  bytes : List Nat
  blocks : Nat
  begun : Bool
  ended : Bool
  deriving DecidableEq, Repr, Inhabited

/-- A port (chapter 9): its queues towards the partner (records, RESULT frames, captures), event log, PROTO_ERR answers
due (R367), violation window (R369), training position (R361 to R363), what it last saw of ALIGN blocks and bad blocks
(R364), retry position (R354), equaliser taps (R370), the SEQ of its next CAPTURE frame (R359), when its last ALIGN left, in ps
from tick 0 (R348), and since when it leaves IDLE (R365). -/
structure Port where
  recs : List (Nat × Record) := []
  results : List (Nat × List Nat) := []
  caps : List CapTx := []
  log : List PortEvent := []
  lastErr : Option Nat := none
  deferred : Option (Nat × Nat × Nat) := none
  more : Nat := 0
  window : Option (Nat × Nat) := none
  since : Nat := 0
  dark : Option Nat := none
  reqEnd : Option Nat := none
  single : Bool := false
  ownMax : Nat := 0
  version : Nat := 0
  quarErr : Nat := 0
  nonce : Nat := 0
  offer : Option Nat := none
  echo : Nat := 0
  ack : Bool := false
  agree : Nat := 0
  lanes : List Nat := []
  missed : Nat := 0
  badRun : Nat := 0
  retryFor : Option Nat := none
  retried : List Nat := []
  txSeq : Nat := 0
  sent : List (Nat × Bool × List Nat) := []
  creditWait : Option Nat := none
  taps : List Nat := []
  capSeq : Nat := 0
  alignPs : Option Nat := none
  exiting : Option Nat := none
  deriving DecidableEq, Repr, Inhabited

/-! ## The fabric (chapters 2 to 6) -/

/-- R436: the replay position of a sink: offers that have failed and the header of the latest good one. -/
structure Replay where
  fails : Nat := 0
  header : Option (Nat × TokKind) := none
  deriving DecidableEq, Repr, Inhabited

/-- What a tile's firing has done so far (R103 to R105): instructions issued, trigger ports received, heads. -/
structure Firing where
  desc : Fin 4 := 0
  issued : Nat := 0
  received : Nat := 0
  deriving DecidableEq, Repr, Inhabited

/-- An accumulation that has ended (R144) and passes through stages 2 and 3: the cycle it belongs to and whether it ends
that cycle, its step, the accumulators, the bias they hold, the scale of its
last row (R151), the I16 tokens taken for EW, whether stage 2 has done its work and the 16-bit row it made, and whether a
pipeline register's parity failed on the way (R157). -/
structure VuAcc where
  cycle : Nat
  last : Bool
  step : Nat
  lanes : List Int
  bias : List Int
  q : Nat
  e2 : Nat
  ew : List Token
  done : Bool
  out : List Int
  zero : Bool
  deriving DecidableEq, Repr, Inhabited

/-- A VU's position in its program and the data it holds (R150, R151): whether stages 0 and 1 are in a cycle and its
number, step and repetition; the cycle ESQs of the cycles in the VU, by number (R152); what of the repetition has been taken
(row, scale token, MAC turns); whether an accumulation is open, and whether it continues from an earlier step (R163); the held
row of codes with its scale; how many LOOP outputs are still to become the held row, and how many are still to come that a row
taken since has replaced; the accumulators of each half and the bias in them, and whether a pipeline register failed on the
way into them; the chain tokens taken so far; the accumulation that waits in stage 1,
the one in stage 2, and the tokens stage 3 has still to send, with their cycle and whether they end it; the evidence of the cycle in
stage 3 as (slot, flag) (R181); and consecutive accumulations with a pipeline parity error. -/
structure VuPos where
  running : Bool := false
  cycle : Nat := 0
  step : Nat := 0
  rep : Nat := 0
  esqs : PMap Nat := []
  rowGot : Bool := false
  scaleGot : Bool := false
  macDone : Bool := false
  accOpen : Bool := false
  across : Bool := false
  held : Option (List Nat) := none
  heldQ : Nat := 0
  heldE2 : Nat := 0
  loopWait : Nat := 0
  loopOver : Nat := 0
  acc0 : List Int := []
  acc1 : List Int := []
  bias : List Int := []
  accBad : Bool := false
  q : Nat := 0
  e2 : Nat := 0
  chain : List Token := []
  s1 : Option VuAcc := none
  s2 : Option VuAcc := none
  send : List (Nat × Nat × Token) := []
  sendLast : Bool := false
  sendCycle : Nat := 0
  evidence : List (Nat × Nat) := []
  parityRun : Nat := 0
  deriving DecidableEq, Repr, Inhabited

/-- R221: an entry of a decoupling queue's inbound buffer: its address, the word fetched, and whether it has arrived. -/
structure DqEntry where
  tag : Nat
  addr : Nat
  word : Payload
  here : Bool
  deriving DecidableEq, Repr, Inhabited

/-- R193, R194, R221: what an AGU has in hand: nothing (0), a READ trigger or WINDOW token (1), a REQUEST WRITE (2) or a
POST (3) that waits for its data, or a WAIT whose word has not come (4); the ESQ it serves; the index it names; the next
access of a trigger; and the tokens of the present WRITE group taken. -/
structure AguPos where
  op : Nat := 0
  esq : Nat := 0
  index : Nat := 0
  elem : Nat := 0
  group : Nat := 0
  deriving DecidableEq, Repr, Inhabited

/-- The fabric's queues, stages and engine positions. Sinks and sources are named by 1,024 × block + 256 × network +
index (R446). `readyOrder` are a tile's descriptors by the arrival of their heads (R85, R103), `portLost` the AGU that lost a
block's bank port last (R85, R195), `unset` the weight stores that a failed install left unset (R268), `probes` the sinks whose
wait-for probes run (the first four) or wait (R445). -/
structure Fabric where
  queues : PMap (List Token) := []
  spilled : PMap (List Token) := []
  stages : PMap Token := []
  taken : PMap (List Nat) := []
  ingress : PMap (List Token) := []
  maskBuf : PMap (List Token) := []
  lookback : PMap (List Token) := []
  lbDue : List (Nat × Nat × Nat × Nat) := []
  replay : PMap Replay := []
  lastEsq : PMap Nat := []
  zeroed : PMap (List Nat) := []
  muxLast : PMap Nat := []
  readyOrder : PMap (List Nat) := []
  portLost : PMap Nat := []
  failed : List Nat := []
  reported : PMap (List Nat) := []
  badLocs : PMap (List (Nat × Nat)) := []
  firings : PMap Firing := []
  vus : PMap VuPos := []
  agus : PMap AguPos := []
  dq : PMap (List DqEntry) := []
  lane : List Notice := []
  ties : List Nat := []
  unset : List Nat := []
  probes : List Nat := []
  deriving DecidableEq, Repr, Inhabited

/-! ## Faults and observation (chapters 11 and 12) -/

/-- R439 to R443: the fault ledger and its ESQ index; entries whose first frame is not yet stamped (R99); and the ledger and
index as this tick's reports alone make them, which a clear in this tick leaves (R12, R443). -/
structure Ledger where
  entries : List LedgerEntry := []
  index : PMap Nat := []
  awaiting : List Nat := []
  fresh : List LedgerEntry := []
  freshIndex : PMap Nat := []
  deriving DecidableEq, Repr, Inhabited

/-- R480 to R482: a snapshot latched and not yet written: its selector, source and schedule entry, the tick and the header
bytes from TICK on as latched, its sections by selector bit, and the tasks that wait for it. -/
structure Latched where
  selector : Nat
  source : Nat
  entry : Nat
  tick : Nat
  head : List Nat
  sections : List (Nat × List Nat)
  tasks : List (Nat × Nat)
  deriving DecidableEq, Repr, Inhabited

/-- The snapshot engine and the run log (R479 to R484). -/
structure Obs where
  latched : Option Latched := none
  shadow : Option Latched := none
  logPages : List (List Nat) := []
  logCur : List Nat := []
  logSeq : Nat := 0
  deriving DecidableEq, Repr, Inhabited

/-! ## The host interface (chapter 10) -/

/-- R408, R412: a completion-queue entry made and not yet written; `graph` names the slot a GRAPH_DONE frees. -/
structure CqEntry where
  bytes : List Nat
  graph : Option Nat
  deriving DecidableEq, Repr, Inhabited

/-- R401 to R406: the data port's burst: the fetched units not yet read. -/
structure DataPort where
  buffer : List (List Nat) := []
  deriving DecidableEq, Repr, Inhabited

/-- R414, R550, R553: the mailbox: the General Media event records, oldest first, how many have been made, those lost to
overflow with the first and last instants, the interrupt policy (one byte a log), the event timestamp and the tick it was
set in; the staged firmware and whether a transfer is under way; the next part of the certificate; and the nonces of the ATTEST
commands that wait for a run task (R558). -/
structure Mailbox where
  events : List (List Nat) := []
  eventSeq : Nat := 0
  overflow : Nat := 0
  overFirst : Nat := 0
  overLast : Nat := 0
  intPolicy : Nat := 0
  timestamp : Nat := 0
  timestampTick : Nat := 0
  staged : List Nat := []
  transferring : Bool := false
  certPart : Nat := 0
  attests : List (List Nat) := []
  deriving DecidableEq, Repr, Inhabited

/-- R560: the SPDM responder: how far the connection has come (0 nothing, 1 version, 2 capabilities, 3 algorithms), the
messages of the transcript, the sessions in handshake and those established, and the IDE keys set by protocol (65,536 for CXL.cachemem),
stream (256 each) and sub-stream, with the streams they are in force on. -/
structure Spdm where
  phase : Nat := 0
  transcript : List Nat := []
  opening : List Nat := []
  sessions : List Nat := []
  ideKeys : PMap (List Nat) := []
  ideOn : List Nat := []
  deriving DecidableEq, Repr, Inhabited

/-- The link, and how it trained last (R393); BAR2's words by index (R395) and the MSI-X vectors that are pending; the completion
queue (its held entries, the next CSEQ, when the oldest unsignalled entry was written), the mailbox and the SPDM responder. After
reset the link has not trained. -/
structure HostIf where
  linkDown : Bool := true
  link : LinkMode := ⟨false, 0, 0⟩
  bar2 : PMap Nat := []
  msixPending : Nat := 0
  hold : List CqEntry := []
  cseq : Nat := 0
  unsignalled : Option Nat := none
  dp : DataPort := {}
  mbox : Mailbox := {}
  spdm : Spdm := {}
  deriving DecidableEq, Repr, Inhabited

/-! ## The run-control engine (chapter 7) -/

/-- R272 to R275: a graph in flight. -/
structure Graph where
  addr : Nat
  tasks : Nat
  tag : Nat
  aborting : Bool
  status : List Nat
  order : Nat
  deriving DecidableEq, Repr, Inhabited

/-- What a running task waits for. -/
inductive WaitFor where
  | boundary0
  | drained
  | breakReached
  | segmentOpen
  | snapshot
  | awake
  | scan
  deriving DecidableEq, Repr, Inhabited

/-- The RCE: graphs, tasks that wait, break holders, the loaded image with the placement of each figure and the regions its
loader made, the bank library, the banks installed by slot, the seed records given to ARM (R460), and the digest of the
registration record in force (R557). -/
structure Rce where
  graphs : PMap Graph := []
  nextOrder : Nat := 0
  waits : List (Nat × Nat × WaitFor) := []
  fwHold : Bool := false
  taskHolds : Nat := 0
  timeoutHold : Bool := false
  scanHolds : Nat := 0
  broken : Bool := false
  flushSent : Bool := false
  resetDone : Bool := false
  closedTick : Option Nat := none
  image : Option Image := none
  placed : List Nat := []
  regions : List Nat := []
  library : List BankEntry := []
  installed : PMap BankEntry := []
  seeds : List Nat := []
  regDigest : Nat := 0
  pendingCtx : Option Nat := none
  dead : Bool := false
  deriving DecidableEq, Repr, Inhabited

/-! ## The time unit (chapter 8) -/

/-- R302: a schedule entry. `st`: 0 idle or done, 1 waiting for its epoch, 2 armed, 3 cancelled, 4 to arm when
TIME_VALID is set (R303); `off` is the offset of a `REL` entry; `late` marks a past-due arming that is to fire (R303). -/
structure SchedEntry where
  time : Nat := 0
  off : Nat := 0
  period : Nat := 0
  epoch : Nat := 0
  action : Nat := 0
  arg : Nat := 0
  policy : Bool := false
  rel : Bool := false
  enable : Bool := false
  st : Nat := 0
  late : Bool := false
  deriving DecidableEq, Repr, Inhabited

/-- R299, R300: an epoch opening that has not taken effect: its step and epoch, its instant where it is announced,
whether it is the device's own, the step symbol's fields, the EPOCH_SKEW it sets, where it sets one, and the tick since which
it waits (of its cause, or of the sequencer's stop). -/
structure Opening where
  delta : Int
  epoch : Nat
  stepAt : Option Nat
  own : Bool
  symbol : Nat
  skew : Option Nat
  since : Nat := 0
  deriving DecidableEq, Repr, Inhabited

/-- R294, R295: what a port's link last received and measured: the far end's T3 and this end's receive stamp in units of
2^-16 ns, when the last valid symbol came, its epoch, hops and NO_SOURCE, the sum and number of the interval's offsets in
ps and the last of them, and since when symbols have come without a break. -/
structure PortTime where
  t3 : Nat := 0
  t2 : Nat := 0
  tick : Nat := 0
  epoch : Nat := 0
  noSource : Bool := false
  hops : Nat := 0
  sum : Int := 0
  count : Nat := 0
  last : Int := 0
  since : Nat := 0
  deriving DecidableEq, Repr, Inhabited

/-- An edge a TRGOUT line has still to make: when, in ps from tick 0, of which output (0 record pulse, 1 schedule pulse,
2 level), and the level it takes. -/
structure TrgEdge where
  line : Nat
  atPs : Nat
  kind : Nat
  rise : Bool
  deriving DecidableEq, Repr, Inhabited

/-- R313: a captured TCAP edge: whole ns, sub-ns ps, epoch, falling, untimed. -/
structure Capture where
  ns : Nat
  ps : Nat
  epoch : Nat
  falling : Bool
  untimed : Bool
  deriving DecidableEq, Repr, Inhabited

/-- The time unit, the schedule and the trigger signals. `source` is the source in force (R290; 3 never stands here),
`phaseQ` the grid phase in 0.25 ns (R299), `ppsLast` when the last PPS_IN edge was accepted, in ps from tick 0,
`marks` the time of the last alignment marker sent on each port, `recHigh`, `schedHigh` and `levels` what drives each
TRGOUT line now, `levelAt` the tick in which a schedule action last set a line's level and `ahead` the entries, by tick, that
fired before their own command (R307), `ppsTick` the tick after PPS_OUT's last second (R314). -/
structure TimeUnit where
  sched : PMap SchedEntry := []
  events : List Nat := []
  acts : List (Nat × Nat × Nat × Nat) := []
  openings : List Opening := []
  phaseQ : Nat := 0
  source : Nat := 0
  lockRun : Nat := 0
  symbols : PMap PortTime := []
  marks : PMap Nat := []
  ppsLast : Option Nat := none
  edges : List TrgEdge := []
  recHigh : PMap Nat := []
  schedHigh : PMap Nat := []
  levels : List Nat := []
  tcap : PMap (List Capture) := []
  tcapLast : PMap Nat := []
  ppsTick : Nat := 0
  levelAt : PMap Nat := []
  ahead : List (Nat × Nat) := []
  ppsFall : Option Nat := none
  deriving DecidableEq, Repr, Inhabited

/-! ## The owner area (chapter 15) -/

/-- R547, R554, R555: the owner area of flash: the enrolment and the policy, and `MIN_SVN`. No reset clears it. -/
structure Owner where
  enrolled : Bool := false
  edDigest : Nat := 0
  mlDigest : Nat := 0
  enrolSeq : Nat := 0
  policySeq : Nat := 0
  requireSigned : Bool := false
  minFwSvn : Nat := 0
  minSvn : Nat := 0
  deriving DecidableEq, Repr, Inhabited

/-! ## Start-up and the pins (chapters 14 and 15) -/

/-- R220, R542, R543, R550: start-up: the tick in which the Molward die left reset, whether LPDDR5X was kept across the last
reset, whether start-up halted, and whether the programming of flash has not come to its end. -/
structure Boot where
  start : Nat := 0
  kept : Bool := false
  halted : Bool := false
  torn : Bool := false
  deriving DecidableEq, Repr, Inhabited

/-- R538: the instructions of the TAP. -/
inductive TapInstr where
  | bypass
  | idcode
  | samplePreload
  | extest
  | clamp
  | highz
  | acExtest
  deriving DecidableEq, Repr, Inhabited

/-- R511, R526, R536: whether SMB_ALERT_N and THERM_TRIP_N are driven low. -/
structure Pins where
  smbAlert : Bool := false
  thermTrip : Bool := false
  deriving DecidableEq, Repr, Inhabited

/-- R530, R538: RESET_N held low, the TAP's instruction, and what was preloaded into the boundary register. -/
structure Jtag where
  resetLow : Bool := false
  tap : TapInstr := .idcode
  boundary : List Nat := []
  deriving DecidableEq, Repr, Inhabited

/-! ## Power (chapter 13) -/

/-- Power control: whether the boot march has completed, so that domains follow their requests (R500); the units that
must pass a destructive march before use (R503); consecutive readings at or above CRIT_DC (R509); the smallest slack of
each fabric domain's streams in the present interval (R505); when each optical group came ON, until its ports enter
DETECT (R500); the microjoules not yet counted in ENERGY_MJ (R516);
and the flash repair cache, the rows of each MU and vat bank group (R226). -/
structure Pwr where
  up : Bool := false
  needMarch : List Nat := []
  critRun : Nat := 0
  winSlack : PMap Int := []
  groupsOn : PMap Nat := []
  energyUj : Nat := 0
  repair : PMap (List Nat) := []
  deriving DecidableEq, Repr, Inhabited

/-! ## The device -/

/-- The whole device: the register file, R12's values of this tick, the memories, time, and the engines. -/
structure Dev where
  regs : PMap Reg := []
  fresh : PMap Reg := []
  mem : List Host.Cell := []
  flash : List Host.Cell := []
  tick : Nat := 0
  time : Nat := 0
  rind : Rind := {}
  curd : Curd := {}
  ports : PMap Port := []
  pwr : Pwr := {}
  fab : Fabric := {}
  led : Ledger := {}
  obs : Obs := {}
  host : HostIf := {}
  rce : Rce := {}
  tu : TimeUnit := {}
  owner : Owner := {}
  boot : Boot := {}
  pins : Pins := {}
  freeIdx : Nat := 0
  out : List Emit := []
  deriving DecidableEq, Repr, Inhabited

/-- The whole state: the device, its test access port, and the commands that wait, first in, first out. -/
structure State where
  dev : Dev
  jtag : Jtag
  pending : List Instr
  deriving DecidableEq, Repr

/-- Why the machine stops with a fault. -/
inductive Fault where
  /-- Raised by every command whose operands name a port, stream, block, unit, slot or index that the device does not
  have, an address outside the range that a row is about, or a value its field cannot hold (Sys2Proof.Instr.wf). Safe:
  such a command does not exist, and nothing is said of what follows it. -/
  | noSuchUnit
  deriving DecidableEq, Repr

/-- Why a command is refused. -/
inductive Refusal where
  /-- Raised by the dispatch for a command that has no meaning yet. Safe: the run stops. -/
  | notModelled (mnemonic : String)
  deriving DecidableEq, Repr

/-- The device right after cold reset (R529): every register at the reset value of its table, no token, no frame, no
entry, the tick counter at zero (R24), READY clear and the device waiting for its boot (R542). -/
def Dev.reset : Dev := {}

/-- The machine right after reset, no command waiting. -/
def State.reset : State := { dev := Dev.reset, jtag := {}, pending := [] }

end Sys2Proof.Machine
end

