-- ==== Sys2Proof/WellFormed.lean ====
section
/-!
DEFINITION. Which commands are well formed: their operands name ports, streams, blocks, units, slots and indices the
device has, and hold values their fields can hold. A command that is not well formed does not exist; its meaning is
the fault noSuchUnit.
-/

namespace Sys2Proof

/-- R107: with the guard not in force, its other bits are zero; a predicate is p0 to p3. -/
def Guard.wf (g : Guard) : Bool := decide (g.gp < 4) && (g.ge || (!g.gn && g.gp == 0))

/-- A tile instruction issues at a physical tile of a block; upsets name locations of the tile (R98, R116). -/
def Issue.wf (x : Issue) : Bool :=
  decide (x.block < 256) && decide (x.tile < 17) && x.guard.wf &&
    x.upsets.all (fun l => decide (l < 16) || (decide (20 ≤ l) && decide (l < 288)))

/-- A byte string. -/
def bytesWf (l : List Nat) : Bool := l.all (fun x => decide (x < 256))

/-- R350: the header fields of a received frame hold what their widths can hold, and its payload is bytes. -/
def RxFrame.wf (f : RxFrame) : Bool :=
  decide (f.seq < 2 ^ 16) && decide (f.ftype < 2 ^ 8) && decide (f.length < 2 ^ 24) && decide (f.srcId < 2 ^ 16) &&
    decide (f.pcrc < 2 ^ 32) && decide (f.flags < 2 ^ 16) && decide (f.hcrc < 2 ^ 16) && bytesWf f.payload

/-- R157: of each word that fails, at most a first read and three repeats do. -/
def VuParity.wf (p : VuParity) : Bool := (p.weight ++ p.ucode ++ p.rescale ++ p.act ++ p.s2).all (fun k => decide (k ≤ 4))

/-- R198: at most a first read and three re-reads of the bank fail. -/
def Access.wf (x : Access) : Bool := decide (x.fails ≤ 4)

/-- R414, R415: the mailbox opcodes that have a row of their own. -/
def mailboxKnown (op : Nat) : Bool :=
  [0x0100, 0x0101, 0x0102, 0x0103, 0x0200, 0x0201, 0x0202, 0x0300, 0x0301, 0x0400, 0x0401, 0x4000, 0x4200, 0xC000, 0xC001,
    0xC002, 0xC003, 0xC004, 0xC010, 0xC011, 0xC012, 0xC013].contains op

/-- R393: the rates and widths of the link: 32 and 64 GT/s in CXL mode, 2.5 to 32 GT/s in PCIe fallback; ×1 to ×16. -/
def LinkMode.wf (m : LinkMode) : Bool :=
  (if m.fallback then [2500, 5000, 8000, 16000, 32000] else [32000, 64000]).contains m.rate && [1, 2, 4, 8, 16].contains m.width
/-- R542: each step's end fits its register. -/
def BootInput.wf (x : BootInput) : Bool :=
  decide (x.ends.length = 10) && x.ends.all (fun t => decide (t < 2 ^ 32)) && (!x.linkUp || x.link.wf)

/-! ## One check per command (R109, R110: the word of an instruction can hold its operands) -/

/-- The check of registerWrite: BAR0's 64 MiB, and from 2²⁶ on BAR2's 256 KiB (R395). -/
def Wf.registerWrite (addr : Nat) (_size : Nat) (data : Nat) : Bool := decide (addr < 2 ^ 26 + 2 ^ 18) && decide (data < 2 ^ 64)
/-- The check of frameBoundary. -/
def Wf.frameBoundary : Bool := true
/-- The check of frameEligible. -/
def Wf.frameEligible (p : Nat) : Bool := decide (p < 64)
/-- The check of lookbackDelivery. -/
def Wf.lookbackDelivery (b : Nat) (a : Nat) (_bad : List Nat) (_rereads : Nat) : Bool := decide (b < 256) && decide (a < 2)
/-- The check of resultArrival. -/
def Wf.resultArrival (e : Nat) : Bool := decide (e < 16)
/-- The check of faultNotice. -/
def Wf.faultNotice (_k : Nat) : Bool := true
/-- The check of tieReport. -/
def Wf.tieReport (_k : Nat) : Bool := true
/-- The check of deadline. -/
def Wf.deadline (s : Nat) (esq : Nat) : Bool := decide (s < 8) && decide (esq < 4096)
/-- The check of horizon. -/
def Wf.horizon (s : Nat) (esq : Nat) : Bool := decide (s < 8) && decide (esq < 4096)
/-- The check of timeBaseLoss. -/
def Wf.timeBaseLoss : Bool := true
/-- The check of holdoverEnd. -/
def Wf.holdoverEnd : Bool := true
/-- The check of rindCountClear. -/
def Wf.rindCountClear : Bool := true
/-- The check of slackClear. -/
def Wf.slackClear : Bool := true
/-- The check of closeInputs. -/
def Wf.closeInputs (_v : Bool) : Bool := true
/-- The check of stampSelWrite. -/
def Wf.stampSelWrite (esq : Nat) : Bool := decide (esq < 4096)
/-- The check of streamCfgWrite. -/
def Wf.streamCfgWrite (s : Nat) (v : Nat) : Bool := decide (s < 8) && decide (v < 2 ^ 64)
/-- The check of tokenTransfer. -/
def Wf.tokenTransfer (b : Nat) (net : Nat) (i : Nat) (_o : Offer) : Bool := decide (b < 256) && decide (net < 3) && decide (i < (if net = 0 then 92 else if net = 1 then 23 else 32))
/-- The check of turnMonWindow. -/
def Wf.turnMonWindow (rates : List Nat) : Bool := (rates.length == 16)
/-- The check of turnMinClear. -/
def Wf.turnMinClear : Bool := true
/-- The check of tieCountClear. -/
def Wf.tieCountClear : Bool := true
/-- The check of tileFiringStart. -/
def Wf.tileFiringStart (b : Nat) (t : Nat) (f : Nat) (_gap : Option Nat) : Bool := decide (b < 256) && decide (t < 17) && decide (f < 4)
/-- The check of nop. -/
def Wf.nop (x : Issue) : Bool := x.wf
/-- The check of end_. -/
def Wf.end_ (x : Issue) : Bool := x.wf
/-- The check of br. -/
def Wf.br (x : Issue) (target : Nat) : Bool := x.wf && decide (target < 128)
/-- The check of loop. -/
def Wf.loop (x : Issue) (ck : Nat) (target : Nat) : Bool := x.wf && decide (ck < 4) && decide (target < 128)
/-- The check of add. -/
def Wf.add (x : Issue) (rd : Nat) (ra : Nat) (rb : Nat) : Bool := x.wf && decide (rd < 16) && decide (ra < 16) && decide (rb < 16)
/-- The check of sub. -/
def Wf.sub (x : Issue) (rd : Nat) (ra : Nat) (rb : Nat) : Bool := x.wf && decide (rd < 16) && decide (ra < 16) && decide (rb < 16)
/-- The check of and_. -/
def Wf.and_ (x : Issue) (rd : Nat) (ra : Nat) (rb : Nat) : Bool := x.wf && decide (rd < 16) && decide (ra < 16) && decide (rb < 16)
/-- The check of or_. -/
def Wf.or_ (x : Issue) (rd : Nat) (ra : Nat) (rb : Nat) : Bool := x.wf && decide (rd < 16) && decide (ra < 16) && decide (rb < 16)
/-- The check of xor_. -/
def Wf.xor_ (x : Issue) (rd : Nat) (ra : Nat) (rb : Nat) : Bool := x.wf && decide (rd < 16) && decide (ra < 16) && decide (rb < 16)
/-- The check of shl. -/
def Wf.shl (x : Issue) (rd : Nat) (ra : Nat) (rb : Nat) : Bool := x.wf && decide (rd < 16) && decide (ra < 16) && decide (rb < 16)
/-- The check of shr. -/
def Wf.shr (x : Issue) (rd : Nat) (ra : Nat) (rb : Nat) : Bool := x.wf && decide (rd < 16) && decide (ra < 16) && decide (rb < 16)
/-- The check of sra. -/
def Wf.sra (x : Issue) (rd : Nat) (ra : Nat) (rb : Nat) : Bool := x.wf && decide (rd < 16) && decide (ra < 16) && decide (rb < 16)
/-- The check of adds. -/
def Wf.adds (x : Issue) (rd : Nat) (ra : Nat) (rb : Nat) : Bool := x.wf && decide (rd < 16) && decide (ra < 16) && decide (rb < 16)
/-- The check of subs. -/
def Wf.subs (x : Issue) (rd : Nat) (ra : Nat) (rb : Nat) : Bool := x.wf && decide (rd < 16) && decide (ra < 16) && decide (rb < 16)
/-- The check of min_. -/
def Wf.min_ (x : Issue) (rd : Nat) (ra : Nat) (rb : Nat) : Bool := x.wf && decide (rd < 16) && decide (ra < 16) && decide (rb < 16)
/-- The check of max_. -/
def Wf.max_ (x : Issue) (rd : Nat) (ra : Nat) (rb : Nat) : Bool := x.wf && decide (rd < 16) && decide (ra < 16) && decide (rb < 16)
/-- The check of minu. -/
def Wf.minu (x : Issue) (rd : Nat) (ra : Nat) (rb : Nat) : Bool := x.wf && decide (rd < 16) && decide (ra < 16) && decide (rb < 16)
/-- The check of maxu. -/
def Wf.maxu (x : Issue) (rd : Nat) (ra : Nat) (rb : Nat) : Bool := x.wf && decide (rd < 16) && decide (ra < 16) && decide (rb < 16)
/-- The check of mul. -/
def Wf.mul (x : Issue) (rd : Nat) (ra : Nat) (rb : Nat) : Bool := x.wf && decide (rd < 16) && decide (ra < 16) && decide (rb < 16)
/-- The check of mulu. -/
def Wf.mulu (x : Issue) (rd : Nat) (ra : Nat) (rb : Nat) : Bool := x.wf && decide (rd < 16) && decide (ra < 16) && decide (rb < 16)
/-- The check of addi. -/
def Wf.addi (x : Issue) (rd : Nat) (ra : Nat) (imm : Nat) : Bool := x.wf && decide (rd < 16) && decide (ra < 16) && decide (imm < 2 ^ 14)
/-- The check of andi. -/
def Wf.andi (x : Issue) (rd : Nat) (ra : Nat) (imm : Nat) : Bool := x.wf && decide (rd < 16) && decide (ra < 16) && decide (imm < 2 ^ 14)
/-- The check of ori. -/
def Wf.ori (x : Issue) (rd : Nat) (ra : Nat) (imm : Nat) : Bool := x.wf && decide (rd < 16) && decide (ra < 16) && decide (imm < 2 ^ 14)
/-- The check of xori. -/
def Wf.xori (x : Issue) (rd : Nat) (ra : Nat) (imm : Nat) : Bool := x.wf && decide (rd < 16) && decide (ra < 16) && decide (imm < 2 ^ 14)
/-- The check of shli. -/
def Wf.shli (x : Issue) (rd : Nat) (ra : Nat) (n : Nat) : Bool := x.wf && decide (rd < 16) && decide (ra < 16) && decide (n < 32)
/-- The check of shri. -/
def Wf.shri (x : Issue) (rd : Nat) (ra : Nat) (n : Nat) : Bool := x.wf && decide (rd < 16) && decide (ra < 16) && decide (n < 32)
/-- The check of srai. -/
def Wf.srai (x : Issue) (rd : Nat) (ra : Nat) (n : Nat) : Bool := x.wf && decide (rd < 16) && decide (ra < 16) && decide (n < 32)
/-- The check of movi. -/
def Wf.movi (x : Issue) (rd : Nat) (imm : Nat) : Bool := x.wf && decide (rd < 16) && decide (imm < 2 ^ 18)
/-- The check of movhi. -/
def Wf.movhi (x : Issue) (rd : Nat) (imm : Nat) : Bool := x.wf && decide (rd < 16) && decide (imm < 2 ^ 16)
/-- The check of extu. -/
def Wf.extu (x : Issue) (rd : Nat) (ra : Nat) (pos : Nat) (len : Nat) : Bool := x.wf && decide (rd < 16) && decide (ra < 16) && decide (pos < 32) && decide (1 ≤ len) && decide (pos + len ≤ 32)
/-- The check of exts. -/
def Wf.exts (x : Issue) (rd : Nat) (ra : Nat) (pos : Nat) (len : Nat) : Bool := x.wf && decide (rd < 16) && decide (ra < 16) && decide (pos < 32) && decide (1 ≤ len) && decide (pos + len ≤ 32)
/-- The check of ins. -/
def Wf.ins (x : Issue) (rd : Nat) (ra : Nat) (pos : Nat) (len : Nat) : Bool := x.wf && decide (rd < 16) && decide (ra < 16) && decide (pos < 32) && decide (1 ≤ len) && decide (pos + len ≤ 32)
/-- The check of popc. -/
def Wf.popc (x : Issue) (rd : Nat) (ra : Nat) : Bool := x.wf && decide (rd < 16) && decide (ra < 16)
/-- The check of clz. -/
def Wf.clz (x : Issue) (rd : Nat) (ra : Nat) : Bool := x.wf && decide (rd < 16) && decide (ra < 16)
/-- The check of sel. -/
def Wf.sel (x : Issue) (rd : Nat) (ra : Nat) (rb : Nat) (ps : Nat) : Bool := x.wf && decide (rd < 16) && decide (ra < 16) && decide (rb < 16) && decide (ps < 4)
/-- The check of rget. -/
def Wf.rget (x : Issue) (rd : Nat) (ra : Nat) : Bool := x.wf && decide (rd < 16) && decide (ra < 16)
/-- The check of rput. -/
def Wf.rput (x : Issue) (ra : Nat) (rb : Nat) : Bool := x.wf && decide (ra < 16) && decide (rb < 16)
/-- The check of lut. -/
def Wf.lut (x : Issue) (rd : Nat) (ra : Nat) : Bool := x.wf && decide (rd < 16) && decide (ra < 16)
/-- The check of luts. -/
def Wf.luts (x : Issue) (rd : Nat) (ra : Nat) : Bool := x.wf && decide (rd < 16) && decide (ra < 16)
/-- The check of lutw. -/
def Wf.lutw (x : Issue) (ra : Nat) (rb : Nat) : Bool := x.wf && decide (ra < 16) && decide (rb < 16)
/-- The check of cmpCc. -/
def Wf.cmpCc (x : Issue) (_cc : Cond) (pd : Nat) (ra : Nat) (rb : Nat) : Bool := x.wf && decide (pd < 4) && decide (ra < 16) && decide (rb < 16)
/-- The check of cmpiCc. -/
def Wf.cmpiCc (x : Issue) (_cc : Cond) (pd : Nat) (ra : Nat) (imm : Nat) : Bool := x.wf && decide (pd < 4) && decide (ra < 16) && decide (imm < 2 ^ 14)
/-- The check of plog. -/
def Wf.plog (x : Issue) (pd : Nat) (pa : Nat) (pb : Nat) (fn : Nat) : Bool := x.wf && decide (pd < 4) && decide (pa < 4) && decide (pb < 4) && decide (fn < 16)
/-- The check of pget_. -/
def Wf.pget_ (x : Issue) (rd : Nat) : Bool := x.wf && decide (rd < 16)
/-- The check of pput_. -/
def Wf.pput_ (x : Issue) (ra : Nat) : Bool := x.wf && decide (ra < 16)
/-- The check of cldi. -/
def Wf.cldi (x : Issue) (ck : Nat) (imm : Nat) : Bool := x.wf && decide (ck < 4) && decide (imm < 2 ^ 16)
/-- The check of cld. -/
def Wf.cld (x : Issue) (ck : Nat) (ra : Nat) : Bool := x.wf && decide (ck < 4) && decide (ra < 16)
/-- The check of cget. -/
def Wf.cget (x : Issue) (rd : Nat) (ck : Nat) : Bool := x.wf && decide (rd < 16) && decide (ck < 4)
/-- The check of cstep. -/
def Wf.cstep (x : Issue) (ck : Nat) (pd : Nat) : Bool := x.wf && decide (ck < 4) && decide (pd < 4)
/-- The check of recv. -/
def Wf.recv (x : Issue) (rd : Nat) (port : Nat) (_pe : Bool) (pd : Nat) : Bool := x.wf && decide (rd < 16) && decide (port < 5) && decide (pd < 4)
/-- The check of send. -/
def Wf.send (x : Issue) (port : Nat) (ra : Nat) : Bool := x.wf && decide (port < 5) && decide (ra < 16)
/-- The check of sendM. -/
def Wf.sendM (x : Issue) (port : Nat) (ra : Nat) : Bool := x.wf && decide (port < 5) && decide (ra < 16)
/-- The check of sendc. -/
def Wf.sendc (x : Issue) (ps : Nat) : Bool := x.wf && decide (ps < 4)
/-- The check of tileFlush. -/
def Wf.tileFlush (b : Nat) (t : Nat) : Bool := decide (b < 256) && decide (t < 17)
/-- The check of failedUnitConsume. -/
def Wf.failedUnitConsume (unit : Nat) (_input : Nat) : Bool := decide (unit < 2 ^ 24)
/-- The check of steer. -/
def Wf.steer (b : Nat) (u : Nat) : Bool := decide (b < 256) && decide (u < 4)
/-- The check of mergeBoth. -/
def Wf.mergeBoth (b : Nat) (u : Nat) : Bool := decide (b < 256) && decide (u < 4)
/-- The check of mergeSelected. -/
def Wf.mergeSelected (b : Nat) (u : Nat) : Bool := decide (b < 256) && decide (u < 4)
/-- The check of join. -/
def Wf.join (b : Nat) (u : Nat) : Bool := decide (b < 256) && decide (u < 4)
/-- The check of suFlush. -/
def Wf.suFlush (b : Nat) (u : Nat) : Bool := decide (b < 256) && decide (u < 4)
/-- The check of vuCycleStart. -/
def Wf.vuCycleStart (unit : Nat) (bad : VuParity) : Bool := decide (unit < 2 ^ 24) && bad.wf
/-- The check of vuRowIntake. -/
def Wf.vuRowIntake (unit : Nat) (bad : VuParity) : Bool := decide (unit < 2 ^ 24) && bad.wf
/-- The check of endOfAccumulation. -/
def Wf.endOfAccumulation (unit : Nat) (bad : VuParity) : Bool := decide (unit < 2 ^ 24) && bad.wf
/-- The check of vuTransform. -/
def Wf.vuTransform (unit : Nat) (bad : VuParity) : Bool := decide (unit < 2 ^ 24) && bad.wf
/-- The check of vuOutput. -/
def Wf.vuOutput (unit : Nat) (bad : VuParity) : Bool := decide (unit < 2 ^ 24) && bad.wf
/-- The check of vuFlush. -/
def Wf.vuFlush (unit : Nat) : Bool := decide (unit < 2 ^ 24)
/-- The check of aguRead. -/
def Wf.aguRead (b : Nat) (a : Nat) (x : Access) : Bool := decide (b < 256) && decide (a < 2) && x.wf
/-- The check of aguWrite. -/
def Wf.aguWrite (b : Nat) (a : Nat) (x : Access) : Bool := decide (b < 256) && decide (a < 2) && x.wf
/-- The check of aguWindow. -/
def Wf.aguWindow (b : Nat) (a : Nat) (x : Access) : Bool := decide (b < 256) && decide (a < 2) && x.wf
/-- The check of requestRead. -/
def Wf.requestRead (b : Nat) (a : Nat) (x : Access) : Bool := decide (b < 256) && decide (a < 2) && x.wf
/-- The check of requestWrite. -/
def Wf.requestWrite (b : Nat) (a : Nat) (x : Access) : Bool := decide (b < 256) && decide (a < 2) && x.wf
/-- The check of requestAdd. -/
def Wf.requestAdd (b : Nat) (a : Nat) (x : Access) : Bool := decide (b < 256) && decide (a < 2) && x.wf
/-- The check of fetch. -/
def Wf.fetch (b : Nat) : Bool := decide (b < 256)
/-- The check of fetchComplete. -/
def Wf.fetchComplete (b : Nat) (_tag : Nat) (_x : LpRead) : Bool := decide (b < 256)
/-- The check of wait. -/
def Wf.wait (b : Nat) : Bool := decide (b < 256)
/-- The check of post. -/
def Wf.post (b : Nat) : Bool := decide (b < 256)
/-- The check of muFlush. -/
def Wf.muFlush (b : Nat) : Bool := decide (b < 256)
/-- The check of curdRecord. -/
def Wf.curdRecord : Bool := true
/-- The check of curdSlotRead. -/
def Wf.curdSlotRead (_bad : List Nat) (_rereads : Nat) : Bool := true
/-- The check of curdCaptureComplete. -/
def Wf.curdCaptureComplete : Bool := true
/-- The check of curdEnableWrite. -/
def Wf.curdEnableWrite (_v : Bool) : Bool := true
/-- The check of curdCountClear. -/
def Wf.curdCountClear : Bool := true
/-- The check of curdAreaWrite. -/
def Wf.curdAreaWrite (v : Nat) : Bool := decide (v < 2 ^ 64)
/-- The check of curdRdWrite. -/
def Wf.curdRdWrite (v : Nat) : Bool := decide (v < 2 ^ 64)
/-- The check of curdRuleWrite. -/
def Wf.curdRuleWrite (r : Nat) (v : Nat) : Bool := decide (r < 16) && decide (v < 2 ^ 64)
/-- The check of memoryWake. -/
def Wf.memoryWake (mem : Nat) : Bool := decide (mem < 20)
/-- The check of graphSubmit. -/
def Wf.graphSubmit (tag : Nat) (_tasks : Nat) : Bool := decide (tag < 2 ^ 16)
/-- The check of taskDispatch. -/
def Wf.taskDispatch (slot : Nat) (idx : Nat) : Bool := decide (slot < 16) && decide (idx < 4096)
/-- The check of graphAbort. -/
def Wf.graphAbort (slot : Nat) : Bool := decide (slot < 16)
/-- The check of load. -/
def Wf.load (slot : Nat) (idx : Nat) : Bool := decide (slot < 16) && decide (idx < 4096)
/-- The check of unload. -/
def Wf.unload (slot : Nat) (idx : Nat) : Bool := decide (slot < 16) && decide (idx < 4096)
/-- The check of arm. -/
def Wf.arm (slot : Nat) (idx : Nat) : Bool := decide (slot < 16) && decide (idx < 4096)
/-- The check of start. -/
def Wf.start (slot : Nat) (idx : Nat) : Bool := decide (slot < 16) && decide (idx < 4096)
/-- The check of stop. -/
def Wf.stop (slot : Nat) (idx : Nat) : Bool := decide (slot < 16) && decide (idx < 4096)
/-- The check of segmentBreak. -/
def Wf.segmentBreak (slot : Nat) (idx : Nat) : Bool := decide (slot < 16) && decide (idx < 4096)
/-- The check of segmentOpen. -/
def Wf.segmentOpen (slot : Nat) (idx : Nat) : Bool := decide (slot < 16) && decide (idx < 4096)
/-- The check of install. -/
def Wf.install (slot : Nat) (idx : Nat) : Bool := decide (slot < 16) && decide (idx < 4096)
/-- The check of registerBank. -/
def Wf.registerBank (slot : Nat) (idx : Nat) : Bool := decide (slot < 16) && decide (idx < 4096)
/-- The check of march. -/
def Wf.march (slot : Nat) (idx : Nat) (_x : MarchFails) : Bool := decide (slot < 16) && decide (idx < 4096)
/-- The check of copy. -/
def Wf.copy (slot : Nat) (run : CopyRun) : Bool := decide (slot < 16) && decide (run.idx < 4096)
/-- The check of taskNop. -/
def Wf.taskNop (slot : Nat) (idx : Nat) : Bool := decide (slot < 16) && decide (idx < 4096)
/-- The check of breakReached. -/
def Wf.breakReached : Bool := true
/-- The check of drainTimeout. -/
def Wf.drainTimeout : Bool := true
/-- The check of drainedReached. -/
def Wf.drainedReached : Bool := true
/-- The check of relocation. -/
def Wf.relocation (_fails : List Nat) (_bad : List (Nat × Nat)) : Bool := true
/-- The check of loadCfgWrite. -/
def Wf.loadCfgWrite (v : Nat) : Bool := decide (v < 2 ^ 64)
/-- The check of charQueryWrite. -/
def Wf.charQueryWrite (v : Nat) : Bool := decide (v < 2 ^ 64)
/-- The check of servoUpdate. -/
def Wf.servoUpdate : Bool := true
/-- The check of revertToPrimary. -/
def Wf.revertToPrimary : Bool := true
/-- The check of ppsInEdge. -/
def Wf.ppsInEdge (sub : Nat) : Bool := decide (sub < 1250)
/-- The check of time. -/
def Wf.time (p : RxBlock) (sym : Nat) (rx : Nat) : Bool := decide (p.port < 64) && decide (sym < 2 ^ 256) && decide (rx < 2 ^ 20)
/-- The check of step. -/
def Wf.step (p : RxBlock) (sym : Nat) : Bool := decide (p.port < 64) && decide (sym < 2 ^ 256)
/-- The check of timeSymbolSend. -/
def Wf.timeSymbolSend (p : Nat) : Bool := decide (p < 64)
/-- The check of stepSymbolSend. -/
def Wf.stepSymbolSend (p : Nat) : Bool := decide (p < 64)
/-- The check of sourceLoss. -/
def Wf.sourceLoss : Bool := true
/-- The check of stepAtReached. -/
def Wf.stepAtReached : Bool := true
/-- The check of resync. -/
def Wf.resync : Bool := true
/-- The check of timeSet. -/
def Wf.timeSet (_ns : Nat) : Bool := true
/-- The check of timeRead. -/
def Wf.timeRead : Bool := true
/-- The check of tuCountClear. -/
def Wf.tuCountClear : Bool := true
/-- The check of schedWrite. -/
def Wf.schedWrite (i : Nat) : Bool := decide (i < 256)
/-- The check of schedRead. -/
def Wf.schedRead (i : Nat) : Bool := decide (i < 256)
/-- The check of schedCancel. -/
def Wf.schedCancel (i : Nat) : Bool := decide (i < 256)
/-- The check of schedEventPop. -/
def Wf.schedEventPop : Bool := true
/-- The check of scheduleFire. -/
def Wf.scheduleFire (i : Nat) : Bool := decide (i < 256)
/-- The check of trgoutEdge. -/
def Wf.trgoutEdge (t : Nat) : Bool := decide (t < 32)
/-- The check of tcapEdge. -/
def Wf.tcapEdge (i : Nat) (_falling : Bool) (sub : Nat) : Bool := decide (i < 8) && decide (sub < 1250)
/-- The check of tcapPop. -/
def Wf.tcapPop (i : Nat) : Bool := decide (i < 8)
/-- The check of ppsOutEdge. -/
def Wf.ppsOutEdge : Bool := true
/-- The check of frameAssembled. -/
def Wf.frameAssembled (p : Nat) (f : RxFrame) : Bool := decide (p < 64) && f.wf
/-- The check of protoErrDeferred. -/
def Wf.protoErrDeferred (p : Nat) : Bool := decide (p < 64)
/-- The check of quarantineProtoErr. -/
def Wf.quarantineProtoErr (p : Nat) : Bool := decide (p < 64)
/-- The check of violationWindowEnd. -/
def Wf.violationWindowEnd (p : Nat) : Bool := decide (p < 64)
/-- The check of align. -/
def Wf.align (p : RxBlock) (lane : Nat) (m : AlignMark) : Bool := decide (p.port < 64) && decide (lane < 4) && decide (m.laneId < 4)
/-- The check of alignSend. -/
def Wf.alignSend (p : Nat) : Bool := decide (p < 64)
/-- The check of credit. -/
def Wf.credit (p : RxBlock) (_grant : Nat) : Bool := decide (p.port < 64)
/-- The check of idleEnter. -/
def Wf.idleEnter (p : RxBlock) : Bool := decide (p.port < 64)
/-- The check of retrainReq. -/
def Wf.retrainReq (p : RxBlock) : Bool := decide (p.port < 64)
/-- The check of retry. -/
def Wf.retry (p : Nat) (_seq : Nat) : Bool := decide (p < 64)
/-- The check of portRecordSend. -/
def Wf.portRecordSend (p : Nat) : Bool := decide (p < 64)
/-- The check of resultFrameSend. -/
def Wf.resultFrameSend (p : Nat) : Bool := decide (p < 64)
/-- The check of captureSegmentSend. -/
def Wf.captureSegmentSend (p : Nat) : Bool := decide (p < 64)
/-- The check of creditTimeout. -/
def Wf.creditTimeout (p : Nat) : Bool := decide (p < 64)
/-- The check of signalDetect. -/
def Wf.signalDetect (p : Nat) : Bool := decide (p < 64)
/-- The check of train. -/
def Wf.train (p : Nat) (w : Nat) : Bool := decide (p < 64) && decide (w < 2 ^ 64)
/-- The check of equaliseDone. -/
def Wf.equaliseDone (p : Nat) (taps : List Nat) : Bool := decide (p < 64) && (taps.length == 52)
/-- The check of alignDone. -/
def Wf.alignDone (p : Nat) : Bool := decide (p < 64)
/-- The check of trainTimeout. -/
def Wf.trainTimeout (p : Nat) : Bool := decide (p < 64)
/-- The check of darkEnd. -/
def Wf.darkEnd (p : Nat) : Bool := decide (p < 64)
/-- The check of downRetry. -/
def Wf.downRetry (p : Nat) (_signal : Bool) : Bool := decide (p < 64)
/-- The check of linkDrop. -/
def Wf.linkDrop (p : Nat) (_loss : Bool) : Bool := decide (p < 64)
/-- The check of idleExit. -/
def Wf.idleExit (p : Nat) : Bool := decide (p < 64)
/-- The check of idleTimeout. -/
def Wf.idleTimeout (p : Nat) (_signal : Bool) : Bool := decide (p < 64)
/-- The check of laserMeasure. -/
def Wf.laserMeasure (k : Nat) (_power : Nat) : Bool := decide (k < 16)
/-- The check of marginWarn. -/
def Wf.marginWarn (p : Nat) (bits : List Nat) : Bool := decide (p < 64) && (bits.length == 4)
/-- The check of retrain. -/
def Wf.retrain (p : Nat) : Bool := decide (p < 64)
/-- The check of idleReq. -/
def Wf.idleReq (p : Nat) (_v : Bool) : Bool := decide (p < 64)
/-- The check of logPop. -/
def Wf.logPop (p : Nat) : Bool := decide (p < 64)
/-- The check of plCountClear. -/
def Wf.plCountClear (p : Nat) : Bool := decide (p < 64)
/-- The check of testSettingWrite. -/
def Wf.testSettingWrite (p : Nat) (lane : Nat) (v : Nat) : Bool := decide (p < 64) && decide (lane < 5) && decide (v < 2 ^ 64)
/-- The check of slip. -/
def Wf.slip (p : Nat) (lane : Nat) : Bool := decide (p < 64) && decide (lane < 4)
/-- The check of injectOne. -/
def Wf.injectOne (p : Nat) (lane : Nat) : Bool := decide (p < 64) && decide (lane < 4)
/-- The check of cxlMemRead. -/
def Wf.cxlMemRead (addr : Nat) (_x : LpRead) : Bool := decide (addr < 0x1400000000 ∧ addr % 64 = 0)
/-- The check of cxlMemWrite. -/
def Wf.cxlMemWrite (addr : Nat) (bytes : List Nat) : Bool := decide (addr < 0x1400000000 ∧ addr % 64 + bytes.length ≤ 64) && decide (1 ≤ bytes.length) && bytesWf bytes
/-- The check of snoop. -/
def Wf.snoop (_addr : Nat) : Bool := true
/-- The check of hdmCommit. -/
def Wf.hdmCommit (_bi : Bool) : Bool := true
/-- The check of cxlLinkDown. -/
def Wf.cxlLinkDown : Bool := true
/-- The check of cxlLinkUp. -/
def Wf.cxlLinkUp (m : LinkMode) : Bool := m.wf
/-- The check of dpStart. -/
def Wf.dpStart (v : Nat) : Bool := decide (v < 2 ^ 64)
/-- The check of dpAbort. -/
def Wf.dpAbort : Bool := true
/-- The check of dpWindowWrite. -/
def Wf.dpWindowWrite (off : Nat) (bytes : List Nat) : Bool := decide (off < 4096) && bytesWf bytes
/-- The check of dpWindowRead. -/
def Wf.dpWindowRead (off : Nat) (_size : Nat) (_x : ServiceRead) : Bool := decide (off < 4096)
/-- The check of dpBurstDone. -/
def Wf.dpBurstDone : Bool := true
/-- The check of cqEnable. -/
def Wf.cqEnable (v : Nat) : Bool := decide (v < 2 ^ 64)
/-- The check of cqHeadWrite. -/
def Wf.cqHeadWrite (v : Nat) : Bool := decide (v < 2 ^ 64)
/-- The check of cqStatClear. -/
def Wf.cqStatClear : Bool := true
/-- The check of cqEntryWrite. -/
def Wf.cqEntryWrite : Bool := true
/-- The check of cqInterrupt. -/
def Wf.cqInterrupt : Bool := true
/-- The check of getEventRecords. -/
def Wf.getEventRecords (inp : List Nat) : Bool := bytesWf inp
/-- The check of clearEventRecords. -/
def Wf.clearEventRecords (inp : List Nat) : Bool := bytesWf inp
/-- The check of getEventInterruptPolicy. -/
def Wf.getEventInterruptPolicy (inp : List Nat) : Bool := bytesWf inp
/-- The check of setEventInterruptPolicy. -/
def Wf.setEventInterruptPolicy (inp : List Nat) : Bool := bytesWf inp
/-- The check of getFwInfo. -/
def Wf.getFwInfo (inp : List Nat) : Bool := bytesWf inp
/-- The check of transferFw. -/
def Wf.transferFw (inp : List Nat) : Bool := bytesWf inp
/-- The check of activateFw. -/
def Wf.activateFw (inp : List Nat) : Bool := bytesWf inp
/-- The check of fwProgrammingDone. -/
def Wf.fwProgrammingDone (_ok : Bool) : Bool := true
/-- The check of getTimestamp. -/
def Wf.getTimestamp (inp : List Nat) : Bool := bytesWf inp
/-- The check of setTimestamp. -/
def Wf.setTimestamp (inp : List Nat) : Bool := bytesWf inp
/-- The check of getSupportedLogs. -/
def Wf.getSupportedLogs (inp : List Nat) : Bool := bytesWf inp
/-- The check of getLog. -/
def Wf.getLog (inp : List Nat) : Bool := bytesWf inp
/-- The check of identifyMemoryDevice. -/
def Wf.identifyMemoryDevice (inp : List Nat) : Bool := bytesWf inp
/-- The check of getHealthInfo. -/
def Wf.getHealthInfo (inp : List Nat) : Bool := bytesWf inp
/-- The check of mailboxUnsupported. -/
def Wf.mailboxUnsupported (opcode : Nat) (inp : List Nat) : Bool := decide (opcode < 2 ^ 16 ∧ mailboxKnown opcode = false) && bytesWf inp
/-- The check of getDeviceInfo. -/
def Wf.getDeviceInfo (inp : List Nat) : Bool := bytesWf inp
/-- The check of regionCreate. -/
def Wf.regionCreate (inp : List Nat) : Bool := bytesWf inp
/-- The check of regionFree. -/
def Wf.regionFree (inp : List Nat) : Bool := bytesWf inp
/-- The check of reset. -/
def Wf.reset (inp : List Nat) : Bool := bytesWf inp
/-- The check of logInfo. -/
def Wf.logInfo (inp : List Nat) : Bool := bytesWf inp
/-- The check of getCertificate. -/
def Wf.getCertificate (inp : List Nat) : Bool := bytesWf inp
/-- The check of attest. -/
def Wf.attest (inp : List Nat) : Bool := bytesWf inp
/-- The check of ownerEnrol. -/
def Wf.ownerEnrol (inp : List Nat) : Bool := bytesWf inp
/-- The check of ownerPolicy. -/
def Wf.ownerPolicy (inp : List Nat) : Bool := bytesWf inp
/-- The check of spdmGetVersion. -/
def Wf.spdmGetVersion (req : List Nat) : Bool := bytesWf req
/-- The check of spdmGetCapabilities. -/
def Wf.spdmGetCapabilities (req : List Nat) : Bool := bytesWf req
/-- The check of spdmNegotiateAlgorithms. -/
def Wf.spdmNegotiateAlgorithms (req : List Nat) : Bool := bytesWf req
/-- The check of spdmGetDigests. -/
def Wf.spdmGetDigests (req : List Nat) : Bool := bytesWf req
/-- The check of spdmGetCertificate. -/
def Wf.spdmGetCertificate (req : List Nat) : Bool := bytesWf req
/-- The check of spdmChallenge. -/
def Wf.spdmChallenge (req : List Nat) : Bool := bytesWf req
/-- The check of spdmGetMeasurements. -/
def Wf.spdmGetMeasurements (req : List Nat) : Bool := bytesWf req
/-- The check of spdmKeyExchange. -/
def Wf.spdmKeyExchange (req : List Nat) : Bool := bytesWf req
/-- The check of spdmFinish. -/
def Wf.spdmFinish (req : List Nat) : Bool := bytesWf req
/-- The check of spdmEndSession. -/
def Wf.spdmEndSession (req : List Nat) : Bool := bytesWf req
/-- The check of stallReport. -/
def Wf.stallReport (b : Nat) (net : Nat) (i : Nat) : Bool := decide (b < 256) && decide (net < 3) && decide (i < (if net = 0 then 92 else if net = 1 then 23 else 32))
/-- The check of probeResult. -/
def Wf.probeResult (b : Nat) (net : Nat) (i : Nat) : Bool := decide (b < 256) && decide (net < 3) && decide (i < (if net = 0 then 92 else if net = 1 then 23 else 32))
/-- The check of ledgerClear. -/
def Wf.ledgerClear : Bool := true
/-- The check of ledgerCountClear. -/
def Wf.ledgerCountClear : Bool := true
/-- The check of ledgerSelWrite. -/
def Wf.ledgerSelWrite (i : Nat) : Bool := decide (i < 1024)
/-- The check of esqLedgerWrite. -/
def Wf.esqLedgerWrite (esq : Nat) : Bool := decide (esq < 4096)
/-- The check of take. -/
def Wf.take : Bool := true
/-- The check of stallClear. -/
def Wf.stallClear : Bool := true
/-- The check of freeze. -/
def Wf.freeze (_v : Bool) : Bool := true
/-- The check of snapAreaWrite. -/
def Wf.snapAreaWrite (v : Nat) : Bool := decide (v < 2 ^ 64)
/-- The check of snapshotWritten. -/
def Wf.snapshotWritten : Bool := true
/-- The check of snapshot. -/
def Wf.snapshot (slot : Nat) (idx : Nat) : Bool := decide (slot < 16) && decide (idx < 4096)
/-- The check of scanOut. -/
def Wf.scanOut (slot : Nat) (idx : Nat) (_bad : List Nat) : Bool := decide (slot < 16) && decide (idx < 4096)
/-- The check of scanIn. -/
def Wf.scanIn (slot : Nat) (idx : Nat) : Bool := decide (slot < 16) && decide (idx < 4096)
/-- The check of reqOff. -/
def Wf.reqOff (g : Nat) : Bool := decide (g < 30)
/-- The check of reqLow. -/
def Wf.reqLow (g : Nat) : Bool := decide (g < 30)
/-- The check of reqOn. -/
def Wf.reqOn (g : Nat) : Bool := decide (g < 30)
/-- The check of reqAuto. -/
def Wf.reqAuto (g : Nat) : Bool := decide (g < 30)
/-- The check of regulatorFault. -/
def Wf.regulatorFault (g : Nat) (cause : Nat) : Bool := decide (g < 31) && decide (1 ≤ cause ∧ cause ≤ 3)
/-- The check of avcInterval. -/
def Wf.avcInterval (d : Nat) : Bool := decide (d < 16)
/-- The check of tempReading. -/
def Wf.tempReading (temps : List Nat) : Bool := (temps.length == 31) && temps.all (fun x => decide (x < 2 ^ 16))
/-- The check of hotLockWrite. -/
def Wf.hotLockWrite : Bool := true
/-- The check of peakClear. -/
def Wf.peakClear : Bool := true
/-- The check of mainUndervoltage. -/
def Wf.mainUndervoltage (mv : Nat) : Bool := decide (mv < 2 ^ 16)
/-- The check of powerDown. -/
def Wf.powerDown : Bool := true
/-- The check of coldReset. -/
def Wf.coldReset : Bool := true
/-- The check of deviceReset. -/
def Wf.deviceReset (_src : ResetSource) : Bool := true
/-- The check of bootStart. -/
def Wf.bootStart (x : BootInput) : Bool := x.wf
/-- The check of bootReady. -/
def Wf.bootReady : Bool := true
/-- The check of smbStatus. -/
def Wf.smbStatus : Bool := true
/-- The check of smbTempMax. -/
def Wf.smbTempMax : Bool := true
/-- The check of smbPower. -/
def Wf.smbPower : Bool := true
/-- The check of smbMainMv. -/
def Wf.smbMainMv : Bool := true
/-- The check of smbSerial. -/
def Wf.smbSerial : Bool := true
/-- The check of smbId. -/
def Wf.smbId : Bool := true
/-- The check of smbLaserPower. -/
def Wf.smbLaserPower : Bool := true
/-- The check of smbPortState. -/
def Wf.smbPortState : Bool := true
/-- The check of smbQuiesce. -/
def Wf.smbQuiesce (key : Nat) : Bool := decide (key < 256)
/-- The check of smbAlertResponse. -/
def Wf.smbAlertResponse : Bool := true
/-- The check of bypass. -/
def Wf.bypass : Bool := true
/-- The check of idcode. -/
def Wf.idcode : Bool := true
/-- The check of samplePreload. -/
def Wf.samplePreload (bits : List Nat) : Bool := bits.all (fun x => decide (x < 2))
/-- The check of extest. -/
def Wf.extest : Bool := true
/-- The check of clamp. -/
def Wf.clamp : Bool := true
/-- The check of highz. -/
def Wf.highz : Bool := true
/-- The check of acExtestInstruction. -/
def Wf.acExtestInstruction : Bool := true
/-- The check of tapReset. -/
def Wf.tapReset : Bool := true
/-- The check of rxLock. -/
def Wf.rxLock (p : Nat) (lane : Nat) (_errs : Nat) : Bool := decide (p < 64) && decide (lane < 4)
/-- The check of protoErr. -/
def Wf.protoErr (p : RxBlock) : Bool := decide (p.port < 64)
/-- The check of idleBlock. -/
def Wf.idleBlock (p : RxBlock) : Bool := decide (p.port < 64)
/-- The check of recordBlock. -/
def Wf.recordBlock (p : RxBlock) : Bool := decide (p.port < 64)
/-- The check of invalidBlock. -/
def Wf.invalidBlock (p : Nat) (_kind : BadBlock) : Bool := decide (p < 64)
/-- The check of opticalGroupOn. -/
def Wf.opticalGroupOn (g : Nat) : Bool := decide (g < 8)
/-- The check of retrainReqEnd. -/
def Wf.retrainReqEnd (p : Nat) : Bool := decide (p < 64)
/-- The check of rceWatchdog. -/
def Wf.rceWatchdog : Bool := true
/-- The check of powerAverage. -/
def Wf.powerAverage (mw : Nat) (da : Nat) (mv : Nat) : Bool := decide (mw < 2 ^ 32) && decide (da < 2 ^ 16) && decide (mv < 2 ^ 16)
/-- The check of resetNRise. -/
def Wf.resetNRise : Bool := true
/-- The check of cxlCacheEnable. -/
def Wf.cxlCacheEnable : Bool := true
/-- The check of ideKeyExchange. -/
def Wf.ideKeyExchange (req : List Nat) : Bool := bytesWf req
/-- The check of smbOtherCode. -/
def Wf.smbOtherCode (code : Nat) : Bool := decide ((8 ≤ code ∧ code < 256) ∧ code ≠ 0x20)

/-- A command is well formed: its operands name what exists and hold what their fields can hold. -/
def Instr.wf : Instr → Bool
  | .registerWrite addr0 size0 data0 => Wf.registerWrite addr0 size0 data0
  | .frameBoundary => Wf.frameBoundary
  | .frameEligible p0 => Wf.frameEligible p0
  | .lookbackDelivery b0 a0 bad0 rereads0 => Wf.lookbackDelivery b0 a0 bad0 rereads0
  | .resultArrival e0 => Wf.resultArrival e0
  | .faultNotice k0 => Wf.faultNotice k0
  | .tieReport k0 => Wf.tieReport k0
  | .deadline s0 esq0 => Wf.deadline s0 esq0
  | .horizon s0 esq0 => Wf.horizon s0 esq0
  | .timeBaseLoss => Wf.timeBaseLoss
  | .holdoverEnd => Wf.holdoverEnd
  | .rindCountClear => Wf.rindCountClear
  | .slackClear => Wf.slackClear
  | .closeInputs v0 => Wf.closeInputs v0
  | .stampSelWrite esq0 => Wf.stampSelWrite esq0
  | .streamCfgWrite s0 v0 => Wf.streamCfgWrite s0 v0
  | .tokenTransfer b0 net0 i0 o0 => Wf.tokenTransfer b0 net0 i0 o0
  | .turnMonWindow rates0 => Wf.turnMonWindow rates0
  | .turnMinClear => Wf.turnMinClear
  | .tieCountClear => Wf.tieCountClear
  | .tileFiringStart b0 t0 f0 gap0 => Wf.tileFiringStart b0 t0 f0 gap0
  | .nop x0 => Wf.nop x0
  | .end_ x0 => Wf.end_ x0
  | .br x0 target0 => Wf.br x0 target0
  | .loop x0 ck0 target0 => Wf.loop x0 ck0 target0
  | .add x0 rd0 ra0 rb0 => Wf.add x0 rd0 ra0 rb0
  | .sub x0 rd0 ra0 rb0 => Wf.sub x0 rd0 ra0 rb0
  | .and_ x0 rd0 ra0 rb0 => Wf.and_ x0 rd0 ra0 rb0
  | .or_ x0 rd0 ra0 rb0 => Wf.or_ x0 rd0 ra0 rb0
  | .xor_ x0 rd0 ra0 rb0 => Wf.xor_ x0 rd0 ra0 rb0
  | .shl x0 rd0 ra0 rb0 => Wf.shl x0 rd0 ra0 rb0
  | .shr x0 rd0 ra0 rb0 => Wf.shr x0 rd0 ra0 rb0
  | .sra x0 rd0 ra0 rb0 => Wf.sra x0 rd0 ra0 rb0
  | .adds x0 rd0 ra0 rb0 => Wf.adds x0 rd0 ra0 rb0
  | .subs x0 rd0 ra0 rb0 => Wf.subs x0 rd0 ra0 rb0
  | .min_ x0 rd0 ra0 rb0 => Wf.min_ x0 rd0 ra0 rb0
  | .max_ x0 rd0 ra0 rb0 => Wf.max_ x0 rd0 ra0 rb0
  | .minu x0 rd0 ra0 rb0 => Wf.minu x0 rd0 ra0 rb0
  | .maxu x0 rd0 ra0 rb0 => Wf.maxu x0 rd0 ra0 rb0
  | .mul x0 rd0 ra0 rb0 => Wf.mul x0 rd0 ra0 rb0
  | .mulu x0 rd0 ra0 rb0 => Wf.mulu x0 rd0 ra0 rb0
  | .addi x0 rd0 ra0 imm0 => Wf.addi x0 rd0 ra0 imm0
  | .andi x0 rd0 ra0 imm0 => Wf.andi x0 rd0 ra0 imm0
  | .ori x0 rd0 ra0 imm0 => Wf.ori x0 rd0 ra0 imm0
  | .xori x0 rd0 ra0 imm0 => Wf.xori x0 rd0 ra0 imm0
  | .shli x0 rd0 ra0 n0 => Wf.shli x0 rd0 ra0 n0
  | .shri x0 rd0 ra0 n0 => Wf.shri x0 rd0 ra0 n0
  | .srai x0 rd0 ra0 n0 => Wf.srai x0 rd0 ra0 n0
  | .movi x0 rd0 imm0 => Wf.movi x0 rd0 imm0
  | .movhi x0 rd0 imm0 => Wf.movhi x0 rd0 imm0
  | .extu x0 rd0 ra0 pos0 len0 => Wf.extu x0 rd0 ra0 pos0 len0
  | .exts x0 rd0 ra0 pos0 len0 => Wf.exts x0 rd0 ra0 pos0 len0
  | .ins x0 rd0 ra0 pos0 len0 => Wf.ins x0 rd0 ra0 pos0 len0
  | .popc x0 rd0 ra0 => Wf.popc x0 rd0 ra0
  | .clz x0 rd0 ra0 => Wf.clz x0 rd0 ra0
  | .sel x0 rd0 ra0 rb0 ps0 => Wf.sel x0 rd0 ra0 rb0 ps0
  | .rget x0 rd0 ra0 => Wf.rget x0 rd0 ra0
  | .rput x0 ra0 rb0 => Wf.rput x0 ra0 rb0
  | .lut x0 rd0 ra0 => Wf.lut x0 rd0 ra0
  | .luts x0 rd0 ra0 => Wf.luts x0 rd0 ra0
  | .lutw x0 ra0 rb0 => Wf.lutw x0 ra0 rb0
  | .cmpCc x0 cc0 pd0 ra0 rb0 => Wf.cmpCc x0 cc0 pd0 ra0 rb0
  | .cmpiCc x0 cc0 pd0 ra0 imm0 => Wf.cmpiCc x0 cc0 pd0 ra0 imm0
  | .plog x0 pd0 pa0 pb0 fn0 => Wf.plog x0 pd0 pa0 pb0 fn0
  | .pget_ x0 rd0 => Wf.pget_ x0 rd0
  | .pput_ x0 ra0 => Wf.pput_ x0 ra0
  | .cldi x0 ck0 imm0 => Wf.cldi x0 ck0 imm0
  | .cld x0 ck0 ra0 => Wf.cld x0 ck0 ra0
  | .cget x0 rd0 ck0 => Wf.cget x0 rd0 ck0
  | .cstep x0 ck0 pd0 => Wf.cstep x0 ck0 pd0
  | .recv x0 rd0 port0 pe0 pd0 => Wf.recv x0 rd0 port0 pe0 pd0
  | .send x0 port0 ra0 => Wf.send x0 port0 ra0
  | .sendM x0 port0 ra0 => Wf.sendM x0 port0 ra0
  | .sendc x0 ps0 => Wf.sendc x0 ps0
  | .tileFlush b0 t0 => Wf.tileFlush b0 t0
  | .failedUnitConsume unit0 input0 => Wf.failedUnitConsume unit0 input0
  | .steer b0 u0 => Wf.steer b0 u0
  | .mergeBoth b0 u0 => Wf.mergeBoth b0 u0
  | .mergeSelected b0 u0 => Wf.mergeSelected b0 u0
  | .join b0 u0 => Wf.join b0 u0
  | .suFlush b0 u0 => Wf.suFlush b0 u0
  | .vuCycleStart unit0 bad0 => Wf.vuCycleStart unit0 bad0
  | .vuRowIntake unit0 bad0 => Wf.vuRowIntake unit0 bad0
  | .endOfAccumulation unit0 bad0 => Wf.endOfAccumulation unit0 bad0
  | .vuTransform unit0 bad0 => Wf.vuTransform unit0 bad0
  | .vuOutput unit0 bad0 => Wf.vuOutput unit0 bad0
  | .vuFlush unit0 => Wf.vuFlush unit0
  | .aguRead b0 a0 x0 => Wf.aguRead b0 a0 x0
  | .aguWrite b0 a0 x0 => Wf.aguWrite b0 a0 x0
  | .aguWindow b0 a0 x0 => Wf.aguWindow b0 a0 x0
  | .requestRead b0 a0 x0 => Wf.requestRead b0 a0 x0
  | .requestWrite b0 a0 x0 => Wf.requestWrite b0 a0 x0
  | .requestAdd b0 a0 x0 => Wf.requestAdd b0 a0 x0
  | .fetch b0 => Wf.fetch b0
  | .fetchComplete b0 tag0 x0 => Wf.fetchComplete b0 tag0 x0
  | .wait b0 => Wf.wait b0
  | .post b0 => Wf.post b0
  | .muFlush b0 => Wf.muFlush b0
  | .curdRecord => Wf.curdRecord
  | .curdSlotRead bad0 rereads0 => Wf.curdSlotRead bad0 rereads0
  | .curdCaptureComplete => Wf.curdCaptureComplete
  | .curdEnableWrite v0 => Wf.curdEnableWrite v0
  | .curdCountClear => Wf.curdCountClear
  | .curdAreaWrite v0 => Wf.curdAreaWrite v0
  | .curdRdWrite v0 => Wf.curdRdWrite v0
  | .curdRuleWrite r0 v0 => Wf.curdRuleWrite r0 v0
  | .memoryWake mem0 => Wf.memoryWake mem0
  | .graphSubmit tag0 tasks0 => Wf.graphSubmit tag0 tasks0
  | .taskDispatch slot0 idx0 => Wf.taskDispatch slot0 idx0
  | .graphAbort slot0 => Wf.graphAbort slot0
  | .load slot0 idx0 => Wf.load slot0 idx0
  | .unload slot0 idx0 => Wf.unload slot0 idx0
  | .arm slot0 idx0 => Wf.arm slot0 idx0
  | .start slot0 idx0 => Wf.start slot0 idx0
  | .stop slot0 idx0 => Wf.stop slot0 idx0
  | .segmentBreak slot0 idx0 => Wf.segmentBreak slot0 idx0
  | .segmentOpen slot0 idx0 => Wf.segmentOpen slot0 idx0
  | .install slot0 idx0 => Wf.install slot0 idx0
  | .registerBank slot0 idx0 => Wf.registerBank slot0 idx0
  | .march slot0 idx0 x0 => Wf.march slot0 idx0 x0
  | .copy slot0 run0 => Wf.copy slot0 run0
  | .taskNop slot0 idx0 => Wf.taskNop slot0 idx0
  | .breakReached => Wf.breakReached
  | .drainTimeout => Wf.drainTimeout
  | .drainedReached => Wf.drainedReached
  | .relocation fails0 bad0 => Wf.relocation fails0 bad0
  | .loadCfgWrite v0 => Wf.loadCfgWrite v0
  | .charQueryWrite v0 => Wf.charQueryWrite v0
  | .servoUpdate => Wf.servoUpdate
  | .revertToPrimary => Wf.revertToPrimary
  | .ppsInEdge sub0 => Wf.ppsInEdge sub0
  | .time p0 sym0 rx0 => Wf.time p0 sym0 rx0
  | .step p0 sym0 => Wf.step p0 sym0
  | .timeSymbolSend p0 => Wf.timeSymbolSend p0
  | .stepSymbolSend p0 => Wf.stepSymbolSend p0
  | .sourceLoss => Wf.sourceLoss
  | .stepAtReached => Wf.stepAtReached
  | .resync => Wf.resync
  | .timeSet ns0 => Wf.timeSet ns0
  | .timeRead => Wf.timeRead
  | .tuCountClear => Wf.tuCountClear
  | .schedWrite i0 => Wf.schedWrite i0
  | .schedRead i0 => Wf.schedRead i0
  | .schedCancel i0 => Wf.schedCancel i0
  | .schedEventPop => Wf.schedEventPop
  | .scheduleFire i0 => Wf.scheduleFire i0
  | .trgoutEdge t0 => Wf.trgoutEdge t0
  | .tcapEdge i0 falling0 sub0 => Wf.tcapEdge i0 falling0 sub0
  | .tcapPop i0 => Wf.tcapPop i0
  | .ppsOutEdge => Wf.ppsOutEdge
  | .frameAssembled p0 f0 => Wf.frameAssembled p0 f0
  | .protoErrDeferred p0 => Wf.protoErrDeferred p0
  | .quarantineProtoErr p0 => Wf.quarantineProtoErr p0
  | .violationWindowEnd p0 => Wf.violationWindowEnd p0
  | .align p0 lane0 m0 => Wf.align p0 lane0 m0
  | .alignSend p0 => Wf.alignSend p0
  | .credit p0 grant0 => Wf.credit p0 grant0
  | .idleEnter p0 => Wf.idleEnter p0
  | .retrainReq p0 => Wf.retrainReq p0
  | .retry p0 seq0 => Wf.retry p0 seq0
  | .portRecordSend p0 => Wf.portRecordSend p0
  | .resultFrameSend p0 => Wf.resultFrameSend p0
  | .captureSegmentSend p0 => Wf.captureSegmentSend p0
  | .creditTimeout p0 => Wf.creditTimeout p0
  | .signalDetect p0 => Wf.signalDetect p0
  | .train p0 w0 => Wf.train p0 w0
  | .equaliseDone p0 taps0 => Wf.equaliseDone p0 taps0
  | .alignDone p0 => Wf.alignDone p0
  | .trainTimeout p0 => Wf.trainTimeout p0
  | .darkEnd p0 => Wf.darkEnd p0
  | .downRetry p0 signal0 => Wf.downRetry p0 signal0
  | .linkDrop p0 loss0 => Wf.linkDrop p0 loss0
  | .idleExit p0 => Wf.idleExit p0
  | .idleTimeout p0 signal0 => Wf.idleTimeout p0 signal0
  | .laserMeasure k0 power0 => Wf.laserMeasure k0 power0
  | .marginWarn p0 bits0 => Wf.marginWarn p0 bits0
  | .retrain p0 => Wf.retrain p0
  | .idleReq p0 v0 => Wf.idleReq p0 v0
  | .logPop p0 => Wf.logPop p0
  | .plCountClear p0 => Wf.plCountClear p0
  | .testSettingWrite p0 lane0 v0 => Wf.testSettingWrite p0 lane0 v0
  | .slip p0 lane0 => Wf.slip p0 lane0
  | .injectOne p0 lane0 => Wf.injectOne p0 lane0
  | .cxlMemRead addr0 x0 => Wf.cxlMemRead addr0 x0
  | .cxlMemWrite addr0 bytes0 => Wf.cxlMemWrite addr0 bytes0
  | .snoop addr0 => Wf.snoop addr0
  | .hdmCommit bi0 => Wf.hdmCommit bi0
  | .cxlLinkDown => Wf.cxlLinkDown
  | .cxlLinkUp m0 => Wf.cxlLinkUp m0
  | .dpStart v0 => Wf.dpStart v0
  | .dpAbort => Wf.dpAbort
  | .dpWindowWrite off0 bytes0 => Wf.dpWindowWrite off0 bytes0
  | .dpWindowRead off0 size0 x0 => Wf.dpWindowRead off0 size0 x0
  | .dpBurstDone => Wf.dpBurstDone
  | .cqEnable v0 => Wf.cqEnable v0
  | .cqHeadWrite v0 => Wf.cqHeadWrite v0
  | .cqStatClear => Wf.cqStatClear
  | .cqEntryWrite => Wf.cqEntryWrite
  | .cqInterrupt => Wf.cqInterrupt
  | .getEventRecords inp0 => Wf.getEventRecords inp0
  | .clearEventRecords inp0 => Wf.clearEventRecords inp0
  | .getEventInterruptPolicy inp0 => Wf.getEventInterruptPolicy inp0
  | .setEventInterruptPolicy inp0 => Wf.setEventInterruptPolicy inp0
  | .getFwInfo inp0 => Wf.getFwInfo inp0
  | .transferFw inp0 => Wf.transferFw inp0
  | .activateFw inp0 => Wf.activateFw inp0
  | .fwProgrammingDone ok0 => Wf.fwProgrammingDone ok0
  | .getTimestamp inp0 => Wf.getTimestamp inp0
  | .setTimestamp inp0 => Wf.setTimestamp inp0
  | .getSupportedLogs inp0 => Wf.getSupportedLogs inp0
  | .getLog inp0 => Wf.getLog inp0
  | .identifyMemoryDevice inp0 => Wf.identifyMemoryDevice inp0
  | .getHealthInfo inp0 => Wf.getHealthInfo inp0
  | .mailboxUnsupported opcode0 inp0 => Wf.mailboxUnsupported opcode0 inp0
  | .getDeviceInfo inp0 => Wf.getDeviceInfo inp0
  | .regionCreate inp0 => Wf.regionCreate inp0
  | .regionFree inp0 => Wf.regionFree inp0
  | .reset inp0 => Wf.reset inp0
  | .logInfo inp0 => Wf.logInfo inp0
  | .getCertificate inp0 => Wf.getCertificate inp0
  | .attest inp0 => Wf.attest inp0
  | .ownerEnrol inp0 => Wf.ownerEnrol inp0
  | .ownerPolicy inp0 => Wf.ownerPolicy inp0
  | .spdmGetVersion req0 => Wf.spdmGetVersion req0
  | .spdmGetCapabilities req0 => Wf.spdmGetCapabilities req0
  | .spdmNegotiateAlgorithms req0 => Wf.spdmNegotiateAlgorithms req0
  | .spdmGetDigests req0 => Wf.spdmGetDigests req0
  | .spdmGetCertificate req0 => Wf.spdmGetCertificate req0
  | .spdmChallenge req0 => Wf.spdmChallenge req0
  | .spdmGetMeasurements req0 => Wf.spdmGetMeasurements req0
  | .spdmKeyExchange req0 => Wf.spdmKeyExchange req0
  | .spdmFinish req0 => Wf.spdmFinish req0
  | .spdmEndSession req0 => Wf.spdmEndSession req0
  | .stallReport b0 net0 i0 => Wf.stallReport b0 net0 i0
  | .probeResult b0 net0 i0 => Wf.probeResult b0 net0 i0
  | .ledgerClear => Wf.ledgerClear
  | .ledgerCountClear => Wf.ledgerCountClear
  | .ledgerSelWrite i0 => Wf.ledgerSelWrite i0
  | .esqLedgerWrite esq0 => Wf.esqLedgerWrite esq0
  | .take => Wf.take
  | .stallClear => Wf.stallClear
  | .freeze v0 => Wf.freeze v0
  | .snapAreaWrite v0 => Wf.snapAreaWrite v0
  | .snapshotWritten => Wf.snapshotWritten
  | .snapshot slot0 idx0 => Wf.snapshot slot0 idx0
  | .scanOut slot0 idx0 bad0 => Wf.scanOut slot0 idx0 bad0
  | .scanIn slot0 idx0 => Wf.scanIn slot0 idx0
  | .reqOff g0 => Wf.reqOff g0
  | .reqLow g0 => Wf.reqLow g0
  | .reqOn g0 => Wf.reqOn g0
  | .reqAuto g0 => Wf.reqAuto g0
  | .regulatorFault g0 cause0 => Wf.regulatorFault g0 cause0
  | .avcInterval d0 => Wf.avcInterval d0
  | .tempReading temps0 => Wf.tempReading temps0
  | .hotLockWrite => Wf.hotLockWrite
  | .peakClear => Wf.peakClear
  | .mainUndervoltage mv0 => Wf.mainUndervoltage mv0
  | .powerDown => Wf.powerDown
  | .coldReset => Wf.coldReset
  | .deviceReset src0 => Wf.deviceReset src0
  | .bootStart x0 => Wf.bootStart x0
  | .bootReady => Wf.bootReady
  | .smbStatus => Wf.smbStatus
  | .smbTempMax => Wf.smbTempMax
  | .smbPower => Wf.smbPower
  | .smbMainMv => Wf.smbMainMv
  | .smbSerial => Wf.smbSerial
  | .smbId => Wf.smbId
  | .smbLaserPower => Wf.smbLaserPower
  | .smbPortState => Wf.smbPortState
  | .smbQuiesce key0 => Wf.smbQuiesce key0
  | .smbAlertResponse => Wf.smbAlertResponse
  | .bypass => Wf.bypass
  | .idcode => Wf.idcode
  | .samplePreload bits0 => Wf.samplePreload bits0
  | .extest => Wf.extest
  | .clamp => Wf.clamp
  | .highz => Wf.highz
  | .acExtestInstruction => Wf.acExtestInstruction
  | .tapReset => Wf.tapReset
  | .rxLock p0 lane0 errs0 => Wf.rxLock p0 lane0 errs0
  | .protoErr p0 => Wf.protoErr p0
  | .idleBlock p0 => Wf.idleBlock p0
  | .recordBlock p0 => Wf.recordBlock p0
  | .invalidBlock p0 kind0 => Wf.invalidBlock p0 kind0
  | .opticalGroupOn g0 => Wf.opticalGroupOn g0
  | .retrainReqEnd p0 => Wf.retrainReqEnd p0
  | .rceWatchdog => Wf.rceWatchdog
  | .powerAverage mw0 da0 mv0 => Wf.powerAverage mw0 da0 mv0
  | .resetNRise => Wf.resetNRise
  | .cxlCacheEnable => Wf.cxlCacheEnable
  | .ideKeyExchange req0 => Wf.ideKeyExchange req0
  | .smbOtherCode code0 => Wf.smbOtherCode code0

end Sys2Proof
end

