-- ==== Sys2Proof/Machine/Ops.lean ====
section
/-!
DEFINITION. The named operations every family uses: reading and writing register fields, events and counts with their
clears (R11 to R13), the clocks (R24, R287), the memories, unit identifiers (R64), and the log of what leaves.
The block has no exception entry: raising an error flag or an interrupt is the command's effect on State.
-/

namespace Sys2Proof.Machine

open Sys2Proof

/-- The outcome of a command: the device it makes where it is well formed, else a fault. No command touches the
queue of waiting commands. -/
def State.onDev (s : State) (wf : Bool) (f : Dev → Dev) : Host.Outcome State Fault Refusal :=
  if wf then .next { s with dev := f s.dev } else .fault .noSuchUnit

/-- As `onDev`, of a command that reaches the test access port too. -/
def State.onPort (s : State) (wf : Bool) (f : Dev × Jtag → Dev × Jtag) : Host.Outcome State Fault Refusal :=
  if wf then .next { s with dev := (f (s.dev, s.jtag)).1, jtag := (f (s.dev, s.jtag)).2 } else .fault .noSuchUnit

/-! ## Registers -/

/-- The value of a register. -/
def Dev.rget (d : Dev) (off : Nat) : Reg := (pget d.regs off).getD (regReset off)

/-- Set a register. -/
def Dev.rset (d : Dev) (off : Nat) (v : Reg) : Dev := { d with regs := pput off v d.regs }

/-- The value of a field. -/
def Dev.fget (d : Dev) (f : Fld) : Nat := bitsOf (d.rget f.off).toNat f.lsb f.width

/-- A register value with a field set to the low bits of a number. -/
def withField (r : Reg) (f : Fld) (v : Nat) : Reg := BitVec.ofNat 64 (setBits r.toNat f.lsb f.width v)

/-- Set a field. -/
def Dev.fset (d : Dev) (f : Fld) (v : Nat) : Dev := d.rset f.off (withField (d.rget f.off) f v)

/-- A one-bit field as a Boolean. -/
def Dev.flag (d : Dev) (f : Fld) : Bool := d.fget f == 1

/-- A field read as a two's complement number. -/
def Dev.fint (d : Dev) (f : Fld) : Int := sx f.width (d.fget f)

/-- Set a field to the low bits of an integer. -/
def Dev.fsetInt (d : Dev) (f : Fld) (v : Int) : Dev := d.fset f (wrapTo f.width v)

/-- Set several fields in turn. -/
def Dev.fsets (d : Dev) (l : List (Fld × Nat)) : Dev := l.foldl (fun d e => d.fset e.1 e.2) d

/-- R12: the value a register would hold had it been zero at the start of this tick. -/
def Dev.freshGet (d : Dev) (off : Nat) : Reg := (pget d.fresh off).getD 0

/-- R13: an event counter counts n events; it saturates at all ones. -/
def Dev.bumpBy (d : Dev) (f : Fld) (n : Nat) : Dev :=
  let fr := withField (d.freshGet f.off) f (satAdd f.width (bitsOf (d.freshGet f.off).toNat f.lsb f.width) n)
  { d.fset f (satAdd f.width (d.fget f) n) with fresh := pput f.off fr d.fresh }

/-- R13: one event. -/
def Dev.bump (d : Dev) (f : Fld) : Dev := d.bumpBy f 1

/-- R11, R12: an event sets a W1C bit. -/
def Dev.event (d : Dev) (f : Fld) : Dev :=
  { d.fset f 1 with fresh := pput f.off (withField (d.freshGet f.off) f 1) d.fresh }

/-- R12: clear the bits of a mask, keeping what this tick's events set or counted in them. -/
def Dev.clearMask (d : Dev) (off mask : Nat) : Dev :=
  let old := (d.rget off).toNat
  let fr := (d.freshGet off).toNat
  d.rset off (BitVec.ofNat 64 ((old ^^^ (old &&& mask)) ||| (fr &&& mask)))

/-- The bits of a field as a mask. -/
def Fld.mask (f : Fld) : Nat := (2 ^ f.width - 1) <<< f.lsb

/-- R12: clear a counter or a W1C field. -/
def Dev.clearFld (d : Dev) (f : Fld) : Dev := d.clearMask f.off f.mask

/-- Clear a list of fields. -/
def Dev.clearFlds (d : Dev) (l : List Fld) : Dev := l.foldl Dev.clearFld d

/-! ## The clocks -/

/-- R287: the increment in force, a 32.32 number of ns. -/
def Dev.inc (d : Dev) : Nat := d.fget TU_INC_INC

/-- R24, R287: n ticks pass: the tick counter counts them and (C, F) takes the increment at each. -/
def Dev.adv (d : Dev) (n : Nat) : Dev :=
  if n = 0 then d else
  { d with
    tick := d.tick + n
    time := (d.time + n * d.inc) % 2 ^ 96
    fresh := []
    led := { d.led with fresh := [], freshIndex := [] } }

/-- The clock brought to a tick; time does not go back. -/
def Dev.advTo (d : Dev) (t : Nat) : Dev := d.adv (t - d.tick)

/-- R287: the nanosecond count C. -/
def Dev.ns (d : Dev) : Nat := d.time >>> 32

/-- The clock brought to the first tick with C at or after an instant. -/
def Dev.advNs (d : Dev) (t : Nat) : Dev := d.adv (ceilDiv ((t <<< 32) - d.time) d.inc)

/-- R289: the signed difference of two 48-bit stamps. -/
def stampDiff (a b : Nat) : Int := sx 48 (wrapTo 48 ((a : Int) - (b : Int)))

/-- R289: the signed difference of two epochs. -/
def epochDiff (a b : Nat) : Int := sx 16 (wrapTo 16 ((a : Int) - (b : Int)))

/-- C where TIME_VALID is set, else 0 (R408, R482). -/
def Dev.timeOr0 (d : Dev) : Nat := if d.flag TU_STATUS_TIME_VALID then d.ns else 0

/-- The epoch in force (R41). -/
def Dev.epoch (d : Dev) : Nat := d.fget TU_STATUS_EPOCH

/-! ## Memory -/

/-- A byte of memory; a byte nothing has written reads zero. -/
def memGet (m : List Host.Cell) (a : Nat) : Nat := ((pget m a).getD 0#8).toNat

/-- A memory with a byte written; a zero byte is not listed. -/
def memPut (m : List Host.Cell) (a v : Nat) : List Host.Cell :=
  if BitVec.ofNat 8 v = 0#8 then pdel a m else pput a (BitVec.ofNat 8 v) m

/-- A memory with bytes written from an address on. -/
def memPuts (m : List Host.Cell) (a : Nat) : List Nat → List Host.Cell
  | [] => m
  | v :: vs => memPuts (memPut m a v) (a + 1) vs

/-- The bytes of a memory from an address on. -/
def memBytes (m : List Host.Cell) (a n : Nat) : List Nat := (upTo n).map (fun i => memGet m (a + i))

/-- The canonical form of a memory: addresses strictly rising, no zero byte listed. -/
def Memory.wf (m : List Host.Cell) : Bool := rising m && m.all (fun e => e.2 != 0#8)

/-- Bytes of the device address space (R398). -/
def Dev.bytes (d : Dev) (a n : Nat) : List Nat := memBytes d.mem a n

/-- A little-endian number of the device address space. -/
def Dev.leMem (d : Dev) (a n : Nat) : Nat := leNat (d.bytes a n)

/-- Write bytes into the device address space. -/
def Dev.poke (d : Dev) (a : Nat) (bs : List Nat) : Dev := { d with mem := memPuts d.mem a bs }

/-- Erase a span to zeros. -/
def Dev.zeroSpan (d : Dev) (a n : Nat) : Dev := { d with mem := d.mem.filter (fun e => e.1 < a || a + n ≤ e.1) }

/-- R398: where LPDDR5X ends. -/
def lpSize : Nat := 0x1400000000
/-- R398: base of the vat. -/
def vatBase : Nat := 0x010000000000
/-- R398, R66: base of the block memories. -/
def blkMemBase : Nat := 0x020000000000
/-- R66: base of the spare VU weight stores. -/
def spareStoreBase : Nat := 0x020020000000
/-- R66: base of block b's memory region. -/
def blkMem (b : Nat) : Nat := blkMemBase + 0x200000 * b
/-- R66, R190: device address of MU word w of block b. -/
def muWordAddr (b w : Nat) : Nat := blkMem b + 64 * w

/-! ## Unit identifiers (R64) -/

/-- R64: a unit identifier. -/
def unitId (cls whr idx : Nat) : Nat := cls * 0x100000 + whr * 0x1000 + idx
/-- R64: the class of a unit. -/
def unitClass (u : Nat) : Nat := bitsOf u 20 4
/-- R64: the block or domain of a unit. -/
def unitWhere (u : Nat) : Nat := bitsOf u 12 8
/-- R64: the index of a unit. -/
def unitIndex (u : Nat) : Nat := bitsOf u 0 12
/-- R64: the physical tile. -/
def tileId (b t : Nat) : Nat := unitId 0 b t
/-- R64: the sink of a network. -/
def sinkId (b net i : Nat) : Nat := unitId (4 + net) b i
/-- R64: the rind egress point e. -/
def egressId (e : Nat) : Nat := unitId 9 (16 * e + 15) 0
/-- R64: the root of the priority lane. -/
def rootId : Nat := unitId 0xB 0 0
/-- R61: the fabric domain of a block. -/
def domainOf (b : Nat) : Nat := 4 * (b / 16 / 4) + b % 16 / 4
/-- R439: the reporting blocks a reporter stands for; a domain unit, the root and a vat locus name no block. -/
def blockBit (u : Nat) : Nat :=
  let c := unitClass u
  if c = 7 ∨ 10 ≤ c then 0 else 2 ^ unitWhere u

/-! ## Log, free values and run state -/

/-- Something leaves the device. -/
def Dev.emit (d : Dev) (e : Emit) : Dev := { d with out := d.out ++ [e] }

/-- R395: word k of BAR2. An MSI-X vector is masked after reset (PRESUMED: PCI Express; log entry 100). -/
def Dev.bar2Word (d : Dev) (k : Nat) : Nat := (pget d.host.bar2 k).getD (b2n (k == 0x8003 || k == 0x8007 || k == 0x800B || k == 0x800F))
/-- R395: MSI-X vector v is not masked. -/
def Dev.vectorOn (d : Dev) (v : Nat) : Bool := !bitAt (d.bar2Word (0x8003 + 4 * v)) 0
/-- R395: MSI-X vector v is signalled: its message leaves, or its pending bit is set while the vector is masked. -/
def Dev.signal (d : Dev) (v : Nat) : Dev :=
  if d.vectorOn v then d.emit (.msix v) else { d with host := { d.host with msixPending := setBits d.host.msixPending v 1 1 } }

/-- R400: the lines of LPDDR5X that a write of n bytes reaches are back-invalidated in the host, while CXL.mem is in force. -/
def Dev.invalidated (d : Dev) (a n : Nat) : List Emit :=
  if d.flag GLB_STATUS_MEM_EN && decide (n ≠ 0) then
    ((List.range' (a / 64) ((a + n - 1) / 64 + 1 - a / 64)).filter (fun k => decide (64 * k < lpSize))).map (fun k => .backInvalidate (64 * k))
  else []
/-- R400: a write from inside the device: back-invalidation, then the bytes. -/
def Dev.put (d : Dev) (a : Nat) (bs : List Nat) : Dev := { d.poke a bs with out := d.out ++ d.invalidated a bs.length }

/-- A free bit: the k-th use of an open choice. -/
def Dev.freeBit (d : Dev) : Bool × Dev := (Config.tieFlag d.freeIdx, { d with freeIdx := d.freeIdx + 1 })

/-- Apply a change to the device for each element of a list, in order. -/
def Dev.each {α : Type} (d : Dev) (l : List α) (f : Dev → α → Dev) : Dev := l.foldl f d

/-- A change made only where a condition holds. -/
def Dev.when (d : Dev) (c : Bool) (f : Dev → Dev) : Dev := if c then f d else d

/-- R265: the run states of RUN_STATE (R41). -/
def stIdle : Nat := 0
def stLoaded : Nat := 1
def stArmed : Nat := 2
def stRunning : Nat := 3
def stBreak : Nat := 4
def stQuiescing : Nat := 5
def stDrained : Nat := 6

/-- The run state. -/
def Dev.runState (d : Dev) : Nat := d.fget RIND_STATUS_RUN_STATE

/-- Move to a run state. -/
def Dev.setRun (d : Dev) (v : Nat) : Dev := d.fset RIND_STATUS_RUN_STATE v

/-- R265: a run is under way. -/
def Dev.inRun (d : Dev) : Bool := d.runState == stRunning || d.runState == stBreak || d.runState == stQuiescing

/-- R397: the device answers outside GLB and SEC. -/
def Dev.ready (d : Dev) : Bool := d.flag GLB_STATUS_READY && !d.flag GLB_STATUS_RECOVERY

/-- The streams the loaded image declares. -/
def Dev.enabledStreams (d : Dev) : List Nat := (upTo 8).filter (fun s => d.flag (RIND_STREAM_CFG_ENABLED s))

end Sys2Proof.Machine
end

