-- ==== Sys2Proof/Machine/Attest.lean ====
section
/-!
DEFINITION. The answers of the mailbox (R414, R415) and the attestation report (R544, R557), which an ATTEST that has waited for a
run task returns at that task's end.
-/

namespace Sys2Proof.Machine

open Sys2Proof

/-- CXL 3.1 return codes. -/
def rcSuccess : Nat := 0
/-- R414: a command completes with a return code and a payload, signalled on vector 1. -/
def Dev.reply (d : Dev) (op code : Nat) (bs : List Nat) : Dev := (d.emit (.mailbox op code bs)).signal 1
/-- R415: VSTATUS codes. -/
def vsOk : Nat := 0
/-- R415: a vendor command completes with a VSTATUS and its output. -/
def Dev.vanswer (d : Dev) (op vs : Nat) (bs : List Nat) : Dev := d.reply op rcSuccess (leBytes 4 vs ++ bs)

/-! ## The report (R544, R557) -/

/-- R544: the 64-byte message of an object: its tag, padded, and its digest. -/
def sigMessage (tag : String) (digest : Nat) : List Nat := padTo 32 (tag.toList.map Char.toNat) ++ leBytes 32 digest
/-- R557: OWNER_DIGEST. -/
def Dev.ownerDigest (d : Dev) : Nat :=
  if d.owner.enrolled then Config.sha3 (leBytes 32 d.owner.edDigest ++ leBytes 32 d.owner.mlDigest) else 0
/-- R564: the firmware digest as SEC_FW_DIGEST shows it. -/
def Dev.fwDigestShown (d : Dev) : Nat := ((upTo 4).map (fun k => d.fget (SEC_FW_DIGEST_DIGEST k) * 2 ^ (64 * k))).sum
/-- R557: IMAGE_DIGEST. -/
def Dev.imageDigest (d : Dev) : Nat := ((d.rce.image.map Image.digest).getD 0)
/-- R557: AFLAGS. -/
def Dev.attestFlags (d : Dev) : Nat :=
  let im (f : Image → Bool) : Nat := b2n ((d.rce.image.map f).getD false)
  im (fun _ => true) + 2 * im Image.signed + 4 * b2n d.owner.enrolled + 8 * b2n d.owner.requireSigned +
    16 * im (fun i => i.figures.any Figure.t2) + 32 * b2n (d.fget SEC_UPDATE_UPDATE_STATE == 3)
/-- R557: bytes 0x000 to 0x0DF of the report. -/
def Dev.reportBody (d : Dev) (nonce : List Nat) : List Nat :=
  [0x45, 0x56, 0x58, 0x41] ++ leBytes 2 1 ++ leBytes 2 0 ++ leBytes 8 (d.fget GLB_SERIAL_SERIAL) ++ padTo 32 nonce ++
    leBytes 32 d.fwDigestShown ++ leBytes 8 (d.rget GLB_FW_VERSION).toNat ++ leBytes 4 (d.fget SEC_FW_SVN) ++ leBytes 4 d.attestFlags ++
    leBytes 32 d.imageDigest ++ leBytes 32 d.rce.regDigest ++ leBytes 32 d.ownerDigest ++ leBytes 4 d.owner.policySeq ++
    leBytes 4 (d.fget RCE_RUN_CTX_RUN_CTX) ++ [d.runState, d.fget GLB_ID_STEPPING, d.fget GLB_ID_GRADE, 0] ++
    leBytes 4 (d.fget SEC_ATTEST_ATTEST_COUNT) ++ leBytes 8 d.timeOr0 ++ leBytes 8 d.tick
/-- R544, R557: the report with the device's signatures. -/
def Dev.report557 (d : Dev) (nonce : List Nat) : List Nat :=
  let body := d.reportBody nonce
  let msg := sigMessage "EVX-T4 ATTESTATION" (Config.sha3 body)
  body ++ padTo 64 (Config.devEdSign msg) ++ padTo 3309 (Config.devMlSign msg)
/-- R557: an ATTEST makes its report and counts it. -/
def Dev.attestNow (d : Dev) (nonce : List Nat) : Dev :=
  let d := d.fset SEC_ATTEST_ATTEST_COUNT ((d.fget SEC_ATTEST_ATTEST_COUNT + 1) % 2 ^ 32)
  d.vanswer 0xC011 vsOk (d.report557 nonce)

end Sys2Proof.Machine
end

