-- ==== Sys2Proof/Machine/Reports.lean ====
section
/-!
DEFINITION. What the device reports: the run log (R484), completion-queue entries and alerts (R408 to R412), the fault
ledger (R439 to R443) and fault notices (R433 to R435).
-/

namespace Sys2Proof.Machine

open Sys2Proof

/-! ## The run log (R484) -/

/-- R484: a run-log entry's 16-byte header. -/
def logHeader (ty len seq tick : Nat) : List Nat := leBytes 2 ty ++ leBytes 2 len ++ leBytes 4 seq ++ leBytes 8 tick

/-- R484: what is written into the open page also stands in the ring in LPDDR5X, in region 0. -/
def Dev.logStore (d : Dev) (bs : List Nat) : Dev :=
  let size := d.fget (LPX_REGION_SIZE_MIB 0) * 0x100000
  if size = 0 then d
  else d.put (d.fget (LPX_REGION_BASE_MIB 0) * 0x100000 + (4096 * d.obs.logPages.length + d.obs.logCur.length) % size) bs

/-- Put an entry of a body into the open page, its remainder into entries of type CONTINUED on the pages after; the end of a page
that takes no entry is PAD. -/
def logPut : Nat → Nat → List Nat → Dev → Dev
  | 0, _, _, d => d
  | fuel + 1, ty, body, d =>
    let room := 4096 - d.obs.logCur.length
    if room < 32 then
      let pad := if room = 0 then [] else padTo room (logHeader 0 room d.obs.logSeq d.tick)
      let d := d.logStore pad
      logPut fuel ty body { d with obs := { d.obs with
        logPages := d.obs.logPages ++ [d.obs.logCur ++ pad], logCur := [], logSeq := (d.obs.logSeq + b2n (room != 0)) % 2 ^ 32 } }
    else
      let part := body.take (room - 16)
      let len := 16 + alignUp 4 part.length
      let entry := logHeader ty len d.obs.logSeq d.tick ++ padTo (len - 16) part
      let d := d.logStore entry
      let d := { d with obs := { d.obs with
        logCur := d.obs.logCur ++ entry,
        logSeq := (d.obs.logSeq + 1) % 2 ^ 32 } }
      if body.length ≤ room - 16 then d else logPut fuel 15 (body.drop (room - 16)) d

/-- R484: an entry is made in the run log. -/
def Dev.log (d : Dev) (ty : Nat) (body : List Nat) : Dev := logPut (2 * body.length + 3) ty body d

/-! ## Provenance (R460) -/

/-- R460: a slot of a registration record. -/
def slotRecord (slot : Nat) (e : BankEntry) : List Nat := leBytes 2 slot ++ leBytes 6 0 ++ leBytes 8 e.bank ++ leBytes 32 e.digest

/-- R460: the registration record of an ARM, or of an INSTALL that takes effect with frame `first`. -/
def Dev.registration (d : Dev) (im : Image) (install : Bool) (first : Nat) : List Nat :=
  leBytes 4 (d.fget RCE_RUN_CTX_RUN_CTX) ++ leBytes 4 (b2n (im.figures.any Figure.t2) + 2 * b2n install) ++ leBytes 8 first ++
  leBytes 32 im.digest ++ leBytes 8 (d.fget GLB_SERIAL_SERIAL) ++ [d.fget GLB_ID_STEPPING, d.fget GLB_ID_GRADE] ++
  leBytes 2 im.devCount ++ leBytes 2 im.devIndex ++ leBytes 2 d.rce.installed.length ++
  d.rce.installed.flatMap (fun e : Nat × BankEntry => slotRecord e.1 e.2) ++ leBytes 8 (d.rce.seeds.length / 16) ++ d.rce.seeds

/-- R266, R271, R460: the run is registered in the run log, under the `RUN_CTX` in force. -/
def Dev.register (d : Dev) (install : Bool) (first : Nat) : Dev :=
  match d.rce.image with
  | none => d
  | some im =>
    let r := d.registration im install first
    { d with rce := { d.rce with regDigest := Config.sha3 r } }.log 1 r

/-! ## The completion queue (R407 to R412) -/

/-- R407: the number of entries of the queue. -/
def Dev.cqSize (d : Dev) : Nat := 2 ^ d.fget GLB_CQ_CFG_ENTRIES_LOG2

/-- R407: the entries written and not yet consumed. -/
def Dev.cqUsed (d : Dev) : Nat := (d.fget GLB_CQ_TAIL_TAIL + d.cqSize - d.fget GLB_CQ_HEAD_HEAD) % d.cqSize

/-- R407, R412: an entry can be written now behind `ahead` others. -/
def Dev.cqOpen (d : Dev) (ahead : Nat) : Bool :=
  d.flag GLB_CQ_CFG_ENABLE && !d.host.linkDown && decide (d.cqUsed + ahead + 1 < d.cqSize)

/-- R408: the 64 bytes of an entry, PHASE and CSEQ still zero. -/
def cqBytes (rtype arg time : Nat) (body : List Nat) : List Nat :=
  [rtype, 0, 0, 0] ++ leBytes 4 arg ++ leBytes 8 time ++ padTo 48 body

/-- R412: the held entries that share the hold of 32. -/
def heldShared (l : List CqEntry) : Nat := (l.filter (fun e => e.graph.isNone)).length

/-- R407, R408: an entry with the PHASE and CSEQ it has once the entries ahead of it are written. -/
def Dev.cqStamped (d : Dev) (ahead : Nat) (bytes : List Nat) : List Nat :=
  let laps := (d.fget GLB_CQ_TAIL_TAIL + ahead) / d.cqSize
  bytes.take 1 ++ [(d.fget GLB_CQ_TAIL_PHASE + laps) % 2] ++ leBytes 2 ((d.host.cseq + ahead) % 2 ^ 16) ++ bytes.drop 4

/-- R408, R412: an entry is made. It waits to be written; a summary or alert that finds the queue closed to it and 32
others held is dropped. -/
def Dev.cqMake (d : Dev) (rtype arg : Nat) (body : List Nat) (graph : Option Nat) : Dev :=
  if graph.isNone && !d.cqOpen d.host.hold.length && decide (32 ≤ heldShared d.host.hold) then d.bump GLB_CQ_STAT_DROPPED
  else { d with host := { d.host with
    hold := d.host.hold ++ [{ bytes := cqBytes rtype arg d.timeOr0 body, graph := graph }] } }

/-- R411: an alert, made only where its bit of GLB_ALERT_MASK is set. -/
def Dev.alert (d : Dev) (code unit esq port frame detail : Nat) : Dev :=
  if bitAt (d.rget GLB_ALERT_MASK).toNat code then
    d.cqMake 3 code (leBytes 4 unit ++ leBytes 2 esq ++ [port, 0] ++ leBytes 8 frame ++ leBytes 8 detail) none
  else d

/-! ## The stamp table as the ledger reads it -/

/-- The stamp-table entry of an ESQ; an ESQ never stamped has an empty entry. -/
def Dev.stamp (d : Dev) (esq : Nat) : Stamp := (pget d.rind.stamps esq).getD {}

/-- Set a stamp-table entry. -/
def Dev.setStamp (d : Dev) (esq : Nat) (x : Stamp) : Dev :=
  { d with rind := { d.rind with stamps := pput esq x d.rind.stamps } }

/-- The frame number an alert names for an ESQ: the frame stamped last under it, or 0. -/
def Dev.frameOf (d : Dev) (esq : Nat) : Nat := if (d.stamp esq).valid then (d.stamp esq).frame else 0

/-! ## The fault ledger (R438 to R443) -/

/-- R438: kinds marked Hard. -/
def kindHard (k : Nat) : Bool := k == 2 || k == 6 || k == 8 || k == 10

/-- R438: kinds whose notices enter the void set. -/
def kindVoids (k : Nat) : Bool := decide (1 ≤ k) && decide (k ≤ 11)

/-- R440: a report of this kind and suspect merges into this entry. -/
def ledgerTakes (d : Dev) (kind suspect : Nat) (e : LedgerEntry) : Bool :=
  e.kind == kind && e.suspect == suspect &&
    (decide (d.tick ≤ e.tick + 1600) ||
      (kindHard kind && d.fab.failed.contains suspect && e.segment == d.fget RCE_STATUS_SEGMENTS))

/-- R442: the ESQ index takes a voiding notice's entry where it has none. -/
def ledgerIndex (kind esq i : Nat) (l : Ledger) : Ledger :=
  if kindVoids kind && (pget l.index esq).isNone then { l with index := pput esq i l.index } else l

/-- Count a new entry to the segment in progress (R409). -/
def Dev.countLedgerNew (d : Dev) : Dev :=
  { d with rind := { d.rind with segments := d.rind.segments.map (fun s => if s.ended then s else { s with ledgerNew := satAdd 16 s.ledgerNew 1 }) } }

/-- R440: a report merges into an entry. -/
def LedgerEntry.merge (e : LedgerEntry) (esq blocks n : Nat) : LedgerEntry :=
  { e with count := satAdd 32 e.count n, lastEsq := esq, blocks := e.blocks ||| blocks }
/-- R439: the entry a report opens. -/
def Dev.newEntry (d : Dev) (kind suspect esq reporter blocks n : Nat) : LedgerEntry :=
  let st := d.stamp esq
  { kind := kind, suspect := suspect, count := n, firstEsq := esq, lastEsq := esq,
    stamp := st.time % 2 ^ 48, epoch := st.epoch, reporter := reporter, blocks := blocks,
    runCtx := d.fget RCE_RUN_CTX_RUN_CTX, segment := d.fget RCE_STATUS_SEGMENTS, tick := d.tick }
/-- R443: the same report in the ledger as this tick's reports alone make it. -/
def Dev.freshReport (d : Dev) (e : LedgerEntry) : Dev :=
  let l := d.led
  let i := (l.fresh.findIdx? (fun x => x.kind == e.kind && x.suspect == e.suspect)).getD l.fresh.length
  let x := ledgerIndex e.kind e.firstEsq i { l with index := l.freshIndex }
  { d with led := { l with
      fresh := if i < l.fresh.length then l.fresh.modify i (fun x => x.merge e.firstEsq e.blocks e.count) else l.fresh ++ [e]
      freshIndex := x.index } }

/-- R440, R441: a report reaches the ledger. -/
def Dev.report (d : Dev) (kind suspect esq reporter blocks n : Nat) : Dev :=
  let e := d.newEntry kind suspect esq reporter blocks n
  let d := d.freshReport e
  match d.led.entries.findIdx? (ledgerTakes d kind suspect) with
  | some i => { d with led := ledgerIndex kind esq i { d.led with entries := d.led.entries.modify i (fun x => x.merge esq blocks n) } }
  | none =>
    if 1024 ≤ d.led.entries.length then d.bump FAB_LEDGER_STATUS_LEDGER_LOST
    else
      let d := { d with led := ledgerIndex kind esq d.led.entries.length { d.led with entries := d.led.entries ++ [e] } }
      ((d.event FAB_LEDGER_STATUS_NEW).countLedgerNew).alert 1 suspect esq 0xFF (d.frameOf esq) kind

/-- R438: a report that the rind, the RCE, firmware, the relocation service, a march or the detector makes itself:
REPORTER equals the suspect, and no block is set (R439). -/
def Dev.selfReport (d : Dev) (kind suspect esq : Nat) : Dev := d.report kind suspect esq suspect 0 1

/-- R99: a STATE_LOST entry whose first frame is written when the next segment opens. -/
def Dev.stateLost (d : Dev) (unit : Nat) : Dev :=
  let n := d.led.entries.length
  let d := d.selfReport 0x11 unit 0
  if d.led.entries.length = n then d else
    { d with led := { d.led with
        awaiting := d.led.awaiting ++ [n],
        entries := d.led.entries.modify n (fun e => { e with firstEsq := 0, lastEsq := 0, stamp := 0, epoch := 0 }) } }

/-! ## Fault notices (R433 to R435) -/

/-- R435: a notice joins the lane, merged into a waiting one of the same kind, suspect and ESQ. -/
def laneAdd (n : Notice) : List Notice → List Notice
  | [] => [n]
  | m :: r =>
    if m.kind = n.kind ∧ m.suspect = n.suspect ∧ m.esq = n.esq then
      { m with blocks := m.blocks ||| n.blocks, count := m.count + n.count } :: r
    else m :: laneAdd n r

/-- R433: a unit sends a fault notice. -/
def Dev.notice (d : Dev) (kind suspect reporter esq : Nat) : Dev :=
  { d with fab := { d.fab with lane := laneAdd ⟨esq, kind, suspect, reporter, blockBit reporter, 1⟩ d.fab.lane } }

/-- R86: a flagged grant counts in FAB_TIE_COUNT and sends a tie report; `t2` counts it in FAB_TIE_T2 too (R459). -/
def Dev.tie (d : Dev) (esq : Nat) (t2 : Bool) : Dev :=
  let d := (d.bump FAB_TIE_COUNT_COUNT).when t2 (fun d => d.bump FAB_TIE_T2_COUNT)
  { d with fab := { d.fab with ties := d.fab.ties ++ [esq] } }

/-- R86: the tie detector sees two request edges a gap apart: below 10 ps it flags them, above 40 ps never, between
it may (a free value). -/
def Dev.tieDetect (d : Dev) (gap : Option Nat) (esq : Nat) (t2 : Bool) : Dev :=
  match gap with
  | none => d
  | some g =>
    if g < 10 then d.tie esq t2
    else if 40 < g then d
    else if d.freeBit.1 then d.freeBit.2.tie esq t2 else d.freeBit.2

end Sys2Proof.Machine
end

