-- ==== Sys2Proof/Machine/Tasks.lean ====
section
/-!
DEFINITION. The tasks of the run-control engine (R272 to R275): descriptors in memory, status and result words, when a
task is ready, and what happens when a task or a graph ends (R409, R412).
-/

namespace Sys2Proof.Machine

open Sys2Proof

/-! ## Descriptors (R272) -/

/-- R273: the graph in one of the 16 slots. -/
def Dev.graph (d : Dev) (slot : Nat) : Option Graph := if slot < 16 then pget d.rce.graphs slot else none
/-- R272: the address of a task's descriptor. -/
def Dev.descAt (d : Dev) (slot idx : Nat) : Nat := ((d.graph slot).map (fun g => g.addr + 64 * idx)).getD 0
/-- R275: the status values. -/
def tsWaiting : Nat := 0
def tsRunning : Nat := 1
def tsDone : Nat := 2
def tsFailed : Nat := 3
def tsSkipped : Nat := 4
def tsWrongState : Nat := 5
def tsAborted : Nat := 6
def tsBadArgument : Nat := 7
/-- R275: the status of a task. -/
def Dev.taskStatus (d : Dev) (slot idx : Nat) : Nat := ((d.graph slot).bind (fun g => g.status[idx]?)).getD tsSkipped
/-- R272: the opcode of a task. -/
def Dev.taskOp (d : Dev) (slot idx : Nat) : Nat := d.leMem (d.descAt slot idx) 2
/-- R272: `CONTINUE_ON_FAIL`. -/
def Dev.taskContinues (d : Dev) (slot idx : Nat) : Bool := bitAt (d.leMem (d.descAt slot idx + 2) 2) 0
/-- R272: the predecessors of a task. -/
def Dev.taskPreds (d : Dev) (slot idx : Nat) : List Nat :=
  (upTo (min 8 (d.leMem (d.descAt slot idx + 4) 2))).map (fun k => d.leMem (d.descAt slot idx + 8 + 2 * k) 2)
/-- R272: a field of a task's arguments. -/
def Dev.taskArg (d : Dev) (slot idx pos size : Nat) : Nat := d.leMem (d.descAt slot idx + 0x18 + pos) size

/-! ## Graph registers (R277, R286) -/

/-- R286: the graph register of a slot shows its tasks. -/
def Dev.showGraph (d : Dev) (slot state : Nat) : Dev :=
  match d.graph slot with
  | none => d.fset (RCE_GRAPH_STATE slot) state
  | some g => d.fsets [(RCE_GRAPH_TAG slot, g.tag), (RCE_GRAPH_STATE slot, state),
      (RCE_GRAPH_FINISHED slot, (g.status.filter (fun x => decide (2 ≤ x))).length),
      (RCE_GRAPH_FAILED slot, (g.status.filter (fun x => decide (3 ≤ x))).length)]

/-- Change a graph and show it: active, or aborting once its abort is set (R286). -/
def Dev.putGraph (d : Dev) (slot : Nat) (g : Graph) : Dev :=
  let d := { d with rce := { d.rce with graphs := pput slot g d.rce.graphs } }
  (d.showGraph slot (if g.aborting then 3 else 1)).fset RCE_STATUS_IN_FLIGHT d.rce.graphs.length

/-- R273: a graph leaves flight; its register keeps its counts and shows completed. -/
def Dev.leaveFlight (d : Dev) (slot : Nat) : Dev :=
  let d := d.showGraph slot 2
  let d := { d with rce := { d.rce with graphs := pdel slot d.rce.graphs } }
  d.fset RCE_STATUS_IN_FLIGHT d.rce.graphs.length

/-! ## The end of a graph (R409, R412) -/

/-- R409: the body and argument of a GRAPH_DONE entry. -/
def Dev.graphDoneArg (g : Graph) (slot : Nat) : Nat := g.tag + slot * 2 ^ 16 + b2n g.aborting * 2 ^ 20
/-- R409: the body of a GRAPH_DONE entry. -/
def Dev.graphDoneBody (d : Dev) (slot : Nat) (g : Graph) : List Nat :=
  let bad := (g.status.zipIdx).filter (fun e => decide (3 ≤ e.1))
  match bad.head? with
  | none => leBytes 2 g.tasks ++ leBytes 2 0 ++ leBytes 2 0xFFFF
  | some e => leBytes 2 g.tasks ++ leBytes 2 bad.length ++ leBytes 2 e.2 ++ [e.1, 0] ++ d.bytes (d.descAt slot e.2 + 0x3C) 4

/-- R273, R412: every task has a final status: the completion is made; a firmware graph (slot 15) makes none. -/
def Dev.graphEnds (d : Dev) (slot : Nat) (g : Graph) : Dev :=
  if slot = 15 then d.leaveFlight slot
  else d.cqMake 1 (Dev.graphDoneArg g slot) (d.graphDoneBody slot g) (some slot)

/-! ## Task status (R274, R275) -/

/-- R275: a task gets a status; the RCE writes it, and on a final one the result, into the descriptor. -/
def Dev.setTask (d : Dev) (slot idx status result : Nat) : Dev :=
  match d.graph slot with
  | none => d
  | some g =>
    let a := d.descAt slot idx
    let d := d.put (a + 0x38) (leBytes 4 status)
    let d := if 2 ≤ status then d.put (a + 0x3C) (leBytes 4 result) else d
    d.putGraph slot { g with status := g.status.set idx status }

/-- R274: a run task. -/
def runOp (op : Nat) : Bool := decide (1 ≤ op) && decide (op ≤ 8)
/-- The tasks of the graphs in flight, as (slot, index). -/
def Dev.allTasks (d : Dev) : List (Nat × Nat) := d.rce.graphs.flatMap (fun g => (upTo g.2.tasks).map (fun i => (g.1, i)))
/-- The tasks that run. -/
def Dev.runningTasks (d : Dev) : List (Nat × Nat) := d.allTasks.filter (fun t => d.taskStatus t.1 t.2 == tsRunning)
/-- R274, R558: a run task is in progress. -/
def Dev.runTaskRuns (d : Dev) : Bool := d.runningTasks.any (fun t => runOp (d.taskOp t.1 t.2))
/-- R558: the ATTEST commands that have waited for a run task complete once none is in progress. -/
def Dev.answerAttests (d : Dev) : Dev :=
  if d.host.mbox.attests = [] ∨ d.runTaskRuns then d
  else ({ d with host := { d.host with mbox := { d.host.mbox with attests := [] } } }).each d.host.mbox.attests Dev.attestNow

/-- A task gets its final status; it waits for nothing more, and the graph may end. -/
def Dev.endTask (d : Dev) (slot idx status result : Nat) : Dev :=
  let d := d.setTask slot idx status result
  let d := { d with rce := { d.rce with waits := d.rce.waits.filter (fun w => !(w.1 == slot && w.2.1 == idx)) } }
  match d.graph slot with
  | none => d
  | some g => if g.status.all (fun x => decide (2 ≤ x)) then d.graphEnds slot g else d
/-- A task gets its final status, and an ATTEST that waits for it completes (R558). -/
def Dev.finish (d : Dev) (slot idx status result : Nat) : Dev := (d.endTask slot idx status result).answerAttests

/-- The tasks that wait for something. -/
def Dev.waiters (d : Dev) (w : WaitFor) : List (Nat × Nat) :=
  (d.rce.waits.filter (fun e => e.2.2 == w)).map (fun e => (e.1, e.2.1))

/-- A task waits. -/
def Dev.await (d : Dev) (slot idx : Nat) (w : WaitFor) : Dev :=
  { d with rce := { d.rce with waits := d.rce.waits ++ [(slot, idx, w)] } }

/-- Every task that waits for something gets a final status. -/
def Dev.finishAll (d : Dev) (w : WaitFor) (status result : Nat) : Dev :=
  d.each (d.waiters w) (fun d e => d.finish e.1 e.2 status result)

/-- R274: every predecessor of a task has a final status. -/
def Dev.predsFinal (d : Dev) (slot idx : Nat) : Bool :=
  (d.taskPreds slot idx).all (fun k => decide (2 ≤ d.taskStatus slot k))
/-- R274: the task is ready rather than skipped. -/
def Dev.predsGood (d : Dev) (slot idx : Nat) : Bool :=
  d.taskContinues slot idx || (d.taskPreds slot idx).all (fun k => d.taskStatus slot k == tsDone)
/-- R274: the task waits and is ready. -/
def Dev.taskReady (d : Dev) (slot idx : Nat) : Bool :=
  d.taskStatus slot idx == tsWaiting && d.predsFinal slot idx && d.predsGood slot idx

/-- A task runs and has its opcode, waits for nothing, and the management die works (R453): it may begin its work. -/
def Dev.taskBegins (d : Dev) (slot idx op : Nat) : Bool :=
  !d.rce.dead && d.taskStatus slot idx == tsRunning && d.taskOp slot idx == op && !d.rce.waits.any (fun w => w.1 == slot && w.2.1 == idx)

end Sys2Proof.Machine
end

