-- ==== Sys2Proof/Machine/Runs.lean ====
section
/-!
DEFINITION. What ends a segment (R265, R267, R268, R451): break requests and their holders, the move to QUIESCING, and
hard faults of units.
-/

namespace Sys2Proof.Machine

open Sys2Proof

/-! ## Ending a segment (R265, R267, R451) -/

/-- The cause of the segment in progress (R409): the first that arose; CAPACITY_LOST and a failed drain, which arise only
after another cause, replace it. -/
def Dev.segCause (d : Dev) (cause : Nat) : Dev :=
  { d with rind := { d.rind with segments := d.rind.segments.map (fun s =>
      if s.ended || (s.cause != 0 && decide (cause < 7)) then s else { s with cause := cause }) } }

/-- R265, R269: the run moves to QUIESCING; the break, if there was one, will not be reached or reopened, and the tasks
that wait for that, scans among them (R487), end as FAILED. -/
def Dev.toQuiesce (d : Dev) (cause : Nat) : Dev :=
  if d.runState = stRunning ∨ d.runState = stBreak then
    let d := { d.fset RCE_RUN_CTX_PENDING 0 with rce := { d.rce with pendingCtx := none } }
    ((((d.setRun stQuiescing).segCause cause).finishAll .breakReached tsFailed 0).finishAll .segmentOpen tsFailed 0).finishAll
      .scan tsFailed 0
  else d

/-- R267, R411: a break is requested by something other than a task. `fw` makes firmware recovery a holder, else
firmware's result-timeout handling is one (R268). While the management die has failed no recovery can hold the break
and the run moves to QUIESCING (R453). -/
def Dev.requestBreak (d : Dev) (cause : Nat) (fw : Bool) : Dev :=
  if d.runState = stRunning ∨ d.runState = stBreak then
    let d := d.alert 2 0 0 0xFF 0 cause
    if d.rce.dead && fw then d.toQuiesce cause
    else
      let d := if d.runState = stRunning then (d.setRun stBreak).segCause cause else d
      if fw then { d with rce := { d.rce with fwHold := true } }
      else { d with rce := { d.rce with timeoutHold := true } }
  else d

/-- A unit is marked failed. -/
def Dev.markFailed (d : Dev) (u : Nat) : Dev :=
  if d.fab.failed.contains u then d else { d with fab := { d.fab with failed := d.fab.failed ++ [u] } }

/-- R449, R451: a unit in use by a figure has a hard fault: failed mode, a notice under its hard kind, a break. The ESQ
counts as reported (R118). -/
def Dev.hardFault (d : Dev) (u kind esq : Nat) : Dev :=
  let d := (d.markFailed u).notice kind u u esq
  let d := { d with fab := { d.fab with reported := pput u [esq] d.fab.reported } }
  d.requestBreak 2 true

/-- Mark every unit of a list failed without a break: no figure uses them (R451). -/
def Dev.markAll (d : Dev) (l : List Nat) : Dev := d.each l Dev.markFailed

end Sys2Proof.Machine
end

