-- ==== Sys2Proof/Machine/Fabric.lean ====
section
/-!
DEFINITION. The clockless fabric (chapter 2): sinks, sources and routes, the handshake at one stage with its parity
check, replay and zero-forwarding (R72, R436, R437), the link arbiters and their near-ties (R85, R86), forks (R78), the
egress points and FLUSHED (R71, R82), and the FAB_ commands of the chapter.
-/

namespace Sys2Proof.Machine

open Sys2Proof

/-! ## Geometry (R61 to R63, R75 to R77) -/

/-- R77: the number of sink indices of a network (0 scalar, 1 vector, 2 control). -/
def sinkCount (net : Nat) : Nat := if net = 0 then 92 else if net = 1 then 23 else 32
/-- R77: the number of source indices of a network. -/
def sourceCount (net : Nat) : Nat := if net = 0 then 92 else if net = 1 then 24 else 29
/-- R67: virtual channels per link. -/
def vcCount (net : Nat) : Nat := if net = 0 then 4 else if net = 1 then 2 else 3
/-- R446: the queue number of a sink; sources are named in the same way. -/
def qnum (b net i : Nat) : Nat := 1024 * b + 256 * net + i

/-- R61, R75: the neighbour of a block in a direction, N = 0, E = 1, S = 2, W = 3. -/
def neighbour (b dir : Nat) : Option Nat :=
  let x := b % 16
  let y := b / 16
  if dir = 0 then (if y < 15 then some (b + 16) else none)
  else if dir = 1 then (if x < 15 then some (b + 1) else none)
  else if dir = 2 then (if 0 < y then some (b - 16) else none)
  else (if 0 < x then some (b - 1) else none)

/-- R75: the opposite direction. -/
def opposite (dir : Nat) : Nat := (dir + 2) % 4

/-- R77: an index of a mesh link. -/
def isMesh (net i : Nat) : Bool := decide (i < 4 * vcCount net)

/-- R76, R77: the sink exists in its block. -/
def sinkExists (b net i : Nat) : Bool :=
  decide (b < 256) && decide (net < 3) &&
  (if isMesh net i then (neighbour b (i / vcCount net)).isSome
   else if net = 1 && i == 22 then b % 16 == 15
   else decide (i < sinkCount net) && !(net == 2 && (28 ≤ i && 32 ≤ i)))

/-- R76, R77: the source exists in its block. -/
def sourceExists (b net j : Nat) : Bool :=
  decide (b < 256) && decide (net < 3) &&
  (if isMesh net j then (neighbour b (j / vcCount net)).isSome
   else if net = 1 && (j == 20 || j == 21) then b % 16 == 0
   else if net = 1 && (j == 22 || j == 23) then b / 16 == 0
   else if net = 2 && j == 28 then b % 16 == 0
   else decide (j < sourceCount net))

/-- R63: the port that injects at a vector source of a block. -/
def injPort (b j : Nat) : Nat := if j < 22 then 2 * (b / 16) + (j - 20) else 32 + 2 * (b % 16) + (j - 22)
/-- R63: the block of a port's injection point. -/
def portBlock (p : Nat) : Nat := if p < 32 then 16 * (p / 2) else (p - 32) / 2
/-- R63: the vector source of a port's injection point. -/
def portSource (p : Nat) : Nat := if p < 32 then 20 + p % 2 else 22 + p % 2

/-! ## Which unit serves (R83, R84) -/

/-- R83: the physical tile that serves a logical tile. -/
def Dev.physTile (d : Dev) (b t : Nat) : Nat :=
  if d.flag (BLK_TILE_SPARE_ENABLE b) && d.fget (BLK_TILE_SPARE_TARGET b) == t then 16 else t
/-- R83: the logical tile a physical tile serves, if it is in use. -/
def Dev.logTile (d : Dev) (b p : Nat) : Option Nat :=
  if p = 16 then (if d.flag (BLK_TILE_SPARE_ENABLE b) then some (d.fget (BLK_TILE_SPARE_TARGET b)) else none)
  else if d.flag (BLK_TILE_SPARE_ENABLE b) && d.fget (BLK_TILE_SPARE_TARGET b) == p then none else some p
/-- R84: what serves VU v of a block: 0 its own unit, 1 and 2 the domain's spares. -/
def Dev.vuSel (d : Dev) (b v : Nat) : Nat := if v = 0 then d.fget (BLK_VU_MAP_VU0_SEL b) else d.fget (BLK_VU_MAP_VU1_SEL b)
/-- R84: the physical unit that serves VU v of a block. -/
def Dev.physVu (d : Dev) (b v : Nat) : Nat :=
  if d.vuSel b v = 1 ∨ d.vuSel b v = 2 then unitId 7 (domainOf b) (d.vuSel b v - 1) else unitId 1 b v
/-- R61: the blocks of a domain. -/
def domainBlocks (dm : Nat) : List Nat :=
  (upTo 16).map (fun k => 16 * (4 * (dm / 4) + k / 4) + 4 * (dm % 4) + k % 4)
/-- R84: the (block, VU) a physical VU serves, if any. -/
def Dev.vuPlace (d : Dev) (u : Nat) : Option (Nat × Nat) :=
  if unitClass u = 1 then
    (if d.vuSel (unitWhere u) (unitIndex u) = 0 then some (unitWhere u, unitIndex u) else none)
  else
    ((domainBlocks (unitWhere u)).flatMap (fun b => [(b, 0), (b, 1)])).find? (fun e => d.vuSel e.1 e.2 == unitIndex u + 1)
/-- R65, R161: the register window of a physical VU. -/
def vuWindow (u : Nat) : Nat := if unitClass u = 1 then vuWin (unitWhere u) (unitIndex u) else spareWin (2 * unitWhere u + unitIndex u)
/-- R66: the device address of a physical VU's weight store. -/
def vuStore (u : Nat) : Nat :=
  if unitClass u = 1 then blkMem (unitWhere u) + 0x80000 + 0x10000 * unitIndex u
  else spareStoreBase + 0x10000 * (2 * unitWhere u + unitIndex u)
/-- A physical VU of the device. -/
def isVu (u : Nat) : Bool :=
  (unitClass u == 1 && decide (unitIndex u < 2)) || (unitClass u == 7 && decide (unitWhere u < 16) && decide (unitIndex u < 2))

/-- The physical unit behind a source of a router (R77, R64). -/
def Dev.sourceUnit (d : Dev) (b net j : Nat) : Nat :=
  if net = 0 then
    if j < 80 then tileId b (d.physTile b ((j - 16) / 4)) else if j < 88 then unitId 3 b ((j - 80) / 2)
    else if j < 90 then unitId 2 b 0 else d.physVu b (j - 90)
  else if net = 1 then
    if j < 10 then d.physVu b (j - 8) else if j < 12 then unitId 2 b 0
    else if j < 20 then unitId 3 b ((j - 12) / 2) else unitId 8 b (j - 20)
  else if j < 28 then tileId b (d.physTile b (j - 12)) else unitId 8 b 4

/-! ## Routes -/

/-- The sinks of a router that a source feeds (R78). -/
def Dev.feeds (d : Dev) (b net j : Nat) : List Nat :=
  (upTo (sinkCount net)).filter (fun i => d.flag (BLK_SW_VALID b net i) && d.fget (BLK_SW_SRC b net i) == j)

/-- R75: the neighbour's sink whose queue is a mesh source, as (block, sink). -/
def meshFeed (b net j : Nat) : Option (Nat × Nat) :=
  match neighbour b (j / vcCount net) with
  | some n => some (n, opposite (j / vcCount net) * vcCount net + j % vcCount net)
  | none => none

/-- R434: the origin of the route into a sink: the unit whose source starts the chain of sinks. -/
def Dev.originFrom (d : Dev) (net : Nat) : Nat → Nat → Nat → Nat
  | 0, b, i => sinkId b net i
  | fuel + 1, b, i =>
    let j := d.fget (BLK_SW_SRC b net i)
    if isMesh net j then
      match meshFeed b net j with
      | some (n, k) => d.originFrom net fuel n k
      | none => sinkId b net i
    else d.sourceUnit b net j

/-- R434: the origin of the route into a sink. -/
def Dev.origin (d : Dev) (b net i : Nat) : Nat := d.originFrom net 4096 b i

/-! ## Queues and stages -/

/-- The tokens of a sink's queue, receive stage first. -/
def Dev.queue (d : Dev) (q : Nat) : List Token := pgetD d.fab.queues q []
/-- The tokens of a sink that lie in its block's spill area (R447). -/
def Dev.spill (d : Dev) (q : Nat) : List Token := pgetD d.fab.spilled q []
/-- The head token of a sink. -/
def Dev.headOf (d : Dev) (q : Nat) : Option Token := (d.queue q).head?
/-- Set a sink's queue. -/
def Dev.setQueue (d : Dev) (q : Nat) (l : List Token) : Dev :=
  { d with fab := { d.fab with queues := if l = [] then pdel q d.fab.queues else pput q l d.fab.queues } }
/-- Set a sink's spilled tokens; SPILL_HELD shows how many (R477). -/
def Dev.setSpill (d : Dev) (q : Nat) (l : List Token) : Dev :=
  ({ d with fab := { d.fab with spilled := if l = [] then pdel q d.fab.spilled else pput q l d.fab.spilled } }).fset
    (BLK_QSTAT_SPILL_HELD (q / 1024) (q / 256 % 4) (q % 256)) (min l.length 4096)

/-- R72, R447: the consumer takes the head token of a sink; a spilled token returns to the queue behind the others. -/
def Dev.popSink (d : Dev) (q : Nat) : Dev :=
  let d := d.setQueue q (d.queue q).tail
  match d.spill q with
  | [] => d
  | t :: r => (d.setQueue q (d.queue q ++ [t])).setSpill q r

/-- The output stage of a source. -/
def Dev.stageOf (d : Dev) (n : Nat) : Option Token := pget d.fab.stages n
/-- A unit offers a token at one of its sources: it fills the output stage (R72). -/
def Dev.putStage (d : Dev) (b net j : Nat) (t : Token) : Dev :=
  { d with fab := { d.fab with stages := pput (qnum b net j) t d.fab.stages } }
/-- R72: an output stage is empty. -/
def Dev.stageEmpty (d : Dev) (b net j : Nat) : Bool := (d.stageOf (qnum b net j)).isNone

/-- R207: the AGU behind vector source 10 or 11. -/
def aguOf (b j : Nat) : Nat := 2 * b + (j - 10)

/-- R192, R200: the used inputs of a block's MU, AGU A then B, scalar before vector: a sink, or the look-back buffer of an
AGU (`true`). -/
def Dev.muIns (d : Dev) (b : Nat) : List (Bool × Nat) :=
  (upTo 2).flatMap (fun a =>
    let m := d.fget (BLK_MU_AGU_CFG_MODE b a)
    let vec := d.flag (BLK_MU_AGU_CFG_NET b a)
    if m = 1 ∨ m = 4 then [(false, qnum b 0 (88 + a))]
    else if m = 2 ∨ m = 3 then [(false, if vec then qnum b 1 (12 + a) else qnum b 0 (88 + a))]
    else if m = 5 then [(true, 2 * b + a)]
    else if m = 6 then [(false, qnum b 0 (88 + a)), (false, qnum b 1 (12 + a))]
    else [])
/-- The head token of an MU input. -/
def Dev.muHead (d : Dev) (e : Bool × Nat) : Option Token := if e.1 then (pgetD d.fab.lookback e.2 []).head? else d.headOf e.2
/-- R200: FLUSH stands at the head of a used input of the MU. -/
def Dev.muFlushing (d : Dev) (b : Nat) : Bool :=
  (d.muIns b).any (fun e => ((d.muHead e).map (fun t => t.kind == TokKind.flush)).getD false)

/-- R192, R199, R200: the look-back token an AGU offers, unless its MU has failed or is flushing. -/
def Dev.lookbackHead (d : Dev) (b a : Nat) : Option Token :=
  if d.flag (BLK_MU_STATUS_FAILED b) || d.muFlushing b then none else (pgetD d.fab.lookback (2 * b + a) []).head?

/-- The token a source offers: a mesh source the head of the neighbour's sink, an injection point the head of its
port's ingress buffer, the mask source the head of its buffer, an AGU's read port its stage or else its look-back
delivery buffer, any other source its output stage. -/
def Dev.srcHead (d : Dev) (b net j : Nat) : Option Token :=
  if isMesh net j then
    match meshFeed b net j with
    | some (n, i) => d.headOf (qnum n net i)
    | none => none
  else if net = 1 && decide (20 ≤ j) then (pgetD d.fab.ingress (injPort b j) []).head?
  else if net = 2 && j == 28 then (pgetD d.fab.maskBuf b []).head?
  else match d.stageOf (qnum b net j) with
    | some t => some t
    | none => if net = 1 && (j == 10 || j == 11) then d.lookbackHead b (j - 10) else none

/-- A buffer map with the head of one buffer removed. -/
def popBuf (m : PMap (List Token)) (k : Nat) : PMap (List Token) := pput k (pgetD m k []).tail m

/-- The sender becomes empty (R72): the source's token leaves it. -/
def Dev.srcPop (d : Dev) (b net j : Nat) : Dev :=
  if isMesh net j then
    match meshFeed b net j with
    | some (n, i) => d.popSink (qnum n net i)
    | none => d
  else if net = 1 && decide (20 ≤ j) then { d with fab := { d.fab with ingress := popBuf d.fab.ingress (injPort b j) } }
  else if net = 2 && j == 28 then { d with fab := { d.fab with maskBuf := popBuf d.fab.maskBuf b } }
  else if (d.stageOf (qnum b net j)).isSome then { d with fab := { d.fab with stages := pdel (qnum b net j) d.fab.stages } }
  else { d with fab := { d.fab with lookback := popBuf d.fab.lookback (aguOf b j) } }

/-- R447: the slots of a block's spill area in use, a vector token counting 16 of the 4,096. -/
def Dev.areaUsed (d : Dev) (b : Nat) : Nat :=
  (d.fab.spilled.map (fun e => if e.1 / 1024 = b then (if e.1 / 256 % 4 = 1 then 16 else 1) * e.2.length else 0)).sum

/-- R79, R447: a sink has room: a free slot, or space behind its spilled tokens; an egress point always takes. -/
def Dev.sinkRoom (d : Dev) (b net i : Nat) : Bool :=
  if net = 1 && i == 22 then true
  else if d.spill (qnum b net i) = [] then decide ((d.queue (qnum b net i)).length ≤ d.fget (BLK_SW_DEPTH b net i))
  else decide (d.areaUsed b + (if net = 1 then 16 else 1) ≤ 4096)

/-- R78: the branches of a fork that have accepted the source's present token. -/
def Dev.takenBy (d : Dev) (b net j : Nat) : List Nat := pgetD d.fab.taken (qnum b net j) []

/-- R498: the block's fabric domain is ON: its logic works. -/
def Dev.powered (d : Dev) (b : Nat) : Bool := d.fget (PWR_DOMAIN_STAT_STATE (domainOf b)) == 2

/-- R498: an event of a unit happens only while its domain works. -/
def onPower (b : Nat) (f : Dev → Dev) (d : Dev) : Dev := if d.powered b then f d else d

/-- A sink's source offers it a token and it is empty to take it. -/
def Dev.wants (d : Dev) (b net i : Nat) : Bool :=
  d.powered b && d.flag (BLK_SW_VALID b net i) && (d.srcHead b net (d.fget (BLK_SW_SRC b net i))).isSome &&
    !(d.takenBy b net (d.fget (BLK_SW_SRC b net i))).contains i && d.sinkRoom b net i

/-! ## The link VC mux (R85) -/

/-- The arbiter of a link output. -/
def muxKey (b net i : Nat) : Nat := qnum b net (i / vcCount net)

/-- R85: the virtual channels of a mesh sink's link that request. -/
def Dev.requesting (d : Dev) (b net i : Nat) : List Nat :=
  (upTo (vcCount net)).filter (fun v => d.wants b net (i / vcCount net * vcCount net + v))

/-- R85, R86: the mux may grant this sink now: the mutual-exclusion element resolved it against a request at most 40 ps away,
or it is first in rotating order after the last grant among those that request. -/
def Dev.muxGrants (d : Dev) (b net i : Nat) (o : Offer) : Bool :=
  if !isMesh net i then true
  else
    let rs := d.requesting b net i
    let last := pgetD d.fab.muxLast (muxKey b net i) 0
    let order := (upTo (vcCount net)).map (fun k => (last + 1 + k) % vcCount net)
    (o.gap.map (fun g => decide (g ≤ 40))).getD false || (order.find? (fun v => rs.contains v)) == some (i % vcCount net)

/-! ## The order in which a tile's descriptors become ready (R85, R102) -/

/-- A tile at work: its block and its physical number. -/
structure Tc where
  b : Nat
  t : Nat

/-- Input port k of a logical tile: in0 to in3 and, for 4, ctl-in, as (network, sink). -/
def tileIn (l k : Nat) : Nat × Nat := if k < 4 then (0, 16 + 4 * l + k) else (2, 12 + l)
/-- The queue of input port k. -/
def tileQ (b l k : Nat) : Nat := qnum b (tileIn l k).1 (tileIn l k).2
/-- The logical tile that a sink feeds, if it feeds one. -/
def sinkTile (net i : Nat) : Option Nat :=
  if net = 0 ∧ 16 ≤ i ∧ i < 80 then some ((i - 16) / 4) else if net = 2 ∧ 12 ≤ i ∧ i < 28 then some (i - 12) else none
/-- R100: descriptor f is valid. -/
def Dev.descValid (d : Dev) (c : Tc) (f : Nat) : Bool := bitAt (d.fget (BLK_TILE_CFG_DESC_VALID c.b c.t)) f
/-- R100: the ports a descriptor names. -/
def Dev.descMask (d : Dev) (c : Tc) (f : Nat) : Nat := d.fget (BLK_TILE_FIRE_IN_MASK c.b c.t f)
/-- The heads of the ports a descriptor names, as (port, token), where all are present. -/
def Dev.descHeads (d : Dev) (c : Tc) (l f : Nat) : Option (List (Nat × Token)) :=
  ((onesOf 5 (d.descMask c f)).mapM (fun k => (d.headOf (tileQ c.b l k)).map (fun t => (k, t))))
/-- R85, R102: the descriptors that have all their heads, in the order in which they came to have them; those that came to it
together stand in ascending number. -/
def Dev.readyNow (d : Dev) (c : Tc) (l : Nat) : List Nat :=
  let now := (upTo 4).filter (fun f => d.descValid c f && (d.descHeads c l f).isSome)
  let was := pgetD d.fab.readyOrder (tileId c.b c.t) []
  was.filter (fun f => now.contains f) ++ now.filter (fun f => !was.contains f)
/-- R102: a ready-order tile's queues have changed. -/
def Dev.noteReady (d : Dev) (c : Tc) (l : Nat) : Dev :=
  d.when (d.flag (BLK_TILE_CFG_READY_ORDER c.b c.t)) (fun d =>
    { d with fab := { d.fab with readyOrder := pput (tileId c.b c.t) (d.readyNow c l) d.fab.readyOrder } })

/-! ## Acceptance (R72, R436) -/

/-- R485: the egress points that serve enabled streams. -/
def Dev.egressExpected (d : Dev) : Nat := d.fget FAB_FLUSH_STATUS_EGRESS_EXPECTED

/-- R25, R71, R82: egress point e accepts a token: DATA enters the void guard, FLUSH is noted and sets FLUSHED once
every enabled egress point has it, MARK is absorbed. -/
def Dev.egressTake (d : Dev) (e : Nat) (t : Token) : Dev :=
  match t.kind with
  | .data => { d with rind := { d.rind with guard := d.rind.guard ++ [⟨e, t.esq, t.payload, d.tick⟩] } }
  | .flush =>
    let d := d.fset FAB_FLUSH_STATUS_EGRESS_FLUSHED (d.fget FAB_FLUSH_STATUS_EGRESS_FLUSHED ||| 2 ^ e)
    d.when (d.fget FAB_FLUSH_STATUS_EGRESS_FLUSHED &&& d.egressExpected == d.egressExpected) (fun d => d.fset FAB_STATUS_FLUSHED 1)
  | _ => d

/-- Counters of R477 count unless FREEZE is set (R478). -/
def Dev.frozen (d : Dev) : Bool := d.flag FAB_OBS_CTRL_FREEZE

/-- R12: a register keeps the largest value that this tick's events gave a field. -/
def Dev.raise (d : Dev) (f : Fld) (n : Nat) : Dev :=
  let fr := withField (d.freshGet f.off) f (max (bitsOf (d.freshGet f.off).toNat f.lsb f.width) n)
  { d.fset f (max (d.fget f) n) with fresh := pput f.off fr d.fresh }
/-- R444: the detector stops acting: its probes, and those that wait, are dropped. -/
def Dev.dropProbes (d : Dev) : Dev := { d with fab := { d.fab with probes := [] } }
/-- R477: the largest occupancy a sink has held. -/
def Dev.noteOcc (d : Dev) (b net i held : Nat) : Dev := d.when (!d.frozen) (fun d => d.raise (BLK_QSTAT_OCC_MAX b net i) (min held 64))

/-- The accepted token's place: the egress point, the spill area behind tokens already there (R447), or the queue. -/
def Dev.enqueue (d : Dev) (b net i : Nat) (t : Token) : Dev :=
  if net = 1 && i == 22 then (d.noteOcc b net i 1).egressTake (b / 16) t
  else if d.spill (qnum b net i) = [] then
    let l := d.queue (qnum b net i) ++ [t]
    let d := (d.setQueue (qnum b net i) l).noteOcc b net i l.length
    match sinkTile net i with
    | none => d
    | some l => d.noteReady ⟨b, d.physTile b l⟩ l
  else d.setSpill (qnum b net i) (d.spill (qnum b net i) ++ [t])

/-- R72, R78: the source's token has been accepted by a branch; the sender becomes empty when all have. -/
def Dev.ackSource (d : Dev) (b net i : Nat) : Dev :=
  let j := d.fget (BLK_SW_SRC b net i)
  let done := i :: d.takenBy b net j
  if (d.feeds b net j).all (fun k => done.contains k) then
    { d.srcPop b net j with fab := { (d.srcPop b net j).fab with taken := pdel (qnum b net j) d.fab.taken } }
  else { d with fab := { d.fab with taken := pput (qnum b net j) done d.fab.taken } }

/-- A receiving stage accepts a token: the sender is acknowledged, the token enters the sink, the replay position is
cleared and the ESQ kept for R436. -/
def Dev.accept (d : Dev) (b net i : Nat) (t : Token) : Dev :=
  let q := qnum b net i
  let d := (d.ackSource b net i).enqueue b net i t
  { d with fab := { d.fab with
      replay := pdel q d.fab.replay
      lastEsq := pput q t.esq d.fab.lastEsq
      muxLast := if isMesh net i then pput (muxKey b net i) (i % vcCount net) d.fab.muxLast else d.fab.muxLast } }

/-- R437: the sink's zero-forwards of the last 1,600 ticks, this one among them. -/
def Dev.zeroTicks (d : Dev) (q : Nat) : List Nat :=
  (pgetD d.fab.zeroed q []).filter (fun t => decide (d.tick ≤ t + 1600)) ++ [d.tick]

/-- R436: after the first offer and three replays have failed the stage accepts a zeroed token under the latest good
header, having sent REPLAY_FAIL; the third within 2 µs is SINK_HARD (R437). -/
def Dev.zeroForward (d : Dev) (b net i : Nat) (hdr : Option (Nat × TokKind)) : Dev :=
  let q := qnum b net i
  let u := sinkId b net i
  let h := hdr.getD (pgetD d.fab.lastEsq q 0, .data)
  let ticks := d.zeroTicks q
  let d := (d.notice 1 u u h.1).bump FAB_REPLAY_ZERO_FORWARDS
  let d := { d with fab := { d.fab with zeroed := pput q ticks d.fab.zeroed } }
  let d := d.when (decide (3 ≤ ticks.length) && !d.fab.failed.contains u) (fun d => d.hardFault u 2 h.1)
  d.accept b net i ⟨h.1, h.2, 0#512⟩

/-- R436: an offer with bad parity: a replay is asked for, or the third replay has failed too. -/
def Dev.refuseOffer (d : Dev) (b net i : Nat) (t : Token) (hdrBad : Bool) : Dev :=
  let q := qnum b net i
  let r := (pget d.fab.replay q).getD {}
  let hdr := if hdrBad then r.header else some (t.esq, t.kind)
  if r.fails < 3 then
    let d := d.bump FAB_REPLAY_REPLAYS
    { d with fab := { d.fab with replay := pput q ⟨r.fails + 1, hdr⟩ d.fab.replay } }
  else d.zeroForward b net i hdr

/-- R72, R436, R85: one offer at one stage. Where the source holds no token, the sink is full, or the link's arbiter
grants another channel, no transfer happens. -/
def tokenTransfer (b net i : Nat) (o : Offer) (d : Dev) : Dev :=
  if d.wants b net i && d.muxGrants b net i o then
    match d.srcHead b net (d.fget (BLK_SW_SRC b net i)) with
    | none => d
    | some t =>
      let raced := isMesh net i && decide (2 ≤ (d.requesting b net i).length)
      let d := if raced then d.tieDetect o.gap t.esq false else d
      let hdrBad := o.hdrBad || (t.kind == .cond && net != 2)
      if hdrBad || o.payBad then d.refuseOffer b net i t hdrBad else d.accept b net i t
  else d

/-- TOKEN_TRANSFER. -/
def execTokenTransfer (b net i : Nat) (o : Offer) (s : State) : Host.Outcome State Fault Refusal :=
  s.onDev (Wf.tokenTransfer b net i o) (tokenTransfer b net i o)

/-! ## The FAB_ commands of chapter 2 -/

/-- R91: one window's rate of a domain's replica ring; 0 while the domain is off, which counts for the minimum (DESIGN CHOICE,
log entry 135). -/
def turnWindow (d : Dev) (dm rate : Nat) : Dev :=
  let st := d.fget (PWR_DOMAIN_STAT_STATE dm)
  let r := if st = 1 ∨ st = 2 then min rate 0xFFFF else 0
  (d.fset (FAB_TURN_MON_TURN_RATE dm) r).fset (FAB_TURN_MON_TURN_RATE_MIN dm) (min r (d.fget (FAB_TURN_MON_TURN_RATE_MIN dm)))

/-- TURN_MIN_CLEAR (R88): every TURN_RATE_MIN to 0xFFFF. -/
def execTurnMinClear (s : State) : Host.Outcome State Fault Refusal :=
  s.onDev Wf.turnMinClear (fun d => d.when d.ready (fun d => d.each (upTo 16) (fun d k => d.fset (FAB_TURN_MON_TURN_RATE_MIN k) 0xFFFF)))

/-- TIE_COUNT_CLEAR (R88): FAB_TIE_COUNT is cleared. -/
def execTieCountClear (s : State) : Host.Outcome State Fault Refusal :=
  s.onDev Wf.tieCountClear (fun d => d.when d.ready (fun d => d.clearFld FAB_TIE_COUNT_COUNT))

end Sys2Proof.Machine
end

