-- ==== Sys2Proof/Machine/Release.lean ====
section
/-!
DEFINITION. The rind (chapter 1): the release record (R32, R33) and where it goes (R35), deadlines, horizons and late
policies (R24 to R31), results, slack (R36), fault notices and tie reports at the rind (R25, R28, R86, R433), and the
loss of the time base (R39, R298).
-/

namespace Sys2Proof.Machine

open Sys2Proof

/-! ## The record (R32, R33) -/

/-- R32: the fields of a record; RPAR makes its parity even. -/
def mkRecord (kind epoch esq stamp accept score runCtx crc ties : Nat) : Record :=
  let n := kind % 8 + epoch % 16 * 2 ^ 3 + esq % 4096 * 2 ^ 7 + stamp % 2 ^ 48 * 2 ^ 19 + accept % 2 ^ 16 * 2 ^ 67
    + score % 2 ^ 64 * 2 ^ 83 + runCtx % 2 ^ 32 * 2 ^ 147 + crc % 2 ^ 64 * 2 ^ 179 + min ties 4095 * 2 ^ 243
  BitVec.ofNat 256 (n + popCount 255 n % 2 * 2 ^ 255)

/-- KIND codes of R32. -/
def kDecision : Nat := 0
def kLate : Nat := 1
def kVoid : Nat := 2
def kNotEvaluated : Nat := 3
def kEpochMark : Nat := 4

/-- R25: ACCEPT of a result's payload. -/
def acceptOf (p : Payload) : Nat := bitsOf p.toNat 0 16
/-- R25: SCORE of a result's payload. -/
def scoreOf (p : Payload) : Nat := bitsOf p.toNat 16 64

/-- R33: the frame's record of a kind, with the result's ACCEPT and SCORE where the kind carries them. -/
def frameRecord (st : Stamp) (esq kind accept score : Nat) : Record :=
  mkRecord kind st.epoch esq st.time accept score st.runCtx st.crc (if kind = kNotEvaluated then 0 else st.ties)

/-! ## Times of a frame on a stream (R24, R29) -/

/-- R24: the deadline. -/
def Dev.deadlineTick (d : Dev) (s : Nat) (st : Stamp) : Nat := st.tick + d.fget (RIND_STREAM_LAT_L_TICKS s)
/-- R29: the horizon. -/
def Dev.horizonTick (d : Dev) (s : Nat) (st : Stamp) : Nat := d.deadlineTick s st + d.fget (RIND_STREAM_LAT_EFFECTIVE_HORIZON s)
/-- R28: the late policy; the reserved value acts as MARK_AT_DEADLINE. -/
def Dev.policy (d : Dev) (s : Nat) : Nat := min (d.fget (RIND_STREAM_CFG_POLICY s)) 2
/-- The frame's record has been released on a stream. -/
def Stamp.done (st : Stamp) (s : Nat) : Bool := bitAt st.released s

/-- R30: the entry has retired: its frame's record is out on every enabled stream and every horizon has passed. -/
def Dev.isRetired (d : Dev) (st : Stamp) : Bool :=
  st.retired || (st.valid && d.enabledStreams.all (fun s => st.done s && decide (d.horizonTick s st ≤ d.tick)))

/-- R30: RETIRED is shown from the tick the entry retires in. -/
def Dev.retire (d : Dev) (esq : Nat) : Dev :=
  if d.isRetired (d.stamp esq) then d.setStamp esq { d.stamp esq with retired := true } else d

/-! ## Where a record goes (R35) -/

/-- The port states of R361. -/
def psOff : Nat := 0
def psDetect : Nat := 1
def psNegotiate : Nat := 2
def psEqualise : Nat := 3
def psAlign : Nat := 4
def psActive : Nat := 5
def psIdle : Nat := 6
def psQuarantine : Nat := 7
def psDown : Nat := 8
def psTest : Nat := 9
/-- The port roles of R342. -/
def roleOff : Nat := 0
def roleInput : Nat := 1
def rolePeer : Nat := 2
def roleReadout : Nat := 3

/-- The role of a port. -/
def Dev.role (d : Dev) (p : Nat) : Nat := d.fget (PL_CFG_ROLE p)
/-- The training state of a port. -/
def Dev.pstate (d : Dev) (p : Nat) : Nat := d.fget (PL_STATUS_STATE p)

/-- A port. -/
def Dev.port (d : Dev) (p : Nat) : Port := (pget d.ports p).getD {}
/-- Set a port. -/
def Dev.setPort (d : Dev) (p : Nat) (x : Port) : Dev := { d with ports := pput p x d.ports }

/-- R34: a record's place among those of its tick on a stream: EPOCH_MARK, the record whose deadline it is, then the others,
the oldest frame first. -/
def Dev.recordRank (d : Dev) (s : Nat) (r : Record) : Nat :=
  let n := r.toNat
  let st := d.stamp (n / 2 ^ 7 % 4096)
  if n % 8 = kEpochMark then 0 else if d.deadlineTick s st = d.tick then 1 else 2 + st.frame

/-- R34: a record already out on the stream in this tick has its place behind another. -/
def Dev.outLater (d : Dev) (s : Nat) (r r' : Record) : Bool := d.out.contains (.record s d.tick r') && decide (d.recordRank s r < d.recordRank s r')

/-- R27, R34: a record leaves on a stream in this tick, in its place. -/
def Dev.putRecord (d : Dev) (s : Nat) (r : Record) : Dev :=
  let later : Emit → Bool := fun e => match e with
    | .record s' t r' => s' == s && t == d.tick && decide (d.recordRank s r < d.recordRank s r')
    | _ => false
  { d with out := putBefore later (.record s d.tick r) d.out }

/-- R34, R355: a record joins a port's queue of 256, in its place among its tick's, or is lost and counted. -/
def Dev.recordToPort (d : Dev) (s : Nat) (r : Record) (p : Nat) : Dev :=
  if d.pstate p = psActive ∧ (d.port p).recs.length < 256 then
    d.setPort p { d.port p with recs := putBefore (fun e => e.1 == s && d.outLater s r e.2) (s, r) (d.port p).recs }
  else d.bump (PL_TX_CNT_RECORDS_LOST p)

/-- R357: the port sends this stream's records as RESULT frames. -/
def Dev.resultPort (d : Dev) (s p : Nat) : Bool :=
  d.role p == rolePeer && d.flag (PL_CFG_RESULT_EN p) && d.fget (PL_CFG_RESULT_STREAM p) == s

/-- R357: the 96 payload bytes of a RESULT frame. -/
def resultBytes (p : Payload) (r : Record) : List Nat := leBytes 64 p.toNat ++ leBytes 32 r.toNat

/-- R343, R357: a RESULT frame waits at a port; one released while the port is not ACTIVE, or runs Peust 1, which carries none, is lost
as a record is (DEDUCED, log entry 150). -/
def Dev.resultToPort (d : Dev) (s frame : Nat) (pl : Payload) (r : Record) (p : Nat) : Dev :=
  if d.pstate p = psActive ∧ d.fget (PL_STATUS_VERSION p) ≠ 1 then
    let later := fun (e : Nat × List Nat) => d.outLater s r (BitVec.ofNat 256 (leAt e.2 64 32))
    d.setPort p { d.port p with results := putBefore later (frame % 65536, resultBytes pl r) (d.port p).results }
  else d.bump (PL_TX_CNT_RECORDS_LOST p)

/-- R35, R57, R357: the ports a record of a stream goes to. -/
def Dev.toPorts (d : Dev) (s frame : Nat) (mark : Bool) (pl : Payload) (r : Record) : Dev :=
  d.each (upTo 64) (fun d p =>
    if d.resultPort s p then (if mark then d.recordToPort s r p else d.resultToPort s frame pl r p)
    else if bitAt (d.rget (RIND_STREAM_DEST s)).toNat p && (d.role p == rolePeer || d.role p == roleReadout) then d.recordToPort s r p
    else d)

/-- An edge a TRGOUT line has still to make. -/
def Dev.addEdge (d : Dev) (e : TrgEdge) : Dev := { d with tu := { d.tu with edges := d.tu.edges ++ [e] } }

/-- R35, R311: a DECISION pulses the lines mapped to its stream and ACCEPT lines: 4 ticks plus the fine delay after the
release, for WIDTH_TICKS. -/
def Dev.pulseLines (d : Dev) (s accept : Nat) : Dev :=
  d.each (upTo 32) (fun d t =>
    let w := d.fget (RIND_TRGOUT_MAP_WIDTH_TICKS t)
    if d.flag (RIND_TRGOUT_MAP_ENABLE t) && d.fget (RIND_TRGOUT_MAP_STREAM t) == s && w != 0
        && bitAt accept (d.fget (RIND_TRGOUT_MAP_ACCEPT_LINE t)) then
      let at0 := (d.tick + 4) * 1250 + d.fget (TU_TRGOUT_CFG_FINE_10PS t) * 10
      (d.addEdge ⟨t, at0, 0, true⟩).addEdge ⟨t, at0 + w * 1250, 0, false⟩
    else d)

/-- R310: a schedule report: into the event queue of 64, or counted as lost; and into the run log. -/
def Dev.schedReport (d : Dev) (code idx value : Nat) : Dev :=
  let v := code + idx * 2 ^ 8 + d.epoch * 2 ^ 16 + min value (2 ^ 32 - 1) * 2 ^ 32
  let d := if d.tu.events.length < 64 then { d with tu := { d.tu with events := d.tu.events ++ [v] } }
    else d.bump TU_SCHED_STAT_EVENTS_LOST
  d.log 2 (leBytes 8 v)

/-- R212: the longest window in frames either side of the captured frame. -/
def Dev.curdClamp (d : Dev) : Nat :=
  if d.fget RIND_FRAME_PERIOD_PERIOD_TICKS = 0 then 2 ^ 14 - 1 else 51200 / d.fget RIND_FRAME_PERIOD_PERIOD_TICKS

/-- R211, R212, R215: the capture a record starts under a rule, as the rule stands now. -/
def Dev.capUnder (d : Dev) (r kind esq accept : Nat) (st : Stamp) : CurdCap :=
  let pre := min (d.fget (VAT_CURD_RULE_PRE_FRAMES r)) d.curdClamp
  let post := min (d.fget (VAT_CURD_RULE_POST_FRAMES r)) d.curdClamp
  { frame := st.frame, esq := esq, kind := kind, rule := r, accept := accept, epoch := st.epoch, time := st.time,
    runCtx := st.runCtx, tick := d.tick, first := st.frame - pre, last := st.frame + post,
    ports := (upTo 64).filter (fun p => bitAt (d.rget (VAT_CURD_PORTS r)).toNat p && d.role p == roleInput),
    dests := (upTo 64).filter (fun p => bitAt (d.rget (VAT_CURD_DEST r)).toNat p && d.role p == roleReadout),
    toStore := d.flag (VAT_CURD_RULE_TO_STORE r), started := false, store := false, cur := 0, lost := [], data := [],
    part := [], partBad := false, ended := false, trunc := false }

/-- R211: rule r matches a record. -/
def Dev.ruleMatches (d : Dev) (r s accept : Nat) : Bool :=
  d.flag (VAT_CURD_RULE_ENABLE r) && d.fget (VAT_CURD_RULE_STREAM r) == s && d.fget (VAT_CURD_RULE_LINE_MASK r) &&& accept != 0

/-- R211: a record passes to the curd engine: the first rule that matches starts a capture. -/
def Dev.toCurd (d : Dev) (s kind esq accept : Nat) (st : Stamp) : Dev :=
  if !d.flag VAT_CURD_CTRL_ENABLE then d
  else match (upTo 16).find? (fun r => d.ruleMatches r s accept) with
    | none => d
    | some r => { d with curd := { d.curd with coming := d.curd.coming ++ [d.capUnder r kind esq accept st] } }

/-- R35, R306: DECISION records, and LATE ones where LATE_CAPTURE is set, pass to the curd engine; a schedule's capture
of this frame starts when its rule's stream releases DECISION or LATE, and has no effect on another kind. -/
def Dev.captures (d : Dev) (s esq kind accept : Nat) (st : Stamp) : Dev :=
  let d := if d.flag (RIND_STREAM_CFG_TO_CURD s) && (kind == kDecision || (kind == kLate && d.flag (RIND_STREAM_CFG_LATE_CAPTURE s)))
    then d.toCurd s kind esq accept st else d
  d.each st.capture (fun d x =>
    let r := x % 16
    if d.fget (VAT_CURD_RULE_STREAM r) != s then d
    else if (kind == kDecision || kind == kLate) && d.flag VAT_CURD_CTRL_ENABLE then
      { d with curd := { d.curd with coming := d.curd.coming ++ [d.capUnder r kind esq accept st] } }
    else d.schedReport 6 (x / 16) 0)

/-! ## Segments' accounts (R409, R410) -/

/-- R410: a frame's record is counted in the segment its frame belongs to. -/
def Dev.countRecord (d : Dev) (frame kind : Nat) : Dev :=
  let n := (d.rind.segments.filter (fun g => decide (g.first ≤ frame))).length
  { d with rind := { d.rind with segments := d.rind.segments.modify (n - 1) (fun g =>
      { g with kinds := g.kinds.modify kind (fun v => min (v + 1) (2 ^ 32)), total := g.total + 1 }) } }

/-- R409: the 48 bytes a RUN_SUMMARY carries after its head. -/
def summaryBody (d : Dev) (g : Segment) : List Nat :=
  let ks := [g.kinds.getD 0 0, g.kinds.getD 1 0, g.kinds.getD 2 0, g.kinds.getD 3 0]
  leBytes 4 g.runCtx ++ leBytes 4 (match d.rind.slackSince with
      | none => 0x7FFFFFFF
      | some v => wrapTo 32 v)
    ++ leBytes 8 g.first ++ leBytes 8 g.frames ++ ks.flatMap (fun k => leBytes 4 (min k (2 ^ 32 - 1)))
    ++ leBytes 2 g.ledgerNew ++ [g.cause, d.enabledStreams.length, d.runState, b2n (ks.any (fun k => decide (2 ^ 32 ≤ k))), 0, 0]

/-- R410, R484: the summary of a segment: a queue entry, and a run-log entry that shows the PHASE and CSEQ the queue entry has once
those ahead of it are written, or zeros where it is dropped (DEDUCED, log entry 149). -/
def Dev.summarise (d : Dev) (g : Segment) : Dev :=
  let body := summaryBody d g
  let ahead := d.host.hold.length
  let bytes := cqBytes 2 g.num d.timeOr0 body
  let made := d.cqMake 2 g.num body none
  let d := made.log 5 (if ahead < made.host.hold.length then d.cqStamped ahead bytes else bytes)
  { d with rind := { d.rind with slackSince := none, segments := d.rind.segments.filter (fun h => h.num != g.num) } }

/-- R410: every ended segment whose frames have all released their records is summarised. -/
def Dev.settle (d : Dev) : Dev :=
  let n := d.enabledStreams.length
  d.each (d.rind.segments.filter (fun g => g.ended && decide (g.frames * n ≤ g.total))) Dev.summarise

/-! ## Release -/

/-- R27, R34, R35: the record of a frame leaves on a stream in this tick. -/
def Dev.release (d : Dev) (s esq kind : Nat) (pl : Payload) (accept score : Nat) : Dev :=
  let st := d.stamp esq
  let r := frameRecord st esq kind accept score
  let d := (d.putRecord s r).bump (RIND_KIND_COUNT_COUNT s kind)
  let d := d.setStamp esq { st with released := st.released ||| 2 ^ s }
  let d := (d.toPorts s st.frame false (if kind = kDecision then pl else 0#512) r).captures s esq kind accept st
  let d := d.when (kind == kDecision) (fun d => d.pulseLines s accept)
  ((d.countRecord st.frame kind).retire esq).settle

/-- A record of a kind that carries neither ACCEPT nor SCORE. -/
def Dev.releaseBare (d : Dev) (s esq kind : Nat) : Dev := d.release s esq kind 0#512 0 0

/-- R31: the EPOCH_MARK of the first frame of a new epoch leaves on a stream. -/
def Dev.releaseMark (d : Dev) (s esq : Nat) : Dev :=
  let st := d.stamp esq
  match st.mark with
  | none => d
  | some (old, new) =>
    if bitAt st.marked s then d
    else
      let r := mkRecord kEpochMark st.epoch esq st.time 0 (new % 2 ^ 16 + old % 2 ^ 16 * 2 ^ 16) st.runCtx 0 0
      let d := (d.putRecord s r).bump (RIND_KIND_COUNT_COUNT s kEpochMark)
      (d.setStamp esq { st with marked := st.marked ||| 2 ^ s }).toPorts s st.frame true 0#512 r

/-- A stream releases records: declared, and the rind has not stopped (R39). -/
def Dev.streamOn (d : Dev) (s : Nat) : Bool := d.flag (RIND_STREAM_CFG_ENABLED s) && !d.rind.stopped

/-- R27, R28: the deadline of a frame on a stream: its EPOCH_MARK, then NOT_EVALUATED, VOID or DECISION, or LATE under
MARK_AT_DEADLINE; else the frame waits for a late result, a notice or its horizon. -/
def deadlineAt (s esq : Nat) (d : Dev) : Dev :=
  let st := d.stamp esq
  if !d.streamOn s || !st.valid || st.done s || bitAt st.passed s then d
  else
    let d := (d.advTo (d.deadlineTick s st)).releaseMark s esq
    let d := d.setStamp esq { d.stamp esq with passed := st.passed ||| 2 ^ s }
    if !st.injected then d.releaseBare s esq kNotEvaluated
    else if st.voided || bitAt st.dups s then d.releaseBare s esq kVoid
    else match pget st.results s with
      | some p => d.release s esq kDecision p (acceptOf p) (scoreOf p)
      | none => if d.policy s = 2 then d.releaseBare s esq kLate else d

/-- DEADLINE. -/
def execDeadline (st esq : Nat) (s : State) : Host.Outcome State Fault Refusal := s.onDev (Wf.deadline st esq) (deadlineAt st esq)

/-! ## Horizon (R29) -/

/-- The egress point of a stream. -/
def Dev.streamEgress (d : Dev) (s : Nat) : Nat := d.fget (RIND_STREAM_CFG_EGRESS_POINT s)

/-- R29: an injected frame that is not void reaches its horizon without a result: VOID, a RESULT_TIMEOUT in the ledger,
its count and alert, and a request for a break. -/
def horizonAt (s esq : Nat) (d : Dev) : Dev :=
  let st := d.stamp esq
  if !d.streamOn s || !st.valid then d
  else
    let d := d.advTo (d.horizonTick s st)
    if st.injected && !st.voided && !bitAt st.seen s && bitAt st.passed s then
      let d := d.setStamp esq { st with seen := st.seen ||| 2 ^ s }
      let d := if st.done s then d else d.releaseBare s esq kVoid
      let d := ((d.selfReport 0x0E (egressId (d.streamEgress s)) esq).bump RIND_RESULT_ERR_COUNT_TIMEOUT).event RIND_STATUS_TIMEOUT_SEEN
      ((d.alert 5 0 esq 0xFF st.frame s).requestBreak 3 false).retire esq
    else d.retire esq

/-- HORIZON. -/
def execHorizon (st esq : Nat) (s : State) : Host.Outcome State Fault Refusal := s.onDev (Wf.horizon st esq) (horizonAt st esq)

/-! ## Results (R25, R30, R36) -/

/-- R36: the histogram bin of a slack. -/
def slackBin (shift : Nat) (slack : Int) : Nat := if slack < 0 then 0 else min (slack.toNat / 2 ^ min shift 10 + 1) 15

/-- R36, R409, R505: every result that arrives updates its stream's slack, the run summary's, and the interval's of every
fabric domain its stream passes through. -/
def Dev.slackUpdate (d : Dev) (s : Nat) (slack : Int) : Dev :=
  let v := clampI (-(2 ^ 31)) (2 ^ 31 - 1) slack
  let d := d.when (decide (v < d.fint (RIND_SLACK_MIN_SLACK_MIN s))) (fun d => d.fsetInt (RIND_SLACK_MIN_SLACK_MIN s) v)
  let d := d.when (decide (d.fint (RIND_SLACK_MIN_SLACK_MAX s) < v)) (fun d => d.fsetInt (RIND_SLACK_MIN_SLACK_MAX s) v)
  let d := d.bump (RIND_SLACK_HIST_COUNT s (slackBin (d.fget (RIND_STREAM_CFG_HIST_SHIFT s)) slack))
  let d := { d with rind := { d.rind with slackSince := some (match d.rind.slackSince with
      | none => v
      | some w => if v < w then v else w) } }
  d.each ((upTo 16).filter (fun k => bitAt (d.fget (PWR_DOMAIN_STAT_AVC_STREAMS k)) s)) (fun d k =>
    { d with pwr := { d.pwr with winSlack := pput k (match pget d.pwr.winSlack k with
      | none => v
      | some w => if v < w then v else w) d.pwr.winSlack } })

/-- R30: a result that no record waits for. -/
def Dev.orphan (d : Dev) : Dev := d.bump RIND_RESULT_ERR_COUNT_ORPHAN

/-- R30: a second result before the frame's record: VOID at the deadline, or at once if it has passed. -/
def Dev.duplicate (d : Dev) (s esq : Nat) : Dev :=
  let st := d.stamp esq
  let d := (d.selfReport 0x0F (egressId (d.streamEgress s)) esq).bump RIND_RESULT_ERR_COUNT_DUPLICATE
  let d := d.setStamp esq { st with dups := st.dups ||| 2 ^ s }
  if bitAt st.passed s then d.releaseBare s esq kVoid else d

/-- R27 to R30: a result reaches the rind on its stream. One whose record is out is an orphan, and its frame has had its
result when the horizon comes. -/
def Dev.takeResult (d : Dev) (s : Nat) (g : Guarded) : Dev :=
  let st := d.stamp g.esq
  if !st.valid then d.orphan
  else
    let slack : Int := (d.deadlineTick s st : Int) - (d.tick : Int)
    let d := d.slackUpdate s slack
    if !st.injected || d.isRetired st then d.orphan
    else if st.done s then (d.setStamp g.esq { st with seen := st.seen ||| 2 ^ s }).orphan
    else if (pget st.results s).isSome then d.duplicate s g.esq
    else
      let d := d.setStamp g.esq { st with results := pput s g.payload st.results, seen := st.seen ||| 2 ^ s }
      if !bitAt st.passed s then
        if slack < 0 then d.release s g.esq kLate 0#512 (if d.policy s = 0 then acceptOf g.payload else 0) (if d.policy s = 0 then scoreOf g.payload else 0)
        else d
      else if 0 ≤ slack then d.release s g.esq kDecision g.payload (acceptOf g.payload) (scoreOf g.payload)
      else if d.policy s = 0 then d.release s g.esq kLate 0#512 (acceptOf g.payload) (scoreOf g.payload)
      else d.releaseBare s g.esq kLate

/-- R25, R26: the oldest result of an egress point leaves the void guard, 16 ticks after it was accepted, and after every
fault notice of its ESQ: while one waits on the lane the result has not left. -/
def resultArrival (e : Nat) (d : Dev) : Dev :=
  match d.rind.guard.find? (fun g => g.egress == e) with
  | none => d
  | some g =>
    if d.fab.lane.any (fun n => n.esq == g.esq) then d
    else
    let d := (d.advTo (g.tick + 16))
    let d := { d with rind := { d.rind with guard := d.rind.guard.eraseP (fun h => h.egress == e) } }
    match d.enabledStreams.find? (fun s => d.streamEgress s == e) with
    | none => d
    | some s => if d.rind.stopped then d else d.takeResult s g

/-- RESULT_ARRIVAL. -/
def execResultArrival (e : Nat) (s : State) : Host.Outcome State Fault Refusal := s.onDev (Wf.resultArrival e) (resultArrival e)

/-! ## Notices and tie reports at the root (R25, R28, R86, R433) -/

/-- R25, R27, R28: an ESQ joins the void set; a frame past its deadline without a record is released VOID; a notice for
a frame already released on a stream counts once as late. -/
def Dev.voidEsq (d : Dev) (esq : Nat) : Dev :=
  let st := d.stamp esq
  let d := d.setStamp esq { st with voided := true }
  let d := if st.valid && st.released != 0 then (d.bump RIND_RESULT_ERR_COUNT_LATE_NOTICE).event RIND_STATUS_LATE_NOTICE_SEEN else d
  d.each (d.enabledStreams.filter (fun s => st.valid && st.injected && !st.done s && bitAt st.passed s && !d.rind.stopped))
    (fun d s => d.releaseBare s esq kVoid)

/-- R433: the k-th waiting notice reaches the root: its ESQ enters the void set, its contents the ledger. -/
def faultNotice (k : Nat) (d : Dev) : Dev :=
  match d.fab.lane[k]? with
  | none => d
  | some n =>
    let d := { d with fab := { d.fab with lane := d.fab.lane.eraseIdx k } }
    (d.report n.kind n.suspect n.esq n.reporter n.blocks n.count).voidEsq n.esq

/-- FAULT_NOTICE. -/
def execFaultNotice (k : Nat) (s : State) : Host.Outcome State Fault Refusal := s.onDev (Wf.faultNotice k) (faultNotice k)

/-- R33, R68, R86: the k-th tie report charges its frame on every stream that has not released it. It yields to fault
notices: while one waits on the lane no tie report reaches the root. -/
def tieReport (k : Nat) (d : Dev) : Dev :=
  match d.fab.ties[k]? with
  | none => d
  | some esq =>
    if d.fab.lane != [] then d
    else
    let d := { d with fab := { d.fab with ties := d.fab.ties.eraseIdx k } }
    d.setStamp esq { d.stamp esq with ties := min ((d.stamp esq).ties + 1) 4095 }

/-- TIE_REPORT. -/
def execTieReport (k : Nat) (s : State) : Host.Outcome State Fault Refusal := s.onDev (Wf.tieReport k) (tieReport k)

/-! ## Loss of the time base (R39, R298) -/

/-- What drives a line now: a record pulse, a schedule pulse or the level. -/
def Dev.lineHigh (d : Dev) (t : Nat) : Bool :=
  pgetD d.tu.recHigh t 0 != 0 || pgetD d.tu.schedHigh t 0 != 0 || d.tu.levels.contains t

/-- R311: a line's level at the driver. -/
def Dev.lineOut (d : Dev) (t : Nat) : Bool := d.flag (TU_TRGOUT_CFG_INVERT t) != d.lineHigh t

/-- R298: every TRGOUT line's schedule output returns to 0. -/
def Dev.schedOutputsLow (d : Dev) : Dev :=
  let was := (upTo 32).filter (fun t => d.lineHigh t)
  let d := d.each (upTo 32) (fun d t => d.fset (TU_TRGOUT_CFG_LEVEL t) 0)
  let d := { d with tu := { d.tu with edges := d.tu.edges.filter (fun e => e.kind == 0), schedHigh := [], levels := [] } }
  d.each (was.filter (fun t => !d.lineHigh t)) (fun d t => d.emit (.trgout t (d.tick * 1250) (d.lineOut t)))

/-- R217: the frame sequencer has stopped: a capture whose last frame was not stamped ends with the last stamped one. -/
def Dev.truncCaptures (d : Dev) : Dev :=
  let n := d.fget RIND_FRAME_NUMBER_FRAME_NUMBER
  let late : CurdCap → Bool := fun c => decide (n < c.last)
  let cut : CurdCap → CurdCap := fun c => if late c then { c with last := n, trunc := true } else c
  let k := ((d.curd.coming ++ d.curd.queue).filter late).length
  let d := { d with curd := { d.curd with coming := d.curd.coming.map cut, queue := d.curd.queue.map cut } }
  d.when (k != 0) (fun d => d.bumpBy VAT_CURD_STAT_TRUNCATED k)

/-- R39, R298: loss of REFCLK or failure of the time unit. -/
def timeBaseLoss (d : Dev) : Dev :=
  let d := d.when (d.flag RIND_STATUS_SEQ_RUNNING) Dev.truncCaptures
  let d := d.fsets [(RIND_STATUS_HOLDOVER, 1), (RIND_STATUS_SEQ_RUNNING, 0), (TU_STATUS_TIME_VALID, 0), (TU_STATUS_BASE_LOST, 1)]
  let d := { d with rind := { d.rind with lost := true }, tu := { d.tu with ppsFall := none, openings := [] } }
  let d := d.fsets [(TU_STATUS_STEP_PENDING, 0), (TU_STEP_AT_STEP_AT, 0), (TU_STEP_INFO_NEW_EPOCH, 0)]
  ((d.emit (.ppsOut (d.tick * 1250) false)).schedOutputsLow.signal 3).alert 6 0 0 0xFF 0 0

/-- TIME_BASE_LOSS. -/
def execTimeBaseLoss (s : State) : Host.Outcome State Fault Refusal := s.onDev Wf.timeBaseLoss timeBaseLoss

/-- R39: the deadline of the last stamped frame: with streams of several latencies the latest (DESIGN CHOICE, log entry 134). -/
def Dev.lastDeadline (d : Dev) : Nat :=
  (d.rind.stamps.map (fun e => if e.2.valid then (d.enabledStreams.map (fun s => d.deadlineTick s e.2)).foldl max 0 else 0)).foldl max 0

/-- Stamp-table entries in the order of their frames. -/
def byAge (l : List (Nat × Stamp)) : List (Nat × Stamp) :=
  l.foldl (fun r e => putBefore (fun x => decide (e.2.frame < x.2.frame)) e r) []

/-- R34, R39: at the deadline of the last stamped frame every frame without a record is released VOID and ledgered as
TIME_LOSS, and the rind stops. -/
def holdoverEnd (d : Dev) : Dev :=
  if !d.rind.lost || d.rind.stopped then d
  else
    let d := d.advTo d.lastDeadline
    let due := byAge (d.rind.stamps.filter (fun e => e.2.valid))
    let d := d.each due (fun d e => d.each (d.enabledStreams.filter (fun s => !e.2.done s)) (fun d s =>
      (d.releaseBare s e.1 kVoid).selfReport 0x10 rootId e.1))
    { d with rind := { d.rind with stopped := true } }

/-- HOLDOVER_END. -/
def execHoldoverEnd (s : State) : Host.Outcome State Fault Refusal := s.onDev Wf.holdoverEnd holdoverEnd

/-! ## The RIND_ register commands (R40, R47, R55) -/

/-- RIND_COUNT_CLEAR (R40). -/
def execRindCountClear (s : State) : Host.Outcome State Fault Refusal :=
  s.onDev Wf.rindCountClear (fun d => d.when d.ready (fun d =>
    let d := d.clearFlds [RIND_DROP_COUNT_CLOSED_FRAMES, RIND_DROP_COUNT_DEAD_TIME, RIND_RESULT_ERR_COUNT_TIMEOUT,
      RIND_RESULT_ERR_COUNT_LATE_NOTICE, RIND_RESULT_ERR_COUNT_DUPLICATE, RIND_RESULT_ERR_COUNT_ORPHAN]
    let d := d.each (upTo 64) (fun d p => d.clearFlds [RIND_PORT_STAT_EXCESS_COUNT p, RIND_PORT_STAT_ABSENT_COUNT p])
    d.each (upTo 8) (fun d s => d.each (upTo 5) (fun d k => d.clearFld (RIND_KIND_COUNT_COUNT s k)))))

/-- SLACK_CLEAR (R40, R53): slack minima and MARGIN_MIN to their reset values, histograms cleared. -/
def execSlackClear (s : State) : Host.Outcome State Fault Refusal :=
  s.onDev Wf.slackClear (fun d => d.when d.ready (fun d =>
    let d := d.each (upTo 8) (fun d s => (d.rset (RIND_SLACK_MIN s) (regReset (RIND_SLACK_MIN s))).each (upTo 16)
      (fun d b => d.clearFld (RIND_SLACK_HIST_COUNT s b)))
    d.each (upTo 64) (fun d p => d.fset (RIND_PORT_STAT_MARGIN_MIN p) 0xFFFF)))

/-- CLOSE_INPUTS (R22, R40): inputs close or reopen from the next boundary. -/
def execCloseInputs (v : Bool) (s : State) : Host.Outcome State Fault Refusal :=
  s.onDev (Wf.closeInputs v) (fun d => d.when d.ready (fun d => d.fset RIND_CTRL_CLOSE_INPUTS (b2n v)))

/-- R49: RIND_STAMP_INFO of an entry. -/
def stampInfo (d : Dev) (st : Stamp) : Nat :=
  st.epoch % 2 ^ 16 + b2n st.valid * 2 ^ 16 + b2n st.injected * 2 ^ 17 + b2n st.voided * 2 ^ 18 + b2n (d.isRetired st) * 2 ^ 19
    + st.released % 2 ^ 8 * 2 ^ 24 + st.tick % 2 ^ 32 * 2 ^ 32

/-- STAMP_SEL_WRITE (R47): a consistent snapshot of the entry into the RIND_STAMP registers. -/
def execStampSelWrite (esq : Nat) (s : State) : Host.Outcome State Fault Refusal :=
  s.onDev (Wf.stampSelWrite esq) (fun d => d.when d.ready (fun d =>
    let st := d.stamp esq
    d.fsets [(RIND_STAMP_SEL_ESQ, esq), (RIND_STAMP_TIME_TIME, st.time), (⟨RIND_STAMP_INFO, 0, 64⟩, stampInfo d st),
      (RIND_STAMP_PRESENT_PRESENT, st.present), (RIND_STAMP_CRC_CRC, st.crc)]))

/-- R29: the effective horizon of a stream. -/
def Dev.effHorizon (d : Dev) (s : Nat) : Nat :=
  max 16 (min (d.fget (RIND_STREAM_CFG_HORIZON_TICKS s))
    (4096 * d.fget RIND_FRAME_PERIOD_PERIOD_TICKS - d.fget (RIND_STREAM_LAT_L_TICKS s) - 64))

/-- The effective horizon is computed and shown. -/
def Dev.setHorizon (d : Dev) (s : Nat) : Dev := d.fset (RIND_STREAM_LAT_EFFECTIVE_HORIZON s) (d.effHorizon s)

/-- R358: a port sends this stream's records as RESULT frames: writes that would change its POLICY are ignored. -/
def Dev.policyHeld (d : Dev) (s : Nat) : Bool :=
  (upTo 64).any (fun p => d.flag (PL_CFG_RESULT_EN p) && d.fget (PL_CFG_RESULT_STREAM p) == s)

/-- STREAM_CFG_WRITE (R29, R55): in IDLE, LOADED or ARMED the RW fields are set; in ARMED the effective horizon is
computed anew. Elsewhere the write is ignored. -/
def execStreamCfgWrite (st v : Nat) (s : State) : Host.Outcome State Fault Refusal :=
  s.onDev (Wf.streamCfgWrite st v) (fun d =>
    if d.ready && decide (d.runState ≤ stArmed) then
      let d := d.fsets [(RIND_STREAM_CFG_HORIZON_TICKS st, bitsOf v 16 16), (RIND_STREAM_CFG_HIST_SHIFT st, bitsOf v 12 4),
        (RIND_STREAM_CFG_TO_CURD st, bitsOf v 4 1), (RIND_STREAM_CFG_LATE_CAPTURE st, bitsOf v 3 1)]
      let d := if d.policyHeld st then d else d.fset (RIND_STREAM_CFG_POLICY st) (bitsOf v 1 2)
      if d.runState = stArmed then d.setHorizon st else d
    else d)

end Sys2Proof.Machine
end

