-- ==== Sys2Proof/Machine/Schedule.lean ====
section
/-!
DEFINITION. The schedule table (R302 to R308): commit checks, arming and cancelling entries, moving an entry on, what
START and DRAINED do to it, and the epochs (R297, R299, R300): announcing a step on the grid and an opening taking effect.
-/

namespace Sys2Proof.Machine

open Sys2Proof

/-! ## Entries -/

/-- An entry of the schedule table. -/
def Dev.sch (d : Dev) (i : Nat) : SchedEntry := (pget d.tu.sched i).getD {}
/-- Set an entry. -/
def Dev.setSch (d : Dev) (i : Nat) (e : SchedEntry) : Dev := { d with tu := { d.tu with sched := pput i e d.tu.sched } }

/-- R306: the bits of `ARG` an action uses; reserved actions have none. -/
def argMask (action : Nat) : Option Nat :=
  if action = 1 then some 0xFFFF001F
  else if action = 2 ∨ action = 3 then some 0x1F
  else if action = 4 ∨ action = 5 ∨ action = 6 ∨ action = 7 then some 0
  else if action = 8 then some 0xF
  else if action = 9 then some 0xFF
  else none

/-- R306: `ARG` obeys the action's row: no other bit set, and a pulse at least 1 tick wide. -/
def argOk (action arg : Nat) : Bool :=
  match argMask action with
  | none => false
  | some m => arg ||| m == m && (action != 1 || decide (1 ≤ arg / 2 ^ 16))

/-- R302: an action and period an entry may hold. -/
def entryOk (action arg period : Nat) : Bool :=
  argOk action arg && action != 4 && !(decide (1 ≤ period) && decide (period ≤ 9))

/-- R334 to R336, R309: an entry from the values of its three registers. -/
def entryOf (time period ctrl : Nat) : SchedEntry :=
  let rel := bitAt ctrl 4
  { time := if rel then 0 else bitsOf time 0 48, off := if rel then bitsOf time 0 48 else 0, period := bitsOf period 0 40,
    epoch := bitsOf ctrl 16 16, action := bitsOf ctrl 8 4, arg := bitsOf ctrl 32 32, policy := bitAt ctrl 3, rel := rel,
    enable := bitAt ctrl 2 }

/-- R336: the STATE a READ shows; an entry that waits for TIME_VALID is idle. -/
def entryState (e : SchedEntry) : Nat := if e.st = 4 then 0 else e.st

/-! ## START fails (R308) -/

/-- R308: the armed and waiting `REL` entries are disarmed without a report and keep their offsets. -/
def Dev.disarmRel (d : Dev) : Dev :=
  { d with tu := { d.tu with sched := d.tu.sched.map (fun e =>
      if e.2.rel && e.2.st != 3 then (e.1, { e.2 with st := 0, late := false }) else e) } }

/-- R308: START fails: its `REL` entries are disarmed and the task ends as FAILED. -/
def Dev.startFails (d : Dev) : Dev := d.disarmRel.finishAll .boundary0 tsFailed 0

/-- R305, R310: an entry is cancelled with a report. -/
def Dev.cancelEntry (d : Dev) (i code : Nat) : Dev :=
  let d := (d.setSch i { d.sch i with st := 3, late := false }).schedReport code i 0
  if i = 255 then d.startFails else d

/-! ## Time against an entry (R303, R304) -/

/-- d(C, TIME) of an entry. -/
def Dev.lateness (d : Dev) (e : SchedEntry) : Int := stampDiff (d.ns % 2 ^ 48) e.time

/-- R304: the entry moves on by its period: to the first occurrence after C, reporting those passed over; with no period
it is done. -/
def Dev.moveOn (d : Dev) (i : Nat) : Dev :=
  let e := d.sch i
  if e.period = 0 then d.setSch i { e with st := 0, late := false }
  else
    let k := (d.lateness e).toNat / e.period + 1
    let d := d.setSch i { e with time := (e.time + k * e.period) % 2 ^ 48, late := false }
    if 1 < k then d.schedReport 7 i (k - 1) else d

/-- R303, R305: an entry that is to arm: it waits for TIME_VALID or for its epoch, is cancelled as stale, or is armed;
past due it is to fire late or is passed over with a report. -/
def Dev.armEntry (d : Dev) (i : Nat) : Dev :=
  let e := d.sch i
  if !d.flag TU_STATUS_TIME_VALID then d.setSch i { e with st := 4 }
  else
    let de := epochDiff e.epoch d.epoch
    if de = 0 then
      let late := d.lateness e
      if late ≤ 0 then d.setSch i { e with st := 2, late := false }
      else if e.policy then d.setSch i { e with st := 2, late := true }
      else
        let d := ((d.setSch i { e with st := 2 }).schedReport 1 i late.toNat).moveOn i
        if i = 255 then d.startFails else d
    else if 0 < de then d.setSch i { e with st := 1 }
    else d.cancelEntry i 4

/-- R303: TIME_VALID is set: the entries that waited for it arm, in ascending order. -/
def Dev.armDeferred (d : Dev) : Dev :=
  d.each ((d.tu.sched.filter (fun e => e.2.st == 4 && e.2.enable)).map Prod.fst) Dev.armEntry

/-- R305: an epoch opens: armed entries of the old one are cancelled, waiting ones of the new one arm, and waiting ones
now stale are cancelled. -/
def Dev.epochEntries (d : Dev) : Dev :=
  let waiting (d : Dev) (p : Int → Bool) : List Nat := (d.tu.sched.filter (fun e => e.2.st == 1 && p (epochDiff e.2.epoch d.epoch))).map Prod.fst
  let d := d.each ((d.tu.sched.filter (fun e => e.2.st == 2)).map Prod.fst) (fun d i => d.cancelEntry i 3)
  let d := d.each (waiting d (fun de => de == 0)) Dev.armEntry
  d.each (waiting d (fun de => decide (de < 0))) (fun d i => d.cancelEntry i 4)

/-! ## The phase and the grid (R299) -/

/-- R299: the anchor's frame grid while the sequencer runs, else the step grid, as (G, phase) in 0.25 ns; no grid, none. -/
def Dev.grid (d : Dev) : Option (Nat × Nat) :=
  if d.flag RIND_STATUS_SEQ_RUNNING then some (5 * d.fget RIND_FRAME_PERIOD_PERIOD_TICKS, 4 * d.rind.anchor)
  else if d.fget TU_STEP_CFG_STEP_GRID_TICKS = 0 then none
  else some (5 * d.fget TU_STEP_CFG_STEP_GRID_TICKS, d.tu.phaseQ)

/-- R299: the first instant at or after a time, in whole ns, that lies a whole number of G plus G/2 after the phase. All
in eighths of a ns, since G is a multiple of 1.25 ns. -/
def midGrid (raw g phase : Nat) : Nat :=
  let wait := (((2 * phase + g : Nat) : Int) - (8 * raw : Nat)) % ((2 * g : Nat) : Int)
  ceilDiv (8 * raw + wait.toNat) 8

/-- R299: STEP_AT of an announced step. -/
def Dev.stepAt (d : Dev) : Nat :=
  let raw := d.ns + 1000 * d.fget TU_STEP_CFG_LEAD_US
  match d.grid with
  | none => raw
  | some (g, ph) => midGrid raw g ph

/-! ## Openings (R297, R299, R300) -/

/-- R299, R316, R325, R326: the registers show the announced step that is pending. -/
def Dev.showStep (d : Dev) : Dev :=
  match d.tu.openings.find? (fun o => o.stepAt.isSome) with
  | some o => d.fsets [(TU_STATUS_STEP_PENDING, 1), (TU_STEP_AT_STEP_AT, o.stepAt.getD 0), (TU_STEP_INFO_NEW_EPOCH, o.epoch)]
  | none => d.fsets [(TU_STATUS_STEP_PENDING, 0), (TU_STEP_AT_STEP_AT, 0), (TU_STEP_INFO_NEW_EPOCH, 0)]

/-- R299: the 256 bits of a step symbol; its CRC is that of R294. -/
def stepSymbol (stepAt newTime oldEpoch newEpoch : Nat) : Nat :=
  let n := stepAt % 2 ^ 64 * 2 ^ 192 + newTime % 2 ^ 64 * 2 ^ 128 + oldEpoch % 2 ^ 16 * 2 ^ 112 + newEpoch % 2 ^ 16 * 2 ^ 96
  n + crc16 240 (n / 2 ^ 16)

/-- R297, R299: an opening for a reason of the device's own: announced, in place of an own step still pending. -/
def Dev.announce (d : Dev) (delta : Int) : Dev :=
  let stepTime := d.stepAt % 2 ^ 64
  let n := (d.epoch + 1) % 2 ^ 16
  let o : Opening := {
    delta := delta, epoch := n, stepAt := some stepTime, own := true,
    symbol := stepSymbol stepTime (wrapTo 64 ((stepTime : Int) + delta)) d.epoch n, skew := none, since := d.tick }
  ({ d with tu := { d.tu with openings := (d.tu.openings.filter (fun x : Opening => !x.own)) ++ [o] } }).showStep

/-- R297: an opening onto the source's epoch, not announced. -/
def Dev.openOnto (d : Dev) (delta : Int) (epoch : Nat) (skew : Option Nat) : Dev :=
  if d.tu.openings.any (fun x => x.stepAt.isNone && x.epoch == epoch) then d
  else { d with tu := { d.tu with openings := d.tu.openings ++
      [{ delta := delta, epoch := epoch % 2 ^ 16, stepAt := none, own := false, symbol := 0, skew := skew, since := d.tick }] } }

/-- The port whose symbols discipline the device. -/
def Dev.sourcePort (d : Dev) : Nat := if d.flag TU_STATUS_ON_BACKUP then d.fget TU_CTRL_BACKUP_PORT else d.fget TU_CTRL_SOURCE_PORT

/-- R299: a root adds the step to its phase, modulo G. -/
def Dev.turnPhase (d : Dev) (delta : Int) : Dev :=
  let g := 5 * d.fget TU_STEP_CFG_STEP_GRID_TICKS
  if d.tu.source = 2 ∨ g = 0 then d
  else
    let q := (((d.tu.phaseQ : Int) + 4 * delta) % (g : Int)).toNat
    ({ d with tu := { d.tu with phaseQ := q } }).fset TU_STEP_CFG_STEP_PHASE_NS (q / 4)

/-- R297: EPOCH_SKEW after an opening: what the opening says, or, for an own one while the source keeps its epoch, N
less the source's epoch. -/
def Dev.openSkew (d : Dev) (o : Opening) : Dev :=
  match o.skew with
  | some k => d.fset TU_STATUS_EPOCH_SKEW k
  | none =>
    if o.own ∧ d.tu.source = 2 then
      d.fset TU_STATUS_EPOCH_SKEW ((o.epoch + 2 ^ 16 - ((pget d.tu.symbols d.sourcePort).getD {}).epoch) % 2 ^ 16)
    else d

/-- R300: an opening takes effect: time steps, the epoch becomes N, the schedule's entries are cancelled or armed. -/
def Dev.openEpoch (d : Dev) (o : Opening) : Dev :=
  let d := { d with
    time := wrapTo 96 ((d.time : Int) + o.delta * 2 ^ 32)
    tu := { d.tu with openings := d.tu.openings.erase o } }
  let d := (d.fsets [(TU_STATUS_EPOCH, o.epoch), (RIND_STATUS_EPOCH, o.epoch)]).event TU_STATUS_OPENED
  let d := d.fset TU_STEP_INFO_OPENINGS (satAdd 32 (d.fget TU_STEP_INFO_OPENINGS) 1)
  ((((d.openSkew o).turnPhase o.delta).showStep).alert 8 0 0 0xFF 0 o.epoch).epochEntries

/-- R300: an opening is due at a boundary of a nominal time: not announced, or its STEP_AT is reached or passed. -/
def Dev.openingDue (d : Dev) (nominal : Nat) (o : Opening) : Bool :=
  match o.stepAt with
  | none => true
  | some t => decide (0 ≤ stampDiff (nominal % 2 ^ 48) (t % 2 ^ 48)) || decide (0 ≤ stampDiff (d.ns % 2 ^ 48) (t % 2 ^ 48))
/-- R300: the tick in which an opening takes effect with the sequencer stopped: after the one it waits since, and, announced, not
before d(C, STEP_AT) ≥ 0. -/
def Dev.openingTick (d : Dev) (o : Opening) : Nat :=
  max (o.since + 1) (match o.stepAt with
    | none => d.tick
    | some t =>
      let wait := (-(stampDiff (d.ns % 2 ^ 48) (t % 2 ^ 48))).toNat
      if wait = 0 then d.tick else d.tick + ceilDiv (((d.ns + wait) <<< 32) - d.time) d.inc)
/-- R300: an opening still pending when the sequencer stops takes effect after this tick. -/
def Dev.holdOpenings (d : Dev) : Dev := { d with tu := { d.tu with openings := d.tu.openings.map (fun o => { o with since := d.tick }) } }
/-- R300: with the sequencer stopped, the opening that takes effect first. -/
def Dev.nextOpening (d : Dev) : Option Opening :=
  d.tu.openings.foldl (fun m o => match m with
    | none => some o
    | some x => if d.openingTick o < d.openingTick x then some o else some x) none
/-- R300: with the sequencer stopped, the openings that take effect up to a tick. -/
def Dev.openBy (d : Dev) (t : Nat) : Dev :=
  if d.flag RIND_STATUS_SEQ_RUNNING then d
  else d.each d.tu.openings (fun d _ => match d.nextOpening with
    | none => d
    | some o => if t < d.openingTick o then d else (d.advTo (d.openingTick o)).openEpoch o)

/-! ## The register commands of the table (R302, R310, R333) -/

/-- SCHED_READ: CMD = READ copies an entry to the staging registers with its STATE (R333, R336). A `REL` entry shows the time START
gave it while it waits or is armed (R308), and its offset from A otherwise (DEDUCED, log entry 145). -/
def schedRead (i : Nat) (d : Dev) : Dev :=
  if !d.ready then d else
  let e := d.sch i
  d.fsets [(TU_SCHED_SEL_INDEX, i), (TU_SCHED_TIME_TIME, if e.rel && decide (e.st = 0 ∨ e.st = 3) then e.off else e.time),
    (TU_SCHED_PERIOD_PERIOD_NS, e.period), (TU_SCHED_CTRL_ARG, e.arg), (TU_SCHED_CTRL_EPOCH, e.epoch),
    (TU_SCHED_CTRL_ACTION, e.action), (TU_SCHED_CTRL_STATE, entryState e), (TU_SCHED_CTRL_REL, b2n e.rel),
    (TU_SCHED_CTRL_POLICY, b2n e.policy), (TU_SCHED_CTRL_ENABLE, b2n e.enable)]

/-- SCHED_READ. -/
def execSchedRead (i : Nat) (s : State) : Host.Outcome State Fault Refusal := s.onDev (Wf.schedRead i) (schedRead i)

/-- SCHED_EVENT_POP: POP removes the head of the event queue (R310, R333). -/
def execSchedEventPop (s : State) : Host.Outcome State Fault Refusal :=
  s.onDev Wf.schedEventPop (fun d => d.when d.ready (fun d => { d with tu := { d.tu with events := d.tu.events.tail } }))

/-! ## START (R308) -/

/-- R308: START writes entry 255, resolves the enabled `REL` entries and arms them all in ascending order. Without
TIME_VALID it fails. -/
def Dev.startRun (d : Dev) (anchor epoch : Nat) (policy : Bool) : Dev :=
  let d := { d with rind := { d.rind with anchor := anchor, anchorFrame := 0 } }
  let e : SchedEntry := { time := anchor % 2 ^ 48, epoch := epoch % 2 ^ 16, action := 4, policy := policy, enable := true }
  let d := d.setSch 255 e
  if !d.flag TU_STATUS_TIME_VALID then d.startFails
  else
    let rel := (d.tu.sched.filter (fun e => e.2.rel && e.2.enable)).map Prod.fst
    let d := d.each rel (fun d i =>
      d.setSch i { d.sch i with time := (anchor + (d.sch i).off) % 2 ^ 48, epoch := epoch % 2 ^ 16 })
    d.each (rel ++ [255]) Dev.armEntry

end Sys2Proof.Machine
end

