-- ==== Sys2Proof/Machine/Ports.lean ====
section
/-!
DEFINITION. The Peust optical ports (chapter 9): frames and their checks (R349 to R354), violations and quarantine (R366
to R369), records, results and captures on the link (R355 to R360), training (R361 to R365), tests (R370 to R373) and
laser sources (R374, R375).
-/

namespace Sys2Proof.Machine

open Sys2Proof

/-! ## Frames on the wire (R350) -/

/-- R350: the PCRC of a payload. -/
def pcrcOf (payload : List Nat) : Nat := crcBytes 32 0x04C11DB7 0xFFFFFFFF payload ^^^ 0xFFFFFFFF

/-- R350: header bits [127:16] as a number. -/
def headerTop (seq ftype length srcId pcrc flags : Nat) : Nat :=
  seq % 2 ^ 16 * 2 ^ 96 + ftype % 2 ^ 8 * 2 ^ 88 + length % 2 ^ 24 * 2 ^ 64 + srcId % 2 ^ 16 * 2 ^ 48 + pcrc % 2 ^ 32 * 2 ^ 16
    + flags % 2 ^ 16

/-- R350: the bytes of a frame the T4 sends: header and payload. -/
def frameBytes (seq ftype srcId flags : Nat) (payload : List Nat) : List Nat :=
  let top := headerTop seq ftype payload.length srcId (pcrcOf payload) flags
  leBytes 16 (top * 2 ^ 16 + crc16 112 top) ++ payload

/-- R343: the largest payload a version carries at a period (R351). -/
def maxPayload (version period : Nat) : Nat :=
  if version = 3 then 64 * ((1250 * period - 400) / 1280) - 16
  else if version = 2 then 64 * ((1250 * period - 800) / 2560) - 16
  else 8 * ((1250 * period - 2560) / 640 - 4)

/-- The version in force on a port. -/
def Dev.version (d : Dev) (p : Nat) : Nat := d.fget (PL_STATUS_VERSION p)
/-- R376: the highest version a port offers; 0 acts as 3. -/
def Dev.versionMax (d : Dev) (p : Nat) : Nat := if d.fget (PL_CFG_VERSION_MAX p) = 0 then 3 else d.fget (PL_CFG_VERSION_MAX p)
/-- R341, R498: the port's optical engine group is powered. -/
def Dev.groupUp (d : Dev) (p : Nat) : Bool := d.fget (PWR_DOMAIN_STAT_STATE (20 + p / 8)) == 2
/-- R341: the port's laser source is lost (R374). -/
def Dev.laserLost (d : Dev) (p : Nat) : Bool := d.flag (PL_LASER_LOS (p / 4))

/-! ## The event log and PROTO_ERR (R367, R368) -/

/-- R368: an event joins the log of 64, or is counted as lost. -/
def Dev.portLog (d : Dev) (p code seq : Nat) : Dev :=
  if (d.port p).log.length < 64 then d.setPort p { d.port p with log := (d.port p).log ++ [⟨code, seq, d.ns, d.epoch⟩] }
  else d.bump (PL_EVENT_INFO_LOG_LOST p)

/-- R367: a PROTO_ERR leaves now. -/
def Dev.sendProtoErr (d : Dev) (p code seq stamp more : Nat) : Dev :=
  (d.emit (.protoErr p code seq (stamp % 2 ^ 48) more)).setPort p { d.port p with lastErr := some d.tick }

/-- R367: a violation is answered at once where no PROTO_ERR left in the last 1 µs and none is deferred, else deferred. -/
def Dev.answer (d : Dev) (p code seq : Nat) : Dev :=
  let x := d.port p
  match x.deferred with
  | some _ => d.setPort p { x with more := satAdd 16 x.more 1 }
  | none =>
    if (x.lastErr.map (fun t => decide (d.tick < t + 800))).getD false then
      d.setPort p { x with deferred := some (code, seq, d.ns % 2 ^ 48), more := 0 }
    else d.sendProtoErr p code seq d.ns 0

/-- PROTO_ERR_DEFERRED (R367): 1 µs after the last PROTO_ERR, one for the deferred violations. -/
def protoErrDeferred (p : Nat) (d : Dev) : Dev :=
  match (d.port p).deferred, (d.port p).lastErr with
  | some (code, seq, stamp), some t =>
    let d := d.advTo (t + 800)
    let more := (d.port p).more
    (d.sendProtoErr p code seq stamp more).setPort p
      { (d.sendProtoErr p code seq stamp more).port p with deferred := none, more := 0 }
  | _, _ => d

/-- PROTO_ERR_DEFERRED. -/
def execProtoErrDeferred (p : Nat) (s : State) : Host.Outcome State Fault Refusal :=
  s.onDev (Wf.protoErrDeferred p) (protoErrDeferred p)

/-! ## Leaving ACTIVE (R353, R355, R359) -/

/-- R359: captures on a port are lost; the one being copied loses this destination. -/
def Dev.loseCaptures (d : Dev) (p n : Nat) : Dev :=
  let lost := (d.port p).caps.take n
  let d := d.bumpBy (PL_TX_CNT_CAPTURES_LOST p) lost.length
  let d := d.setPort p { d.port p with caps := (d.port p).caps.drop n, creditWait := none }
  if lost.any (fun c => !c.ended) then
    { d with curd := { d.curd with queue := d.curd.queue.modify 0 (fun c => { c with dests := c.dests.filter (fun q => q != p) }) } }
  else d

/-- R370: tap i of a port's four lanes of 13 now: in ACTIVE it adapts, a free value (log entry 160), unless the lane is frozen. -/
def Dev.tapNow (d : Dev) (p i : Nat) : Nat :=
  if d.pstate p = psActive ∧ !d.flag (PL_LANE_EQ_FREEZE p (i / 13)) then Config.liveTap d.tick p i % 2 ^ 16 else (d.port p).taps.getD i 0
/-- R365, R370: the lanes hold the settings they have now. -/
def Dev.holdTaps (d : Dev) (p : Nat) : Dev :=
  if d.pstate p = psActive then d.setPort p { d.port p with taps := (upTo 52).map (d.tapNow p) } else d
/-- R370: FREEZE is set on a lane: it keeps the settings it has now. -/
def Dev.freezeTaps (d : Dev) (p l : Nat) : Dev :=
  d.setPort p { d.port p with taps := (upTo 52).map (fun i => if i / 13 = l then d.tapNow p i else (d.port p).taps.getD i 0) }
/-- R371, R389: what a lane showed of TEST is cleared as the port leaves it (DEDUCED, log entry 95). -/
def Dev.leaveTest (d : Dev) (p : Nat) : Dev :=
  if d.pstate p = psTest then d.each (upTo 4) (fun d l => d.fsets [(PL_LANE_PRBS_RX_LOCK p l, 0), (PL_LANE_SLIP_SLIP_TOTAL p l, 0)]) else d

/-- The port takes a state from which it carries nothing: waiting records are lost, captures are lost, the sequence
state is not valid, no version is in force. -/
def Dev.goState (d : Dev) (p st : Nat) : Dev :=
  let d := (d.holdTaps p).leaveTest p
  let x := d.port p
  let d := d.bumpBy (PL_TX_CNT_RECORDS_LOST p) (x.recs.length + x.results.length)
  let d := d.setPort p { x with recs := [], results := [], since := d.tick, dark := none, reqEnd := none, missed := 0, badRun := 0,
                                retryFor := none, retried := [], alignPs := none, exiting := none }
  (d.loseCaptures p x.caps.length).fsets [(PL_SEQ_SEQ_VALID p, 0), (PL_STATUS_MARGIN_WARN p, 0), (PL_STATUS_VERSION p, 0), (PL_STATUS_STATE p, st)]

/-! ## Violations and quarantine (R366 to R369) -/

/-- R369, R411: the port enters QUARANTINE. -/
def Dev.quarantine (d : Dev) (p : Nat) : Dev :=
  let d := ((d.goState p psQuarantine).portLog p 15 0).alert 10 0 0 p 0 0
  d.setPort p { d.port p with quarErr := d.tick, window := none }

/-- R369: a violation counts in the window; the one that exceeds LIMIT starts QUARANTINE. -/
def Dev.countWindow (d : Dev) (p : Nat) : Dev :=
  let n := match (d.port p).window with
    | some (e, n) => if d.tick < e then (e, n + 1) else (d.tick + 800 * max 1 (d.fget (PL_QUAR_CFG_WINDOW_US p)), 1)
    | none => (d.tick + 800 * max 1 (d.fget (PL_QUAR_CFG_WINDOW_US p)), 1)
  let d := d.setPort p { d.port p with window := some n }
  if d.fget (PL_QUAR_CFG_LIMIT p) ≠ 0 ∧ d.fget (PL_QUAR_CFG_LIMIT p) < n.2 ∧ d.pstate p ≠ psQuarantine then d.quarantine p else d

/-- R367: a violation is counted, logged, answered unless the answer is another one, and counts in its window. -/
def Dev.violation (d : Dev) (p code seq : Nat) (answered : Bool) : Dev :=
  let d := (d.bump (PL_VIOL_CNT_COUNT p code)).portLog p code seq
  (if answered then d.answer p code seq else d).countWindow p

/-- VIOLATION_WINDOW_END (R369): the window closes at its end. -/
def execViolationWindowEnd (p : Nat) (s : State) : Host.Outcome State Fault Refusal :=
  s.onDev (Wf.violationWindowEnd p) (fun d =>
    match (d.port p).window with
    | none => d
    | some (e, _) => (d.advTo e).setPort p { d.port p with window := none })

/-- QUARANTINE_PROTO_ERR (R369): every 1 ms a port in QUARANTINE sends PROTO_ERR with CODE 15. -/
def execQuarantineProtoErr (p : Nat) (s : State) : Host.Outcome State Fault Refusal :=
  s.onDev (Wf.quarantineProtoErr p) (fun d =>
    if d.pstate p = psQuarantine then
      let d := d.advTo ((d.port p).quarErr + 800000)
      let d := d.sendProtoErr p 15 0 d.ns 0
      d.setPort p { d.port p with quarErr := d.tick }
    else d)

/-! ## Received frames (R349 to R354) -/

/-- R342, R343: the role takes the frame type; Peust 1 carries no RESULT frames (DEDUCED, log entry 150). -/
def typeTaken (version role ftype : Nat) : Bool := role == roleInput && (ftype == 1 || (ftype == 2 && version != 1))

/-- R350: the frame type is reserved on this version. -/
def typeReserved (version ftype : Nat) : Bool := !(decide (1 ≤ ftype) && decide (ftype ≤ (if version = 1 then 4 else 3)))

/-- R350: the header's CRC is wrong. -/
def badHcrc (f : RxFrame) : Bool := f.hcrc != crc16 112 (headerTop f.seq f.ftype f.length f.srcId f.pcrc f.flags)
/-- R366, R367: the lowest code among the rules a frame breaks; none where it breaks none. -/
def Dev.frameFault (d : Dev) (p : Nat) (f : RxFrame) : Option Nat :=
  let role := d.role p
  if badHcrc f || typeReserved (d.version p) f.ftype then some 1
  else if f.aborted || f.payload.length != f.length || (role == roleInput && f.length != d.fget (PL_CFG_PAYLOAD_BYTES p)) then some 2
  else if f.pcrc != pcrcOf f.payload then some 3
  else if f.flagged != [] then some 4
  else if !typeTaken (d.version p) role f.ftype then some 7
  else none

/-- R354: a control word RETRY leaves. -/
def Dev.askRetry (d : Dev) (p seq : Nat) : Dev :=
  (d.emit (.control p 0x3C seq)).setPort p { d.port p with retryFor := some seq, retried := seq :: (d.port p).retried }

/-- R19: an assembled frame waits for the port's alignment delay. -/
def Dev.toAlign (d : Dev) (p : Nat) (f : RxFrame) : Dev :=
  let a : AlignedFrame := ⟨f.seq, f.payload, f.ftype, d.tick + d.fget (RIND_PORT_ALIGN_DELAY_TICKS p)⟩
  { d with rind := { d.rind with waiting := pput p (pgetD d.rind.waiting p [] ++ [a]) d.rind.waiting } }

/-! ## Training (R361 to R363) -/

/-- R361: the port is not OFF. -/
def Dev.portOn (d : Dev) (p : Nat) : Bool := d.flag (PL_CFG_TRAIN_EN p) && d.groupUp p
/-- R361, R374: the port may make training attempts. -/
def Dev.mayTrain (d : Dev) (p : Nat) : Bool := d.portOn p && !d.laserLost p

/-- R361, R362: an attempt begins at DETECT with a nonce of its own and the offer in force now. -/
def Dev.beginAttempt (d : Dev) (p : Nat) : Dev :=
  let n := Config.nonce d.freeIdx % 2 ^ 16
  let d := { d with freeIdx := d.freeIdx + 1 }
  (d.setPort p { d.port p with
    since := d.tick, dark := none, reqEnd := none, nonce := n, offer := none, echo := 0, ack := false, agree := 0,
    lanes := [], ownMax := d.versionMax p, version := 0 }).fset (PL_STATUS_STATE p) psDetect

/-- R363: a new set of attempts (three, or a single one from DOWN) starts. -/
def Dev.startSet (d : Dev) (p : Nat) (single : Bool) : Dev :=
  ((d.setPort p { d.port p with single := single }).fset (PL_STATUS_ATTEMPTS p) 1).beginAttempt p

/-- R363, R411: the port enters DOWN. -/
def Dev.portDown (d : Dev) (p failState cause : Nat) : Dev :=
  ((d.goState p psDown).fsets [(PL_STATUS_FAIL_STATE p, failState), (PL_STATUS_FAIL_CAUSE p, cause)]).alert 9 0 0 p 0 cause

/-- R363: the attempt fails: the port is dark for 10 ms, or enters DOWN after its third attempt or its single one. -/
def Dev.attemptFails (d : Dev) (p cause : Nat) : Dev :=
  let st := d.pstate p
  if (d.port p).single || decide (3 ≤ d.fget (PL_STATUS_ATTEMPTS p)) then d.portDown p st cause
  else
    let d := d.fsets [(PL_STATUS_FAIL_STATE p, st), (PL_STATUS_FAIL_CAUSE p, cause), (PL_STATUS_STATE p, psDetect)]
    d.setPort p { d.port p with since := d.tick, dark := some (d.tick + 8000000) }

/-- The attempt in progress has its light on. -/
def Dev.lit (d : Dev) (p : Nat) : Bool := (d.port p).dark.isNone && (d.port p).reqEnd.isNone

/-- R362: the TRAIN word the port sends. -/
def Dev.trainWord (d : Dev) (p err : Nat) : Nat :=
  let x := d.port p
  let sel := (x.offer.map (fun o => min x.ownMax o)).getD 0
  0x99 * 2 ^ 56 + x.ownMax * 2 ^ 52 + sel * 2 ^ 48 + x.nonce * 2 ^ 32 + x.echo * 2 ^ 16 + err * 2 ^ 12 + b2n x.ack * 2 ^ 11

/-- SIGNAL_DETECT (R361, R362): signal and clock lock on all four receive lanes; TRAIN words leave from now on. -/
def execSignalDetect (p : Nat) (s : State) : Host.Outcome State Fault Refusal :=
  s.onDev (Wf.signalDetect p) (fun d =>
    if d.pstate p = psDetect ∧ d.lit p then
      let d := (d.setPort p { d.port p with since := d.tick }).fset (PL_STATUS_STATE p) psNegotiate
      d.emit (.control p 0x99 (d.trainWord p 0))
    else d)

/-- R362: a VERSION violation ends the attempt and is answered with ERR = 8. -/
def Dev.versionFault (d : Dev) (p : Nat) : Dev :=
  let d := d.emit (.control p 0x99 (d.trainWord p 8))
  let d := d.violation p 8 0 false
  if d.pstate p = psNegotiate then d.attemptFails p 2 else d

/-- R362: a TRAIN word is received in NEGOTIATE. -/
def trainReceived (p w : Nat) (d : Dev) : Dev :=
  if d.pstate p ≠ psNegotiate then d
  else
    let x := d.port p
    let o := bitsOf w 52 4
    let psel := bitsOf w 48 4
    let sel := min x.ownMax o
    if bitsOf w 32 16 = x.nonce then d.attemptFails p 3
    else
      let d := d.setPort p { x with echo := bitsOf w 32 16 }
      if o = 0 ∨ 3 < o ∨ (x.offer.map (fun q => decide (q ≠ o))).getD false ∨ (psel ≠ 0 ∧ psel ≠ sel) then d.versionFault p
      else
        let good := bitAt w 11 && psel == sel && bitsOf w 16 16 == x.nonce
        let y := { d.port p with offer := some o, ack := x.ack || psel == sel, agree := if good then x.agree + 1 else 0, version := sel }
        let d := (d.setPort p y).fset (PL_STATUS_PARTNER_MAX p) o
        let d := d.emit (.control p 0x99 (d.trainWord p 0))
        if 16 ≤ y.agree then (d.setPort p { y with since := d.tick }).fset (PL_STATUS_STATE p) psEqualise else d

/-- TRAIN. -/
def execTrain (p w : Nat) (s : State) : Host.Outcome State Fault Refusal := s.onDev (Wf.train p w) (trainReceived p w)

/-- R370: the taps after training, a frozen lane keeping its own. -/
def Dev.trainTaps (d : Dev) (p : Nat) (taps : List Nat) : List Nat :=
  (upTo 52).map (fun i => if d.flag (PL_LANE_EQ_FREEZE p (i / 13)) then (d.port p).taps.getD i 0 else taps.getD i 0 % 2 ^ 16)

/-- EQUALISE_DONE (R361, R370): every lane has held its error target for 1 ms. -/
def execEqualiseDone (p : Nat) (taps : List Nat) (s : State) : Host.Outcome State Fault Refusal :=
  s.onDev (Wf.equaliseDone p taps) (fun d =>
    if d.pstate p = psEqualise then
      (d.setPort p { d.port p with since := d.tick, taps := d.trainTaps p taps }).fset (PL_STATUS_STATE p) psAlign
    else d)

/-- R365: the port enters IDLE. -/
def Dev.goIdle (d : Dev) (p : Nat) : Dev := d.goState p psIdle

/-- R351, R360, R365: the port is ACTIVE at its agreed version; a version too small for PAYLOAD_BYTES is noted, and a
request for IDLE made meanwhile takes effect on Peust 2 and 3. -/
def Dev.goActive (d : Dev) (p : Nat) : Dev :=
  let v := (d.port p).version
  let long := d.role p == roleInput && decide (maxPayload v (d.fget RIND_FRAME_PERIOD_PERIOD_TICKS) < d.fget (PL_CFG_PAYLOAD_BYTES p))
    && d.fget RIND_FRAME_PERIOD_PERIOD_TICKS != 0
  let d := d.setPort p { d.port p with
    since := d.tick, missed := 0, badRun := 0, txSeq := 0, capSeq := 0, sent := [], retryFor := none, retried := [], creditWait := none,
    exiting := none }
  let d := d.fsets [(PL_STATUS_STATE p, psActive), (PL_STATUS_VERSION p, v), (PL_CREDIT_CREDIT p, 0), (PL_STATUS_PAYLOAD_TOO_LONG p, b2n long)]
  if d.flag (PL_CTRL_IDLE_REQ p) && decide (2 ≤ v) then (d.emit (.control p 0x66 0)).goIdle p else d

/-- ALIGN_DONE (R361): lanes identified and deskewed. -/
def execAlignDone (p : Nat) (s : State) : Host.Outcome State Fault Refusal :=
  s.onDev (Wf.alignDone p) (fun d => if d.pstate p = psAlign ∧ (d.port p).lanes.length = 4 then d.goActive p else d)

/-- R361: the timeout of a training state in ticks. -/
def trainLimit (st : Nat) : Option Nat :=
  if st = psDetect ∨ st = psNegotiate then some 16000000
  else if st = psEqualise then some 80000000
  else if st = psAlign then some 8000000
  else none

/-- TRAIN_TIMEOUT (R361, R363). -/
def execTrainTimeout (p : Nat) (s : State) : Host.Outcome State Fault Refusal :=
  s.onDev (Wf.trainTimeout p) (fun d =>
    match trainLimit (d.pstate p) with
    | none => d
    | some n => if d.lit p then (d.advTo ((d.port p).since + n)).attemptFails p 1 else d)

/-- DARK_END (R363): 10 ms after a failed attempt the next one starts. -/
def execDarkEnd (p : Nat) (s : State) : Host.Outcome State Fault Refusal :=
  s.onDev (Wf.darkEnd p) (fun d =>
    match (d.port p).dark with
    | none => d
    | some t =>
      let d := d.advTo t
      (d.fset (PL_STATUS_ATTEMPTS p) (d.fget (PL_STATUS_ATTEMPTS p) + 1)).beginAttempt p)

/-- DOWN_RETRY (R363, R374): with AUTO_RETRY a DOWN port makes a single attempt when it detects signal, or 1 s after it
entered DOWN. -/
def execDownRetry (p : Nat) (signal : Bool) (s : State) : Host.Outcome State Fault Refusal :=
  s.onDev (Wf.downRetry p signal) (fun d =>
    if d.pstate p = psDown ∧ d.flag (PL_CFG_AUTO_RETRY p) ∧ d.mayTrain p then
      (if signal then d else d.advTo ((d.port p).since + 800000000)).startSet p true
    else d)

/-! ## Link drops (R364) -/

/-- R364: the link drops: counted and logged; RETRAIN_REQ for 1 µs unless the signal is lost, then a new set. -/
def Dev.dropLink (d : Dev) (p : Nat) (loss : Bool) : Dev :=
  let d := ((d.goState p psDetect).bump (PL_STATUS_LINK_DROPS p)).portLog p 14 0
  if loss then d.startSet p false
  else (d.emit (.control p 0x78 0)).setPort p { d.port p with reqEnd := some (d.tick + 800) }

/-- R364: a run of bad blocks that drops the link: 32 blocks, or 64 words on Peust 1. -/
def Dev.badLimit (d : Dev) (p : Nat) : Nat := if d.version p = 1 then 64 else 32

/-- R364: a good block ends a run of bad ones. -/
def Dev.goodBlock (d : Dev) (p : Nat) : Dev := if (d.port p).badRun = 0 then d else d.setPort p { d.port p with badRun := 0 }
/-- R346, R364, R381: a control block is received on a Peust 2 or 3 port: the FEC's corrections count, and a run of bad blocks ends. -/
def Dev.received (d : Dev) (x : RxBlock) : Dev :=
  if d.pstate x.port ≠ psActive then d
  else (d.when (x.fixed && decide (2 ≤ d.version x.port)) (fun d => d.bump (PL_FEC_CORRECTED x.port))).goodBlock x.port

/-! ## Received frames taken (R349, R354, R364, R366) -/

/-- R349, R354, R366: a port finishes decoding a frame: it passes it on, asks for a retry, or counts a violation. -/
def Dev.takeAssembled (d : Dev) (p : Nat) (f : RxFrame) : Dev :=
  let retry := d.version p == 1 && d.flag (PL_CFG_RETRY_EN p) && d.role p == roleInput
  let again (c : Nat) : Bool := c == 3 || badHcrc f
  match (d.port p).retryFor with
  | some q =>
    if f.seq ≠ q then d
    else
      let d := d.setPort p { d.port p with retryFor := none }
      match d.frameFault p f with
      | none => (d.bump (PL_RX_CNT_FRAMES p)).toAlign p f
      | some c => d.violation p c f.seq (!again c)
  | none =>
    match d.frameFault p f with
    | none => (d.bump (PL_RX_CNT_FRAMES p)).toAlign p f
    | some c =>
      if retry && again c then
        let d := d.violation p c f.seq false
        if (d.port p).retried.contains f.seq || d.pstate p != psActive then d else d.askRetry p f.seq
      else d.violation p c f.seq true

/-- R349: the blocks of a frame. -/
def frameBlocks (f : RxFrame) : Nat := ceilDiv (16 + f.payload.length) 64
/-- R364: the longest run of flagged blocks that ends in this frame, after a run of `n` before it, and the run it leaves. -/
def flaggedRun (f : RxFrame) (n : Nat) : Nat × Nat :=
  (upTo (frameBlocks f)).foldl (fun r k => if f.flagged.contains k then (max r.1 (r.2 + 1), r.2 + 1) else (r.1, 0)) (n, n)

/-- FRAME_ASSEMBLED (R349, R354, R364, R366): the frame's blocks are counted, it is taken or refused, and 32 flagged blocks in a row
drop the link. -/
def frameAssembled (p : Nat) (f : RxFrame) (d : Dev) : Dev :=
  if d.pstate p ≠ psActive then d
  else
    let run := flaggedRun f (d.port p).badRun
    let d := (d.bumpBy (PL_FEC_CORRECTED p) f.corrected).bumpBy (PL_FEC_UNCORRECTABLE p) f.flagged.length
    let d := (d.setPort p { d.port p with badRun := run.2 }).takeAssembled p f
    if d.pstate p = psActive ∧ d.badLimit p ≤ run.1 then d.dropLink p false else d

/-- FRAME_ASSEMBLED. -/
def execFrameAssembled (p : Nat) (f : RxFrame) (s : State) : Host.Outcome State Fault Refusal :=
  s.onDev (Wf.frameAssembled p f) (frameAssembled p f)

/-- LINK_DROP (R364). -/
def execLinkDrop (p : Nat) (loss : Bool) (s : State) : Host.Outcome State Fault Refusal :=
  s.onDev (Wf.linkDrop p loss) (fun d => if d.pstate p = psActive then d.dropLink p loss else d)

/-- RETRAIN_REQ (R364): the partner asks for training. -/
def execRetrainReq (p : RxBlock) (s : State) : Host.Outcome State Fault Refusal :=
  s.onDev (Wf.retrainReq p) (fun d =>
    let d := d.received p
    if d.pstate p.port = psActive then d.dropLink p.port false else d)

/-- RETRAIN_REQ_END (R364): 1 µs after the drop the port goes dark and its attempt starts. -/
def execRetrainReqEnd (p : Nat) (s : State) : Host.Outcome State Fault Refusal :=
  s.onDev (Wf.retrainReqEnd p) (fun d =>
    match (d.port p).reqEnd with
    | none => d
    | some t => (d.advTo t).startSet p false)

/-- RETRAIN (R363, R364, R369): a new set of three attempts from any state but OFF; from ACTIVE it is a link drop. -/
def execRetrain (p : Nat) (s : State) : Host.Outcome State Fault Refusal :=
  s.onDev (Wf.retrain p) (fun d =>
    if !d.ready || d.pstate p == psOff || d.laserLost p then d
    else if d.pstate p = psActive then d.dropLink p false
    else (d.goState p psDetect).startSet p false)

/-! ## Electrical idle (R365) -/

/-- IDLE_ENTER (R365): a Peust 2 or 3 port goes to IDLE; on Peust 1 the word is ignored. -/
def execIdleEnter (p : RxBlock) (s : State) : Host.Outcome State Fault Refusal :=
  s.onDev (Wf.idleEnter p) (fun d =>
    let d := d.received p
    if d.pstate p.port = psActive ∧ 2 ≤ d.version p.port then d.goIdle p.port else d)

/-- IDLE_REQ (R365, R377): set, an ACTIVE Peust 2 or 3 port sends IDLE_ENTER and goes dark; cleared, a port in IDLE sends
the exit burst, and IDLE blocks behind it. -/
def execIdleReq (p : Nat) (v : Bool) (s : State) : Host.Outcome State Fault Refusal :=
  s.onDev (Wf.idleReq p v) (fun d =>
    if !d.ready then d else
    let was := d.flag (PL_CTRL_IDLE_REQ p)
    let d := d.fset (PL_CTRL_IDLE_REQ p) (b2n v)
    if v && d.pstate p == psActive && decide (2 ≤ d.version p) then (d.emit (.control p 0x66 0)).goIdle p
    else if was && !v && d.pstate p == psIdle then
      ((d.emit (.control p 0x00 1)).emit (.control p 0x00 0)).setPort p { d.port p with exiting := some d.tick }
    else d)

/-- IDLE_EXIT (R365): the burst is received in IDLE and the port is ACTIVE again. -/
def execIdleExit (p : Nat) (s : State) : Host.Outcome State Fault Refusal :=
  s.onDev (Wf.idleExit p) (fun d => if d.pstate p = psIdle then d.goActive p else d)

/-- IDLE_TIMEOUT (R365): 100 ms in IDLE, or no exit within 100 µs of the signal's return: the link drops. -/
def execIdleTimeout (p : Nat) (signal : Bool) (s : State) : Host.Outcome State Fault Refusal :=
  s.onDev (Wf.idleTimeout p signal) (fun d =>
    if d.pstate p = psIdle then (if signal then d else d.advTo ((d.port p).since + 80000000)).dropLink p false else d)

/-! ## Control blocks received (R347, R348, R360, R364) -/

/-- ALIGN (R348, R361, R364): in ALIGN one lane is identified, a skew beyond 16 ns failing the attempt; in ACTIVE an ALIGN
missing at its expected position counts, and two in a row drop the link. -/
def alignReceived (p lane : Nat) (m : AlignMark) (d : Dev) : Dev :=
  if d.pstate p = psAlign then
    if 16000 < m.skew then d.attemptFails p 5
    else
      let d := d.fset (PL_STATUS_LANE_MAP p) (setBits (d.fget (PL_STATUS_LANE_MAP p)) (2 * lane) 2 m.laneId)
      if (d.port p).lanes.contains lane then d else d.setPort p { d.port p with lanes := lane :: (d.port p).lanes }
  else if d.pstate p = psActive then
    if m.atExpected then d.setPort p { d.port p with missed := 0, badRun := 0 }
    else if (d.port p).missed = 0 then d.setPort p { d.port p with missed := 1 }
    else d.dropLink p false
  else d

/-- ALIGN. -/
def execAlign (p : RxBlock) (lane : Nat) (m : AlignMark) (s : State) : Host.Outcome State Fault Refusal :=
  s.onDev (Wf.align p lane m) (fun d => alignReceived p.port lane m (d.received p))

/-- R361, R365, R371: the port sends light now. -/
def Dev.transmits (d : Dev) (p : Nat) : Bool :=
  d.pstate p != psOff && d.pstate p != psDown && (d.pstate p != psIdle || (d.port p).exiting.isSome) && (d.port p).dark.isNone
/-- R348, R354: from one ALIGN block to the next, after 767 other blocks, or between lane markers on Peust 1, after 16,383 other words
of the lane; in ps. -/
def alignSpan (version : Nat) : Nat := if version = 3 then 983040 else if version = 2 then 1966080 else 41943040
/-- R348, R365: when the port's next ALIGN leaves, in ps from tick 0: 200 ns after an exit burst, a span after the last one, or now. -/
def Dev.nextAlign (d : Dev) (p : Nat) : Nat :=
  let x := d.port p
  max (1250 * d.tick) (match x.exiting, x.alignPs with
    | some t, _ => 1250 * (t + 160)
    | none, some a => a + alignSpan x.version
    | none, none => 0)

/-- ALIGN_SEND (R348, R294): the next ALIGN block leaves; its instant is what the next time symbol carries. -/
def execAlignSend (p : Nat) (s : State) : Host.Outcome State Fault Refusal :=
  s.onDev (Wf.alignSend p) (fun d =>
    if d.transmits p then
      let at0 := d.nextAlign p
      let d := (d.advTo (at0 / 1250)).emit (.control p 0x1E 0)
      let d := d.setPort p { d.port p with alignPs := some at0, exiting := none }
      { d with tu := { d.tu with marks := pput p (d.time + at0 % 1250 * 2 ^ 32 / 1000) d.tu.marks } }
    else d)

/-- CREDIT (R359, R360): credit comes, which ends a wait for it. -/
def creditBlock (p grant : Nat) (d : Dev) : Dev :=
  if d.pstate p ≠ psActive then d
  else if d.role p ≠ roleReadout ∨ !d.flag (PL_CFG_CREDIT_EN p) then d.violation p 9 0 true
  else
    let n := d.fget (PL_CREDIT_CREDIT p) + grant % 65536
    let d := d.when (n != 0) (fun d => d.setPort p { d.port p with creditWait := none })
    if 65535 < n then (d.fset (PL_CREDIT_CREDIT p) 65535).violation p 9 0 true
    else d.fset (PL_CREDIT_CREDIT p) n

/-- CREDIT. -/
def execCredit (p : RxBlock) (grant : Nat) (s : State) : Host.Outcome State Fault Refusal :=
  s.onDev (Wf.credit p grant) (fun d => creditBlock p.port grant (d.received p))

/-- PROTO_ERR (R367): nothing more happens. -/
def execProtoErr (p : RxBlock) (s : State) : Host.Outcome State Fault Refusal := s.onDev (Wf.protoErr p) (fun d => d.received p)

/-- IDLE_BLOCK (R347): ignored; it ends a run of bad blocks (R364). -/
def execIdleBlock (p : RxBlock) (s : State) : Host.Outcome State Fault Refusal := s.onDev (Wf.idleBlock p) (fun d => d.received p)

/-- R347, R354: a TIME, STEP or RECORD word on Peust 1, where its type is reserved. -/
def Dev.reservedWord (d : Dev) (p : Nat) : Dev := if d.pstate p = psActive ∧ d.version p = 1 then d.violation p 6 0 true else d
/-- RECORD_BLOCK (R342): no role takes it; it ends a run of bad blocks (R364). On Peust 1 it is a CONTROL violation (R354). -/
def execRecordBlock (p : RxBlock) (s : State) : Host.Outcome State Fault Refusal :=
  s.onDev (Wf.recordBlock p) (fun d => (d.received p).reservedWord p.port)

/-- INVALID_BLOCK (R346, R364, R366). -/
def invalidBlock (p : Nat) (kind : BadBlock) (d : Dev) : Dev :=
  if d.pstate p ≠ psActive then d
  else
    let bad := kind = .uncorrectable ∨ kind = .badHeader
    let d := if kind = .uncorrectable then d.bump (PL_FEC_UNCORRECTABLE p) else d
    let d := d.setPort p { d.port p with badRun := if bad then (d.port p).badRun + 1 else 0 }
    let run := (d.port p).badRun
    let d := d.violation p (if kind = .uncorrectable then 4 else 6) 0 true
    if d.pstate p = psActive ∧ d.badLimit p ≤ run then d.dropLink p false else d

/-- INVALID_BLOCK. -/
def execInvalidBlock (p : Nat) (kind : BadBlock) (s : State) : Host.Outcome State Fault Refusal :=
  s.onDev (Wf.invalidBlock p kind) (invalidBlock p kind)

/-! ## What a port sends (R354 to R360) -/

/-- R354: a frame leaves; on Peust 1 the last 64 are held for replay. -/
def Dev.sendFrame (d : Dev) (p seq ftype flags : Nat) (payload : List Nat) : Dev :=
  let b := frameBytes seq ftype (d.fget (PL_CFG_SRC_ID p)) flags payload
  let d := d.emit (.frame p b)
  if d.version p = 1 then d.setPort p { d.port p with sent := (d.port p).sent ++ [(seq, ftype == 3, b)] } else d

/-- R356: the 128-bit T2 record of a record. -/
def t2Record (r : Record) : Nat :=
  let n := r.toNat
  let m := bitsOf n 0 3 + bitsOf n 7 12 * 2 ^ 3 + bitsOf n 19 32 * 2 ^ 15 + bitsOf n 67 16 * 2 ^ 47 + bitsOf n 83 32 * 2 ^ 63
    + bitsOf n 147 32 * 2 ^ 95
  m + popCount 127 m % 2 * 2 ^ 127

/-- PORT_RECORD_SEND (R355, R356): the oldest queued record leaves. -/
def portRecordSend (p : Nat) (d : Dev) : Dev :=
  match (d.port p).recs with
  | [] => d
  | (s, r) :: rest =>
    if d.pstate p ≠ psActive then d
    else
      let d := (d.setPort p { d.port p with recs := rest }).bump (PL_TX_CNT_RECORDS_SENT p)
      if d.version p = 1 then
        let q := (d.port p).txSeq
        (d.sendFrame p q 4 0 (leBytes 16 (t2Record r))).setPort p
          { (d.sendFrame p q 4 0 (leBytes 16 (t2Record r))).port p with txSeq := (q + 1) % 2 ^ 16 }
      else d.emit (.portRecord p s r)

/-- PORT_RECORD_SEND. -/
def execPortRecordSend (p : Nat) (s : State) : Host.Outcome State Fault Refusal := s.onDev (Wf.portRecordSend p) (portRecordSend p)

/-- RESULT_FRAME_SEND (R357): the oldest waiting RESULT frame leaves, behind the queued records. -/
def resultFrameSend (p : Nat) (d : Dev) : Dev :=
  match (d.port p).results with
  | [] => d
  | (seq, payload) :: rest =>
    if d.pstate p ≠ psActive ∨ d.version p = 1 ∨ (d.port p).recs ≠ [] then d
    else
      let d := (d.setPort p { d.port p with results := rest }).bump (PL_TX_CNT_RECORDS_SENT p)
      d.sendFrame p seq 2 0 payload

/-- RESULT_FRAME_SEND. -/
def execResultFrameSend (p : Nat) (s : State) : Host.Outcome State Fault Refusal := s.onDev (Wf.resultFrameSend p) (resultFrameSend p)

/-- R359, R360: one block of the present CAPTURE frame leaves as credit allows; with its last block the frame is sent. -/
def captureSegmentSend (p : Nat) (d : Dev) : Dev :=
  match (d.port p).caps with
  | [] => d
  | c :: rest =>
    if d.pstate p ≠ psActive ∨ (d.port p).recs ≠ [] ∨ !(c.ended || decide (4096 ≤ c.bytes.length)) then d
    else if d.flag (PL_CFG_CREDIT_EN p) ∧ d.fget (PL_CREDIT_CREDIT p) = 0 then
      let d := d.bump (PL_CREDIT_STALL_BLOCKS p)
      d.setPort p { d.port p with creditWait := some ((d.port p).creditWait.getD d.tick) }
    else
      let d := d.when (d.flag (PL_CFG_CREDIT_EN p)) (fun d => d.fset (PL_CREDIT_CREDIT p) (d.fget (PL_CREDIT_CREDIT p) - 1))
      let payload := c.bytes.take 4096
      let last := c.ended && decide (c.bytes.length ≤ 4096)
      if c.blocks + 1 < ceilDiv (16 + payload.length) 64 then
        d.setPort p { d.port p with caps := { c with blocks := c.blocks + 1 } :: rest, creditWait := none }
      else
        let q := (d.port p).capSeq
        let d := d.sendFrame p q 3 (b2n (!c.begun) + 2 * b2n last) payload
        d.setPort p { d.port p with
          capSeq := (q + 1) % 2 ^ 16, creditWait := none
          caps := if last then rest else { c with bytes := c.bytes.drop 4096, blocks := 0, begun := true } :: rest }

/-- CAPTURE_SEGMENT_SEND. -/
def execCaptureSegmentSend (p : Nat) (s : State) : Host.Outcome State Fault Refusal :=
  s.onDev (Wf.captureSegmentSend p) (captureSegmentSend p)

/-- CREDIT_TIMEOUT (R359): more than 1 ms without credit loses the capture on the port. -/
def execCreditTimeout (p : Nat) (s : State) : Host.Outcome State Fault Refusal :=
  s.onDev (Wf.creditTimeout p) (fun d =>
    match (d.port p).creditWait with
    | none => d
    | some t => (d.advTo (t + 800000)).loseCaptures p 1)

/-- RETRY (R354): frames from a SEQ on are replayed where they are still held; else a RETRY violation, and the frames
asked for are counted as lost. On Peust 2 and 3 the type is reserved (R347). -/
def retryReceived (p seq : Nat) (d : Dev) : Dev :=
  if d.pstate p ≠ psActive then d
  else if d.version p ≠ 1 then d.violation p 6 0 true
  else
    let sent := (d.port p).sent
    let held := sent.drop (sent.length - 64)
    if held.any (fun e => e.1 == seq) then d.each (held.dropWhile (fun e => e.1 != seq)) (fun d e => d.emit (.frame p e.2.2))
    else
      let asked := sent.dropWhile (fun e => e.1 != seq)
      let d := d.violation p 10 seq true
      let d := d.bumpBy (PL_TX_CNT_RECORDS_LOST p) (asked.filter (fun e => !e.2.1)).length
      d.bumpBy (PL_TX_CNT_CAPTURES_LOST p) (if asked.any (fun e => e.2.1) then 1 else 0)

/-- RETRY. -/
def execRetry (p seq : Nat) (s : State) : Host.Outcome State Fault Refusal := s.onDev (Wf.retry p seq) (retryReceived p seq)

/-! ## Registers of a port (R368, R371, R372, R377) -/

/-- LOG_POP (R368). -/
def execLogPop (p : Nat) (s : State) : Host.Outcome State Fault Refusal :=
  s.onDev (Wf.logPop p) (fun d => d.when d.ready (fun d => d.setPort p { d.port p with log := (d.port p).log.tail }))

/-- PL_COUNT_CLEAR (R377): the port's counters. -/
def execPlCountClear (p : Nat) (s : State) : Host.Outcome State Fault Refusal :=
  s.onDev (Wf.plCountClear p) (fun d => d.when d.ready (fun d =>
    let d := d.clearFlds [PL_STATUS_LINK_DROPS p, PL_RX_CNT_LATE_FRAMES p, PL_RX_CNT_FRAMES p, PL_FEC_UNCORRECTABLE p, PL_FEC_CORRECTED p,
      PL_TX_CNT_CAPTURES_LOST p, PL_TX_CNT_RECORDS_LOST p, PL_TX_CNT_RECORDS_SENT p, PL_CREDIT_STALL_BLOCKS p, PL_EVENT_INFO_LOG_LOST p]
    let d := d.each (upTo 10) (fun d c => d.clearFld (PL_VIOL_CNT_COUNT p (c + 1)))
    d.each (upTo 4) (fun d l => d.clearFlds [PL_LANE_STAT_PRBS_ERRORS p l, PL_LANE_STAT_CORRECTED_BITS p l])))

/-- R371: a test setting is in force. -/
def Dev.testOn (d : Dev) (p : Nat) : Bool :=
  d.fget (PL_CTRL_LOOPBACK p) != 0 ||
    (upTo 4).any (fun l => d.fget (PL_LANE_PRBS_TX_PATTERN p l) != 0 || d.fget (PL_LANE_PRBS_RX_PATTERN p l) != 0)

/-- R371: writes of test settings are accepted. -/
def Dev.testAllowed (d : Dev) (p : Nat) : Bool :=
  d.role p == roleOff || d.runState == stIdle || d.runState == stLoaded || d.runState == stDrained

/-- R361, R371, R374: a port that is OFF no more starts: in TEST with a test setting in force, in DOWN while its laser is lost (DEDUCED,
log entry 152), else in DETECT. -/
def Dev.startPort (d : Dev) (p : Nat) : Dev :=
  if d.testOn p then d.goState p psTest
  else if d.laserLost p then d.portDown p (d.pstate p) 4
  else d.startSet p false
/-- R369, R371: the port enters TEST with its first test setting, unless it is OFF or quarantined, and returns to DETECT with its
last. -/
def Dev.followTest (d : Dev) (p : Nat) : Dev :=
  if d.testOn p then (if d.pstate p = psTest ∨ d.pstate p = psOff ∨ d.pstate p = psQuarantine then d else d.goState p psTest)
  else if d.pstate p = psTest then (d.leaveTest p).startPort p
  else d

/-- TEST_SETTING_WRITE (R371, R373): lane 0 to 3 is a write of the lane's pattern register, 4 of LOOPBACK. The injection
rate is no test setting. -/
def testSettingWrite (p lane v : Nat) (d : Dev) : Dev :=
  if !d.ready then d
  else
    let d := if lane < 4 then d.fset (PL_LANE_PRBS_INJECT_RATE_LOG2 p lane) (bitsOf v 8 5) else d
    if !d.testAllowed p then d
    else if lane < 4 then
      (d.fsets [(PL_LANE_PRBS_INVERT p lane, bitsOf v 7 1), (PL_LANE_PRBS_RX_PATTERN p lane, bitsOf v 4 3),
        (PL_LANE_PRBS_TX_PATTERN p lane, bitsOf v 0 3), (PL_LANE_PRBS_RX_LOCK p lane, 0)]).followTest p
    else (d.fset (PL_CTRL_LOOPBACK p) (bitsOf v 3 2)).followTest p

/-- TEST_SETTING_WRITE. -/
def execTestSettingWrite (p lane v : Nat) (s : State) : Host.Outcome State Fault Refusal :=
  s.onDev (Wf.testSettingWrite p lane v) (testSettingWrite p lane v)

/-- R371, R390: the test patterns. -/
inductive Prbs where
  | prbs7
  | prbs9
  | prbs13
  | prbs13q
  | prbs15
  | prbs31
  | prbs31q
  deriving DecidableEq, Repr, Inhabited

/-- R371, R390: the pattern of a pattern field on NRZ or PAM4 signalling; none for 0, nor for the reserved 7. -/
def prbsOf (nrz : Bool) (n : Nat) : Option Prbs :=
  if n = 1 then some .prbs7 else if n = 2 then some .prbs9 else if n = 3 then some (if nrz then .prbs13 else .prbs13q)
  else if n = 4 then some .prbs15 else if n = 5 then some .prbs31 else if n = 6 then some (if nrz then .prbs31 else .prbs31q) else none

/-- What a transmit lane carries: no light, TRAIN words, RETRAIN_REQ, a pattern, IDLE blocks or words alone, the port's blocks or words
with IDLE and ALIGN between them, or the data its receive lane recovers. -/
inductive LaneData where
  | dark
  | train
  | retrainReq
  | pattern (k : Prbs) (inverted : Bool)
  | idle
  | traffic
  | recovered
  deriving DecidableEq, Repr, Inhabited

/-- R361 to R365, R369, R371, R373, R390: what transmit lane l of port p carries now. -/
def Dev.laneSends (d : Dev) (p l : Nat) : LaneData :=
  let st := d.pstate p
  let nrz := (d.port p).version == 1
  if !d.transmits p then .dark
  else if (d.port p).reqEnd.isSome then .retrainReq
  else if st = psDetect ∨ st = psNegotiate then .train
  else if st = psEqualise then .pattern (if nrz then .prbs31 else .prbs13q) false
  else if st = psTest then
    if d.fget (PL_CTRL_LOOPBACK p) = 3 then .recovered
    else match prbsOf nrz (d.fget (PL_LANE_PRBS_TX_PATTERN p l)) with
      | some k => .pattern k (d.flag (PL_LANE_PRBS_INVERT p l))
      | none => .idle
  else .traffic

/-- R373: the receivers of a port hear the port itself, through its engine (1) or inside the base die (2). -/
def Dev.hearsItself (d : Dev) (p : Nat) : Bool :=
  d.pstate p == psTest && (d.fget (PL_CTRL_LOOPBACK p) == 1 || d.fget (PL_CTRL_LOOPBACK p) == 2)

/-- R371, R390: INJECT_RATE_LOG2 flips the k-th bit that a transmit lane sends: one in every 2ⁿ, 1 to 9 acting as 10. -/
def Dev.flipsBit (d : Dev) (p l k : Nat) : Bool :=
  let n := d.fget (PL_LANE_PRBS_INJECT_RATE_LOG2 p l)
  let span := 2 ^ max 10 n
  d.transmits p && n != 0 && k % span == Config.injectAt p l (k / span) % span

/-- R371, R373, R390: the lane's checker sees its own pattern: from the partner, or, where the port hears itself, from its own lane. -/
def Dev.checkerSees (d : Dev) (p lane : Nat) : Bool :=
  match prbsOf ((d.port p).version == 1) (d.fget (PL_LANE_PRBS_RX_PATTERN p lane)) with
  | none => false
  | some k => !d.hearsItself p || d.laneSends p lane == .pattern k (d.flag (PL_LANE_PRBS_INVERT p lane))

/-- RX_LOCK (R371, R373): in TEST a lane's checker locks to its pattern and counts bit errors; in a near-end loopback what it checks is
the lane's own pattern. -/
def execRxLock (p lane errs : Nat) (s : State) : Host.Outcome State Fault Refusal :=
  s.onDev (Wf.rxLock p lane errs) (fun d =>
    if d.pstate p = psTest ∧ d.checkerSees p lane then
      (d.fset (PL_LANE_PRBS_RX_LOCK p lane) 1).bumpBy (PL_LANE_STAT_PRBS_ERRORS p lane) errs
    else d)

/-- SLIP (R372): in TEST the lane slips one bit or symbol. -/
def execSlip (p lane : Nat) (s : State) : Host.Outcome State Fault Refusal :=
  s.onDev (Wf.slip p lane) (fun d =>
    if d.ready && d.pstate p == psTest then d.fset (PL_LANE_SLIP_SLIP_TOTAL p lane) (d.fget (PL_LANE_SLIP_SLIP_TOTAL p lane) + 1) else d)

/-- INJECT_ONE (R371): in a state that transmits, one bit of the next block or word on the lane is flipped. -/
def execInjectOne (p lane : Nat) (s : State) : Host.Outcome State Fault Refusal :=
  s.onDev (Wf.injectOne p lane) (fun d => if d.ready && d.transmits p then d.emit (.laneFlip p lane) else d)

/-! ## Laser sources and margin (R374, R375) -/

/-- R374: a flag below a threshold, with 2% of hysteresis. -/
def laserFlag (was : Bool) (power threshold : Nat) : Bool := decide (power < threshold) || (was && decide (power * 100 < threshold * 102))

/-- The four ports of a laser source. -/
def laserPorts (k : Nat) : List Nat := [4 * k, 4 * k + 1, 4 * k + 2, 4 * k + 3]

/-- R369, R374: LOS takes the port down, unless it is OFF or quarantined. -/
def Dev.laserDown (d : Dev) (p : Nat) : Dev :=
  let st := d.pstate p
  let d := d.portLog p 13 0
  if st = psOff ∨ st = psQuarantine then d else d.portDown p st 4

/-- LASER_MEASURE (R374, R411). -/
def laserMeasure (k power : Nat) (d : Dev) : Dev :=
  let pw := min power 65535
  let warn := laserFlag (d.flag (PL_LASER_WARN k)) pw (d.fget (PL_LASER_WARN_UW k))
  let alarm := laserFlag (d.flag (PL_LASER_ALARM k)) pw (d.fget (PL_LASER_ALARM_UW k))
  let los := laserFlag (d.flag (PL_LASER_LOS k)) pw (d.fget (PL_LASER_LOS_UW k))
  let newWarn := warn && !d.flag (PL_LASER_WARN k)
  let newAlarm := alarm && !d.flag (PL_LASER_ALARM k)
  let newLos := los && !d.flag (PL_LASER_LOS k)
  let d := d.fsets [(PL_LASER_POWER_UW k, pw), (PL_LASER_WARN k, b2n warn), (PL_LASER_ALARM k, b2n alarm), (PL_LASER_LOS k, b2n los)]
  let d := d.each (laserPorts k) (fun d p => d.fset (PL_STATUS_LASER_ALARM p) (b2n alarm))
  let d := d.when newWarn (fun d => d.each (laserPorts k) (fun d p => d.portLog p 11 0))
  let d := d.when newAlarm (fun d => (d.each (laserPorts k) (fun d p => d.portLog p 12 0)).alert 11 0 0 (4 * k) 0 pw)
  let d := d.when newLos (fun d => (d.each (laserPorts k) Dev.laserDown).alert 11 0 0 (4 * k) 0 pw)
  if los || pw ≤ d.fget (PL_LASER_ALARM_UW k) then d
  else d.each (laserPorts k) (fun d p =>
    if d.pstate p = psDown ∧ d.fget (PL_STATUS_FAIL_CAUSE p) = 4 ∧ d.flag (PL_CFG_AUTO_RETRY p) ∧ d.mayTrain p then d.startSet p true else d)

/-- LASER_MEASURE. -/
def execLaserMeasure (k power : Nat) (s : State) : Host.Outcome State Fault Refusal :=
  s.onDev (Wf.laserMeasure k power) (laserMeasure k power)

/-- MARGIN_WARN (R375): the bits each lane's FEC corrected in the last 1 ms. -/
def marginWarn (p : Nat) (bits : List Nat) (d : Dev) : Dev :=
  if d.version p < 2 then d.fset (PL_STATUS_MARGIN_WARN p) 0
  else
    let d := d.each bits.zipIdx (fun d e => d.bumpBy (PL_LANE_STAT_CORRECTED_BITS p e.2) e.1)
    d.fset (PL_STATUS_MARGIN_WARN p) (b2n (bits.any (fun b => decide ((if d.version p = 3 then 1063 else 532) ≤ b))))

/-- MARGIN_WARN. -/
def execMarginWarn (p : Nat) (bits : List Nat) (s : State) : Host.Outcome State Fault Refusal :=
  s.onDev (Wf.marginWarn p bits) (marginWarn p bits)

/-! ## Power of an optical engine group (R361, R500, R502) -/

/-- The ports of an optical engine group. -/
def groupPorts (g : Nat) : List Nat := (upTo 8).map (fun i => 8 * g + i)

/-- OPTICAL_GROUP_ON (R500): 5 ms after the group is ON its ports with TRAIN_EN set enter DETECT. -/
def opticalGroupOn (g : Nat) (d : Dev) : Dev :=
  match pget d.pwr.groupsOn g with
  | none => d
  | some t =>
    let d := d.advTo (t + 4000000)
    let d := { d with pwr := { d.pwr with groupsOn := pdel g d.pwr.groupsOn } }
    d.each (groupPorts g) (fun d p => if d.pstate p = psOff ∧ d.portOn p then d.startPort p else d)

/-- OPTICAL_GROUP_ON. -/
def execOpticalGroupOn (g : Nat) (s : State) : Host.Outcome State Fault Refusal := s.onDev (Wf.opticalGroupOn g) (opticalGroupOn g)

/-- R376: after a write of PL_CFG: a port whose TRAIN_EN is clear is OFF; one whose TRAIN_EN is set while its group is
powered starts. -/
def Dev.followTrainEn (d : Dev) (p : Nat) : Dev :=
  if !d.flag (PL_CFG_TRAIN_EN p) then (if d.pstate p = psOff then d else d.goState p psOff)
  else if d.pstate p = psOff ∧ d.portOn p ∧ (pget d.pwr.groupsOn (p / 8)).isNone then d.startPort p
  else d

end Sys2Proof.Machine
end

