-- ==== Sys2Proof/Machine/Domains.lean ====
section
/-!
DEFINITION. The switched power domains (R498, R500 to R506): their states and contents, what each takes under its request
and the run, the voltage of a fabric domain, retention of memories (R224), and the failure of whole units.
-/

namespace Sys2Proof.Machine

open Sys2Proof

/-! ## States of a domain (R498, R519) -/

def dsOff : Nat := 0
def dsLow : Nat := 1
def dsOn : Nat := 2
def dsFailed : Nat := 3

/-- The state of domain k: 0 to 15 fabric, 16 to 19 vat dies, 20 to 27 optical groups, 28 LPDDR5X, 29 CXL. -/
def Dev.dom (d : Dev) (k : Nat) : Nat := d.fget (PWR_DOMAIN_STAT_STATE k)

/-- R502: the run is ARMED, RUNNING, SEGMENT_BREAK or QUIESCING. -/
def Dev.runLive (d : Dev) : Bool := decide (stArmed ≤ d.runState) && decide (d.runState ≤ stQuiescing)

/-- R502: the loaded image claims the domain. -/
def Dev.claimed (d : Dev) (k : Nat) : Bool := d.flag (PWR_DOMAIN_STAT_CLAIMED k)

/-- R502: the state AUTO gives a domain. -/
def Dev.autoState (d : Dev) (k : Nat) : Nat :=
  if k < 16 then (if d.claimed k && d.runLive then dsOn else dsLow)
  else if k < 20 then (if d.runLive then dsOn else dsLow)
  else if k < 28 then (if (groupPorts (k - 20)).any (fun p => d.flag (PL_CFG_TRAIN_EN p)) then dsOn else dsOff)
  else dsOn

/-- R224, R503: an ARM task waits for the memories it has woken. -/
def Dev.arming (d : Dev) : Bool := d.rce.waits.any (fun w => w.2.2 == .awake)

/-- R502, R503: the state a domain is to take: its request, but from ARM to DRAINED every memory the run needs is ON. -/
def Dev.wantedState (d : Dev) (k : Nat) : Nat :=
  let r := d.fget (PWR_DOMAIN_CTRL_REQ k)
  if (d.runLive || d.arming) && (if k < 16 then d.claimed k else decide (k < 20)) then dsOn
  else if r = 3 then d.autoState k
  else r

/-! ## The voltage of a fabric domain (R505, R506) -/

/-- R506: the ceiling in force. -/
def Dev.vmax (d : Dev) : Nat := max 600 (min 850 (d.fget PWR_AVC_CFG_VMAX_MV))
/-- R506: the floor in force: the image's where it claims the domain, else 600 mV. -/
def Dev.vfloor (d : Dev) (k : Nat) : Nat := if d.claimed k then d.fget (PWR_DOMAIN_STAT_FLOOR_MV k) else 600
/-- R506: a voltage held in range. -/
def Dev.vbound (d : Dev) (k v : Nat) : Nat := min d.vmax (max (d.vfloor k) v)
/-- R505, R515: the controller's mode; 3 acts as HOLD. -/
def Dev.avcMode (d : Dev) : Nat := min (d.fget PWR_AVC_CFG_MODE) 2
/-- The set point of a domain. -/
def Dev.volt (d : Dev) (k : Nat) : Nat := d.fget (PWR_DOMAIN_STAT_V_MV k)

/-- R506: the voltage of a fabric domain in ON follows FIXED and its range; while WARN is set nothing lowers it. -/
def Dev.trimVolt (d : Dev) (k : Nat) : Dev :=
  if d.dom k != dsOn then d
  else
    let v := d.vbound k (if d.avcMode = 1 then d.fget (PWR_DOMAIN_CTRL_FIXED_MV k) else d.volt k)
    if v < d.volt k ∧ d.flag PWR_STATUS_WARN then d else d.fset (PWR_DOMAIN_STAT_V_MV k) v

/-- R506: every fabric domain's voltage follows. -/
def Dev.trimVolts (d : Dev) : Dev := d.each (upTo 16) Dev.trimVolt

/-! ## Contents (R203, R224, R503) -/

/-- R225: the units of a fabric domain that have memories: tiles, VUs, MUs and the spare VUs. -/
def domainUnits (k : Nat) : List Nat :=
  (domainBlocks k).flatMap (fun b => (upTo 17).map (tileId b) ++ [unitId 1 b 0, unitId 1 b 1, unitId 2 b 0]) ++ [unitId 7 k 0, unitId 7 k 1]

/-- The MU contents and weight stores of a fabric domain are lost. -/
def Dev.eraseFabric (d : Dev) (k : Nat) : Dev :=
  (d.each (domainBlocks k) (fun d b => d.zeroSpan (blkMem b) 0x200000)).zeroSpan (spareStoreBase + 0x20000 * k) 0x20000

/-- R203: the usable bank groups, as 64 × die + group. -/
def Dev.usableGroups (d : Dev) : List Nat := (upTo 256).filter (fun g => !bitAt (d.rget (VAT_DIE_FAIL (g / 64))).toNat (g % 64))
/-- R203: vat word v lies in one of the usable bank groups, consecutive words in consecutive groups. -/
def Dev.groupOfWord (d : Dev) (v : Nat) : Nat :=
  let l := d.usableGroups
  l.getD (v % max 1 l.length) 0
/-- R203: the number of usable words. -/
def Dev.vatWords (d : Dev) : Nat := 131072 * d.usableGroups.length

/-- The words of the vat that lie in a die are lost. -/
def Dev.eraseDie (d : Dev) (k : Nat) : Dev :=
  { d with mem := d.mem.filter (fun e =>
      !(decide (vatBase ≤ e.1) && decide (e.1 < vatBase + 0x80000000) && d.groupOfWord ((e.1 - vatBase) / 64) / 64 == k)) }

/-- R227: bank groups are removed from service and V falls; each loss enters the ledger. -/
def Dev.removeGroup (d : Dev) (g : Nat) : Dev :=
  let off := VAT_DIE_FAIL (g / 64)
  let d := (d.rset off (d.rget off ||| BitVec.ofNat 64 (2 ^ (g % 64)))).selfReport 0x12 (0xF00000 + g % 64 * 0x1000 + g / 64) 0
  d.fset VAT_STATUS_USABLE_WORDS d.vatWords

/-! ## Moving a domain (R498, R500, R503) -/

/-- R89, R498, R503: DOMAIN_UP of a fabric domain: powered, and none of its memories still to march. -/
def Dev.showUp (d : Dev) (k : Nat) : Dev :=
  let up := (d.dom k == dsLow || d.dom k == dsOn) && (domainUnits k).all (fun u => !d.pwr.needMarch.contains u)
  d.fset FAB_STATUS_DOMAIN_UP (setBits (d.fget FAB_STATUS_DOMAIN_UP) k 1 (b2n up))

/-- The MU status of a domain's blocks shows retention (R228). -/
def Dev.retain (d : Dev) (k : Nat) (v : Bool) : Dev :=
  d.each (domainBlocks k) (fun d b => d.fset (BLK_MU_STATUS_RETAINED b) (b2n v))

/-- A fabric domain takes a state; out of LOW its memories stay in retention until their wake completes (R224). -/
def Dev.setFabric (d : Dev) (k st : Nat) : Dev :=
  let d := if st = dsOff ∨ st = dsFailed then
      let d := d.eraseFabric k
      { d with pwr := { d.pwr with needMarch := d.pwr.needMarch ++ (domainUnits k).filter (fun u => !d.pwr.needMarch.contains u) } }
    else d
  let v := if st = dsOn then d.vbound k (d.fget PWR_AVC_CFG_START_MV) else if st = dsLow then 550 else 0
  let d := (d.fsets [(PWR_DOMAIN_STAT_STATE k, st), (PWR_DOMAIN_STAT_V_MV k, v)]).showUp k
  let d := d.when (st == dsOff || st == dsFailed) (fun d => d.fset (FAB_TURN_MON_TURN_RATE k) 0)
  (if st = dsOn then d else d.retain k (st == dsLow)).trimVolt k

/-- A vat die takes a state (R224, R235); it is awake once its wake has completed. -/
def Dev.setDie (d : Dev) (k st : Nat) : Dev :=
  let d := if st = dsOff ∨ st = dsFailed then d.eraseDie k else d
  d.fsets [(PWR_DOMAIN_STAT_STATE (16 + k), st), (PWR_DOMAIN_STAT_V_MV (16 + k), if st = dsOff ∨ st = dsFailed then 0 else Config.railMv (16 + k)),
    (VAT_STATUS_DIE_AWAKE, setBits (d.fget VAT_STATUS_DIE_AWAKE) k 1 0),
    (VAT_STATUS_DIE_RETAINED, setBits (d.fget VAT_STATUS_DIE_RETAINED) k 1
      (if st = dsLow then 1 else if st = dsOn then b2n (bitAt (d.fget VAT_STATUS_DIE_RETAINED) k) else 0))]

/-- An optical engine group takes a state: ports of a group turned off are OFF, of a failed one DOWN (R504). -/
def Dev.setOptical (d : Dev) (g st : Nat) : Dev :=
  let d := d.fsets [(PWR_DOMAIN_STAT_STATE (20 + g), st), (PWR_DOMAIN_STAT_V_MV (20 + g), if st = dsOn then Config.railMv (20 + g) else 0)]
  if st = dsOn then { d with pwr := { d.pwr with groupsOn := pput g d.tick d.pwr.groupsOn } }
  else
    let d := { d with pwr := { d.pwr with groupsOn := pdel g d.pwr.groupsOn } }
    d.each (groupPorts g) (fun d p =>
      if st = dsFailed then (if d.pstate p = psOff then d else d.portDown p (d.pstate p) 0)
      else if d.pstate p = psOff then d else d.goState p psOff)

/-- Another domain takes a state: LPDDR5X in LOW is in self-refresh (R498, R220). -/
def Dev.setOther (d : Dev) (k st : Nat) : Dev :=
  let d := d.fsets [(PWR_DOMAIN_STAT_STATE k, st), (PWR_DOMAIN_STAT_V_MV k, if st = dsOff ∨ st = dsFailed then 0 else Config.railMv k)]
  let d := if k = 28 ∧ st = dsOff then d.zeroSpan 0 lpSize else d
  if k = 28 then d.fset LPX_STATUS_SELF_REFRESH (b2n (st == dsLow)) else d

/-- R224: every memory that a run needs is awake: those of the claimed domains, and the four vat dies. -/
def Dev.allAwake (d : Dev) : Bool :=
  d.fget VAT_STATUS_DIE_AWAKE == 15 && (upTo 16).all (fun k => !d.claimed k ||
    (d.dom k == dsOn && (domainBlocks k).all (fun b => !d.flag (BLK_MU_STATUS_RETAINED b))))

/-- R224: the memories of domain k (16 + j: of vat die j) are awake. -/
def Dev.wake (d : Dev) (k : Nat) : Dev :=
  if d.dom k != dsOn then d
  else if k < 16 then d.retain k false
  else d.fsets [(VAT_STATUS_DIE_AWAKE, setBits (d.fget VAT_STATUS_DIE_AWAKE) (k - 16) 1 1),
    (VAT_STATUS_DIE_RETAINED, setBits (d.fget VAT_STATUS_DIE_RETAINED) (k - 16) 1 0)]

/-- A domain takes a state. -/
def Dev.setDomain (d : Dev) (k st : Nat) : Dev :=
  if d.dom k = st then d
  else if k < 16 then d.setFabric k st
  else if k < 20 then d.setDie (k - 16) st
  else if k < 28 then d.setOptical (k - 20) st
  else d.setOther k st

/-- R500, R502, R504, R511: once the boot march has completed, a domain that has not failed takes its state; after a trip
the fabric domains, vat dies and optical groups stay OFF. -/
def Dev.domainFollows (d : Dev) (k : Nat) : Dev :=
  if d.pwr.up && d.dom k != dsFailed && !(d.flag PWR_STATUS_TRIPPED && decide (k < 28)) then d.setDomain k (d.wantedState k) else d

/-- Every domain follows its request and the run. -/
def Dev.domainsFollow (d : Dev) : Dev := d.each (upTo 30) Dev.domainFollows

/-! ## Failure of units (R118, R158, R199, R449, R451) -/

/-- The unit is used by the loaded image: its configuration is loaded, and it serves a place. -/
def Dev.unitUsed (d : Dev) (u : Nat) : Bool :=
  let b := unitWhere u
  match unitClass u with
  | 0 => (d.logTile b (unitIndex u)).isSome && d.flag (BLK_TILE_CFG_LOADED b (unitIndex u))
  | 1 => (d.vuPlace u).isSome && d.flag (BLK_VU_CFG_LOADED (vuWindow u))
  | 2 => d.flag (BLK_MU_STATUS_LOADED b)
  | 7 => (d.vuPlace u).isSome && d.flag (BLK_VU_CFG_LOADED (vuWindow u))
  | _ => false

/-- The hard kind of a unit (R438). -/
def hardKind (u : Nat) : Nat :=
  match unitClass u with
  | 0 => 6
  | 1 => 8
  | 2 => 0xA
  | 7 => 8
  | _ => 2

/-- The ESQ a unit is working on. -/
def Dev.unitEsq (d : Dev) (u : Nat) : Nat :=
  match unitClass u with
  | 0 => d.fget (BLK_TILE_STATE_FIRE_ESQ (unitWhere u) (unitIndex u))
  | 1 => d.fget (BLK_VU_STATE_CYCLE_ESQ (vuWindow u))
  | 7 => d.fget (BLK_VU_STATE_CYCLE_ESQ (vuWindow u))
  | 2 => let a := (pget d.fab.agus (2 * unitWhere u)).getD {}; if a.op = 0 then ((pget d.fab.agus (2 * unitWhere u + 1)).getD {}).esq else a.esq
  | _ => 0

/-- A unit's register shows FAILED, and a spare VU's domain shows it (R92). -/
def Dev.showFailed (d : Dev) (u : Nat) : Dev :=
  match unitClass u with
  | 0 => d.fset (BLK_TILE_STATE_FAILED (unitWhere u) (unitIndex u)) 1
  | 1 => d.fset (BLK_VU_STATE_FAILED (vuWindow u)) 1
  | 7 => (d.fset (BLK_VU_STATE_FAILED (vuWindow u)) 1).fset
      (if unitIndex u = 0 then FAB_DOMAIN_SPARE_SPARE0_FAILED (unitWhere u) else FAB_DOMAIN_SPARE_SPARE1_FAILED (unitWhere u)) 1
  | 2 => d.fset (BLK_MU_STATUS_FAILED (unitWhere u)) 1
  | _ => d

/-- R92: the spares of a domain. -/
def Dev.showSpare (d : Dev) (k : Nat) : Dev :=
  let used (v : Nat) : Nat := b2n ((domainBlocks k).any (fun b => d.vuSel b 0 == v + 1 || d.vuSel b 1 == v + 1))
  let free := ((domainBlocks k).filter (fun b => !d.flag (BLK_TILE_SPARE_ENABLE b) && !d.fab.failed.contains (tileId b 16))).length
  d.fsets [(FAB_DOMAIN_SPARE_SPARE0_USED k, used 0), (FAB_DOMAIN_SPARE_SPARE1_USED k, used 1),
    (FAB_DOMAIN_SPARE_SPARE0_FAILED k, b2n (d.fab.failed.contains (unitId 7 k 0))),
    (FAB_DOMAIN_SPARE_SPARE1_FAILED k, b2n (d.fab.failed.contains (unitId 7 k 1))), (FAB_DOMAIN_SPARE_FREE_TILE_SPARES k, free)]

/-- A unit that no figure uses is lost: its register shows it, it is marked, and a spare counts no more (R92). -/
def Dev.loseUnused (d : Dev) (u : Nat) : Dev :=
  let d := (d.showFailed u).markFailed u
  if unitClass u = 0 then d.showSpare (domainOf (unitWhere u)) else if unitClass u = 7 then d.showSpare (unitWhere u) else d

/-- A unit fails: with a notice and a break where a figure uses it, else it is only marked. -/
def Dev.failUnit (d : Dev) (u : Nat) : Dev :=
  if d.fab.failed.contains u then d
  else
    if d.unitUsed u then (d.showFailed u).hardFault u (hardKind u) (d.unitEsq u) else d.loseUnused u

end Sys2Proof.Machine
end

