-- ==== Sys2Proof/Machine/Flags.lean ====
section
/-!
DEFINITION. What a tile writes into its predicates: the compare conditions (R109, R110), the truth table of PLOG and
the pulse of CSTEP (R112). A tile has no condition flags (R98).
-/

namespace Sys2Proof.Machine

open Sys2Proof

/-- R109: a compare condition of two words, in opcode order EQ, NE, LT, GE, LTU, GEU. -/
def condHolds (cc : Cond) (a b : Word) : Bool :=
  match cc with
  | .eq => a == b
  | .ne => a != b
  | .lt => BitVec.slt a b
  | .ge => !BitVec.slt a b
  | .ltu => BitVec.ult a b
  | .geu => !BitVec.ult a b

/-- The place of a condition in opcode order. -/
def condNum : Cond → Nat
  | .eq => 0
  | .ne => 1
  | .lt => 2
  | .ge => 3
  | .ltu => 4
  | .geu => 5

/-- R110: CMPI sign-extends its immediate for EQ, NE, LT and GE, and zero-extends it for LTU and GEU. -/
def cmpImm (cc : Cond) (imm : Nat) : Word :=
  match cc with
  | .ltu => (BitVec.ofNat 14 imm).setWidth 32
  | .geu => (BitVec.ofNat 14 imm).setWidth 32
  | _ => (BitVec.ofNat 14 imm).signExtend 32

/-- R109: PLOG reads bit 2 × p[pa] + p[pb] of the truth table. -/
def plogValue (fn : Nat) (pa pb : Bool) : Bool :=
  (fn >>> (2 * (if pa then 1 else 0) + (if pb then 1 else 0))) % 2 == 1

/-- R112: CSTEP's new counter and predicate. -/
def cstepValue (count reload : Nat) : Nat × Bool :=
  if count ≤ 1 then (reload, true) else (count - 1, false)

end Sys2Proof.Machine
end

