-- ==== Sys2Proof/Machine/Operands.lean ====
section
/-!
DEFINITION. The operands of a tile instruction: the tile's registers, predicates, counters, reload values and LUT in
the layout of its BLK_ registers (R124 to R134), the words of the instruction formats (R107, R108), and parity of the
tile's storage (R116).
-/

namespace Sys2Proof.Machine

open Sys2Proof

/-! ## Storage -/

/-- R116: locations with bad parity, each with the reads that have failed since it was last written. -/
def Dev.badLocs (d : Dev) (u : Nat) : List (Nat × Nat) := pgetD d.fab.badLocs u []
/-- Set the bad locations of a unit. -/
def Dev.setBad (d : Dev) (u : Nat) (l : List (Nat × Nat)) : Dev :=
  { d with fab := { d.fab with badLocs := if l = [] then pdel u d.fab.badLocs else pput u l d.fab.badLocs } }
/-- R116: a location reads zero while its parity is wrong. -/
def Dev.isBad (d : Dev) (u loc : Nat) : Bool := (d.badLocs u).any (fun e => e.1 == loc)
/-- Locations lose their parity. -/
def Dev.upset (d : Dev) (u : Nat) (ls : List Nat) : Dev :=
  if ls = [] then d else d.setBad u (ls.foldl (fun l k => if l.any (fun e => e.1 == k) then l else l ++ [(k, 0)]) (d.badLocs u))
/-- R116: a write mends the locations it writes. -/
def Dev.mend (d : Dev) (u : Nat) (ls : List Nat) : Dev :=
  if d.badLocs u = [] then d else d.setBad u ((d.badLocs u).filter (fun e => !ls.contains e.1))

/-- Register gi. -/
def Dev.g (d : Dev) (c : Tc) (i : Nat) : Word :=
  if d.isBad (tileId c.b c.t) i then 0#32 else BitVec.ofNat 32 (d.fget (BLK_TILE_GREG_VALUE c.b c.t i))
/-- Write register gi. -/
def Dev.setG (d : Dev) (c : Tc) (i : Nat) (v : Word) : Dev := d.fset (BLK_TILE_GREG_VALUE c.b c.t i) v.toNat
/-- Predicate pk. -/
def Dev.p (d : Dev) (c : Tc) (k : Nat) : Bool := bitAt (d.fget (BLK_TILE_STATE_PRED c.b c.t)) k
/-- Write predicate pk. -/
def Dev.setP (d : Dev) (c : Tc) (k : Nat) (v : Bool) : Dev :=
  d.fset (BLK_TILE_STATE_PRED c.b c.t) (setBits (d.fget (BLK_TILE_STATE_PRED c.b c.t)) k 1 (b2n v))
/-- The field of counter ck. -/
def cntFld (c : Tc) (k : Nat) : Fld := ⟨BLK_TILE_COUNTERS c.b c.t, 16 * k, 16⟩
/-- The field of the reload value of ck. -/
def reloadFld (c : Tc) (k : Nat) : Fld := ⟨BLK_TILE_CRELOAD c.b c.t, 16 * k, 16⟩
/-- The field of LUT entry j. -/
def lutFld (c : Tc) (j : Nat) : Fld := ⟨BLK_TILE_LUT c.b c.t (j / 4), 16 * (j % 4), 16⟩
/-- Counter ck. -/
def Dev.cnt (d : Dev) (c : Tc) (k : Nat) : Nat := if d.isBad (tileId c.b c.t) (20 + k) then 0 else d.fget (cntFld c k)
/-- Write counter ck. -/
def Dev.setCnt (d : Dev) (c : Tc) (k v : Nat) : Dev := d.fset (cntFld c k) v
/-- The reload value of ck. -/
def Dev.reload (d : Dev) (c : Tc) (k : Nat) : Nat := if d.isBad (tileId c.b c.t) (24 + k) then 0 else d.fget (reloadFld c k)
/-- LUT entry j. -/
def Dev.lutAt (d : Dev) (c : Tc) (j : Nat) : Nat := if d.isBad (tileId c.b c.t) (32 + j) then 0 else d.fget (lutFld c j)
/-- Write LUT entry j. -/
def Dev.setLut (d : Dev) (c : Tc) (j v : Nat) : Dev := d.fset (lutFld c j) v
/-- The instruction word at an address (R133). -/
def Dev.imem (d : Dev) (c : Tc) (pc : Nat) : Nat :=
  d.fget (if pc % 2 = 0 then BLK_TILE_IMEM_EVEN c.b c.t (pc / 2) else BLK_TILE_IMEM_ODD c.b c.t (pc / 2))

/-! ## Ports (R77, R100) -/

/-- Output port k of a logical tile: out0 to out3 and, for 4, ctl-out, as (network, source). -/
def tileOut (l k : Nat) : Nat × Nat := if k < 4 then (0, 16 + 4 * l + k) else (2, 12 + l)

/-! ## Instruction words (R107, R108) -/

/-- R107: bits [31:28] of a word. -/
def guardBits (g : Guard) : Nat := if g.ge then (b2n g.gn * 8 + 4 + g.gp) * 2 ^ 28 else 0
/-- Format R. -/
def encR (g : Guard) (op rd ra rb ps : Nat) : Nat :=
  guardBits g + op * 2 ^ 22 + rd * 2 ^ 18 + ra * 2 ^ 14 + rb * 2 ^ 10 + ps * 2 ^ 8
/-- Format I. -/
def encI (g : Guard) (op rd ra imm : Nat) : Nat := guardBits g + op * 2 ^ 22 + rd * 2 ^ 18 + ra * 2 ^ 14 + imm
/-- Format M. -/
def encM (g : Guard) (op rd imm : Nat) : Nat := guardBits g + op * 2 ^ 22 + rd * 2 ^ 18 + imm
/-- Format F. -/
def encF (g : Guard) (op rd ra pos len : Nat) : Nat :=
  guardBits g + op * 2 ^ 22 + rd * 2 ^ 18 + ra * 2 ^ 14 + pos * 2 ^ 9 + (len - 1) * 2 ^ 4
/-- Format K and P, and the control-transfer words: a counter in [21:20], a predicate in [19:18], the rest below. -/
def encK (g : Guard) (op hi mid low : Nat) : Nat := guardBits g + op * 2 ^ 22 + hi * 2 ^ 20 + mid * 2 ^ 18 + low

end Sys2Proof.Machine
end

