-- ==== Sys2Proof/Machine/Tile.lean ====
section
/-!
DEFINITION. The lattice tiles (chapter 3): firing (R100 to R106), the sequencer that issues one instruction (R104,
R107, R116, R117), and the meaning of every tile instruction (R109 to R114).
-/

namespace Sys2Proof.Machine

open Sys2Proof

/-! ## Descriptors and used inputs -/

/-- R106: the ports named by any valid descriptor. -/
def Dev.tileInputs (d : Dev) (c : Tc) : List Nat :=
  (upTo 5).filter (fun k => (upTo 4).any (fun f => d.descValid c f && bitAt (d.descMask c f) k))
/-- R101: the next valid descriptor after f, wrapping. -/
def Dev.nextDesc (d : Dev) (c : Tc) (f : Nat) : Nat :=
  (((upTo 4).map (fun k => (f + 1 + k) % 4)).find? (fun k => d.descValid c k)).getD f
/-- The tile's firing ESQ. -/
def Dev.fireEsq (d : Dev) (c : Tc) : Nat := d.fget (BLK_TILE_STATE_FIRE_ESQ c.b c.t)
/-- The firing in progress. -/
def Dev.firing (d : Dev) (c : Tc) : Firing := (pget d.fab.firings (tileId c.b c.t)).getD {}
/-- Record the firing in progress. -/
def Dev.setFiring (d : Dev) (c : Tc) (f : Firing) : Dev :=
  { d with fab := { d.fab with firings := pput (tileId c.b c.t) f d.fab.firings } }
/-- R477: the tile works for some turns. -/
def Dev.busy (d : Dev) (b k turns : Nat) : Dev := d.when (!d.frozen) (fun d => d.bumpBy (BLK_UNIT_BUSY_BUSY_TURNS b k) turns)

/-- R103, R434: TAG_MISMATCH notices, one for each distinct ESQ, naming the origin of the route into an input. -/
def Dev.tagMismatch (d : Dev) (reporter suspect : Nat) (esqs : List Nat) : Dev :=
  d.each esqs.eraseDups (fun d e => d.notice 3 suspect reporter e)

/-! ## Firing start (R101 to R103) -/

/-- The tile takes the head token of one of its ports. -/
def Dev.popPort (d : Dev) (c : Tc) (l k : Nat) : Dev := (d.popSink (tileQ c.b l k)).noteReady c l

/-- R106: a FLUSH stands at the head of a used input. -/
def Dev.flushSeen (d : Dev) (c : Tc) (l : Nat) : Bool :=
  (d.tileInputs c).any (fun k => ((d.headOf (tileQ c.b l k)).map (fun t => t.kind == TokKind.flush)).getD false)

/-- R103: the firing starts: the firing ESQ, the notices of unequal heads, the program counter. -/
def fireNow (c : Tc) (l f : Nat) (heads : List (Nat × Token)) (d : Dev) : Dev :=
  let esqs := heads.map (fun e => e.2.esq)
  let esq := esqs.headD 0
  let d := match heads.find? (fun e => e.2.esq != esq) with
    | none => d
    | some e =>
      let i := tileIn l e.1
      (d.tagMismatch (tileId c.b c.t) (d.origin c.b i.1 i.2) esqs).bump (BLK_TILE_ERR_TAG_MISMATCH c.b c.t)
  let d := d.fsets [(BLK_TILE_STATE_FIRE_ESQ c.b c.t, esq), (BLK_TILE_STATE_PC c.b c.t, d.fget (BLK_TILE_FIRE_START c.b c.t f)),
    (BLK_TILE_STATE_FIRING c.b c.t, 1)]
  (d.setFiring c ⟨Fin.ofNat 4 f, 0, 0⟩).busy c.b c.t 2

/-- R85, R101, R102: a ready descriptor may fire: it is at the current position; in ready order it became ready first, or the
arbiter resolved it against a request at most 40 ps away. -/
def Dev.mayFire (d : Dev) (c : Tc) (l f : Nat) (gap : Option Nat) : Bool :=
  if d.flag (BLK_TILE_CFG_READY_ORDER c.b c.t) then
    (gap.map (fun g => decide (g ≤ 40))).getD false || (d.readyNow c l).head? == some f
  else d.fget (BLK_TILE_STATE_NEXT_DESC c.b c.t) == f

/-- R101, R102: descriptor f starts a firing where the tile is at rest, no used input shows FLUSH, the descriptor may fire and
all its heads are present. -/
def tileFiringStart (c : Tc) (f : Nat) (gap : Option Nat) (d : Dev) : Dev :=
  match d.logTile c.b c.t with
  | none => d
  | some l =>
    if !d.powered c.b || !d.flag (BLK_TILE_CFG_LOADED c.b c.t) || d.flag (BLK_TILE_STATE_FAILED c.b c.t) || d.flag (BLK_TILE_STATE_FIRING c.b c.t)
        || d.flushSeen c l || d.flag (BLK_TILE_STATE_FLUSHING c.b c.t) || !d.descValid c f || !d.mayFire c l f gap then d
    else match d.descHeads c l f with
      | none => d
      | some heads =>
        let raced := d.flag (BLK_TILE_CFG_READY_ORDER c.b c.t) &&
          (upTo 4).any (fun k => k != f && d.descValid c k && (d.descHeads c l k).isSome)
        let d := if raced then d.tieDetect gap ((heads.map (fun e => e.2.esq)).headD 0) true else d
        fireNow c l f heads d

/-- TILE_FIRING_START. -/
def execTileFiringStart (b t f : Nat) (gap : Option Nat) (s : State) : Host.Outcome State Fault Refusal :=
  s.onDev (Wf.tileFiringStart b t f gap) (tileFiringStart ⟨b, t⟩ f gap)

/-! ## The end of a firing -/

/-- R101: the position moves to the next valid descriptor; in ready order there is none. -/
def Dev.movePosition (d : Dev) (c : Tc) : Dev :=
  d.when (!d.flag (BLK_TILE_CFG_READY_ORDER c.b c.t)) (fun d =>
    d.fset (BLK_TILE_STATE_NEXT_DESC c.b c.t) (d.nextDesc c (d.firing c).desc))

/-- The firing is over. -/
def Dev.stopFiring (d : Dev) (c : Tc) : Dev :=
  { d.fset (BLK_TILE_STATE_FIRING c.b c.t) 0 with fab := { (d.fset (BLK_TILE_STATE_FIRING c.b c.t) 0).fab with
      firings := pdel (tileId c.b c.t) d.fab.firings } }

/-- R105: END consumes the trigger tokens not received, and completes the firing. -/
def tileEnd (c : Tc) (l : Nat) (d : Dev) : Dev :=
  let fr := d.firing c
  let left := (onesOf 5 (d.descMask c fr.desc)).filter (fun k => !bitAt fr.received k)
  let d := d.each left (fun d k => d.popPort c l k)
  ((d.movePosition c).stopFiring c).bump (BLK_TILE_FIRINGS_FIRINGS c.b c.t)

/-- R104: the limit of instructions or of addresses is met: the firing ends as END does, with FIRE_OVERRUN. -/
def tileOverrun (c : Tc) (l : Nat) (d : Dev) : Dev :=
  let u := tileId c.b c.t
  ((tileEnd c l d).notice 5 u u (d.fireEsq c)).bump (BLK_TILE_ERR_OVERRUN c.b c.t)

/-- R106: a RECV met FLUSH: the firing ends at once, not as END does: its unreceived trigger tokens stay, and so does the
descriptor position. -/
def tileAbort (c : Tc) (d : Dev) : Dev :=
  ((d.stopFiring c).bump (BLK_TILE_FLUSH_CNT_FLUSH_ABORT c.b c.t)).fset (BLK_TILE_STATE_FLUSHING c.b c.t) 1

/-- R116, R117: a hard fault in the tile: it stops, FAILED is set, TILE_HARD is sent and a break requested. -/
def tileHard (c : Tc) (d : Dev) : Dev :=
  ((d.fset (BLK_TILE_STATE_FAILED c.b c.t) 1).stopFiring c).hardFault (tileId c.b c.t) 6 (d.fireEsq c)

/-! ## Issue of one instruction -/

/-- Where the sequencer goes after an instruction. -/
inductive TileNext where
  | seq
  | jump (target : Nat)
  | ends
  | aborts
  deriving DecidableEq, Repr

/-- What an instruction does beyond its issue: its turns (R109), the storage it reads and writes (R116), whether it can
complete or waits by handshake, and its effect. -/
structure TileOp where
  turns : Nat := 1
  reads : Dev → List Nat := fun _ => []
  writes : Dev → List Nat := fun _ => []
  can : Nat → Dev → Bool := fun _ _ => true
  run : Nat → Dev → Dev × TileNext

/-- R116: one read of a location whose parity may be wrong: notice and count, and a hard fault at the third. -/
def parityRead (c : Tc) (d : Dev) (loc : Nat) : Dev :=
  let u := tileId c.b c.t
  if d.isBad u loc then
    let d := (d.notice 4 u u (d.fireEsq c)).bump (BLK_TILE_ERR_REG_PARITY c.b c.t)
    let d := d.setBad u ((d.badLocs u).map (fun e => if e.1 = loc then (loc, e.2 + 1) else e))
    if (d.badLocs u).any (fun e => e.1 == loc && decide (3 ≤ e.2)) && !d.flag (BLK_TILE_STATE_FAILED c.b c.t) then tileHard c d else d
  else d

/-- R104, R107: the sequencer goes on: the count of issued instructions, the program counter, and the end at the last
address. -/
def tileGo (c : Tc) (l : Nat) (next : TileNext) (d : Dev) : Dev :=
  if d.flag (BLK_TILE_STATE_FAILED c.b c.t) then d else
  match next with
  | .ends => tileEnd c l d
  | .aborts => tileAbort c d
  | .jump t => (d.setFiring c { d.firing c with issued := (d.firing c).issued + 1 }).fset (BLK_TILE_STATE_PC c.b c.t) t
  | .seq =>
    let d := d.setFiring c { d.firing c with issued := (d.firing c).issued + 1 }
    let pc := d.fget (BLK_TILE_STATE_PC c.b c.t)
    if pc = 127 then tileOverrun c l d else d.fset (BLK_TILE_STATE_PC c.b c.t) (pc + 1)

/-- R107: the guard passes. -/
def guardOk (d : Dev) (c : Tc) (g : Guard) : Bool := !g.ge || d.p c g.gp != g.gn

/-- R104, R107, R116, R117: the sequencer of a firing tile issues the instruction its program counter names. The
command is that issue only where the word there is this instruction's; a word that fails four reads is a hard fault. -/
def tileStep (x : Issue) (word : Nat) (o : TileOp) (d : Dev) : Dev :=
  let c : Tc := ⟨x.block, x.tile⟩
  match d.logTile c.b c.t with
  | none => d
  | some l =>
    let pc := d.fget (BLK_TILE_STATE_PC c.b c.t)
    if !d.powered c.b || !d.flag (BLK_TILE_STATE_FIRING c.b c.t) || d.flag (BLK_TILE_STATE_FAILED c.b c.t)
        || d.imem c pc != word then d
    else if 4 ≤ x.fetchBad then tileHard c (d.bumpBy (BLK_TILE_ERR_IMEM_REREAD c.b c.t) 3)
    else if d.fget (BLK_TILE_FIRE_MAX_INSTR c.b c.t (d.firing c).desc) ≤ (d.firing c).issued then tileOverrun c l d
    else
      let e := d.upset (tileId c.b c.t) x.upsets
      if guardOk e c x.guard && !o.can l e then d
      else
        let e := (e.when (x.fetchBad != 0) (fun e => e.bumpBy (BLK_TILE_ERR_IMEM_REREAD c.b c.t) x.fetchBad)).busy c.b c.t (o.turns + x.fetchBad)
        if guardOk e c x.guard then
          let r := o.run l e
          let f := (o.reads e).eraseDups.foldl (parityRead c) r.1
          tileGo c l r.2 (f.mend (tileId c.b c.t) (o.writes e))
        else tileGo c l .seq e

/-! ## Forms of the operations -/

/-- rd := f ra rb. -/
def opRR (x : Issue) (rd ra rb : Nat) (f : Word → Word → Word) (turns : Nat) : TileOp :=
  let c : Tc := ⟨x.block, x.tile⟩
  { turns := turns, reads := fun _ => [ra, rb], writes := fun _ => [rd],
    run := fun _ d => (d.setG c rd (f (d.g c ra) (d.g c rb)), .seq) }

/-- rd := f ra. -/
def opR (x : Issue) (rd ra : Nat) (f : Word → Word) : TileOp :=
  let c : Tc := ⟨x.block, x.tile⟩
  { reads := fun _ => [ra], writes := fun _ => [rd], run := fun _ d => (d.setG c rd (f (d.g c ra)), .seq) }

/-- pd := the condition of two values. -/
def opCmp (x : Issue) (cc : Cond) (pd : Nat) (rs : List Nat) (a b : Dev → Word) : TileOp :=
  let c : Tc := ⟨x.block, x.tile⟩
  { reads := fun _ => rs, run := fun _ d => (d.setP c pd (condHolds cc (a d) (b d)), .seq) }

/-- A sum of two words, saturated to 32 signed bits (R110). -/
def satWord (i : Int) : Word := BitVec.ofInt 32 (clampI (-(2 ^ 31)) (2 ^ 31 - 1) i)

/-- The number of ones in a word. -/
def popWord (w : Word) : Word := BitVec.ofNat 32 (popCount 32 w.toNat)
/-- R109: the leading zeros of a word, 32 for zero. -/
def clzWord (w : Word) : Word := BitVec.ofNat 32 (32 - (if w = 0#32 then 0 else Nat.log2 w.toNat + 1))
/-- A bit field of a word, zero-extended. -/
def fieldU (w : Word) (pos len : Nat) : Word := BitVec.ofNat 32 (bitsOf w.toNat pos len)
/-- A bit field of a word, sign-extended. -/
def fieldS (w : Word) (pos len : Nat) : Word := BitVec.ofInt 32 (sx len (bitsOf w.toNat pos len))
/-- A word with a field replaced. -/
def insField (rd ra : Word) (pos len : Nat) : Word := BitVec.ofNat 32 (setBits rd.toNat pos len ra.toNat)
/-- The sign-extended 14-bit immediate. -/
def imm14s (n : Nat) : Word := (BitVec.ofNat 14 n).signExtend 32
/-- The zero-extended 14-bit immediate. -/
def imm14z (n : Nat) : Word := BitVec.ofNat 32 (n % 2 ^ 14)

/-- R113: RECV: the head token is received; FLUSH aborts; an ESQ that differs from the firing's is reported. -/
def opRecv (x : Issue) (rd port : Nat) (pe : Bool) (pd : Nat) : TileOp :=
  let c : Tc := ⟨x.block, x.tile⟩
  { writes := fun d => if (((d.logTile c.b c.t).bind (fun l => d.headOf (tileQ c.b l port))).map Token.kind) = some .flush then [] else [rd]
    can := fun l d => (d.headOf (tileQ c.b l port)).isSome
    run := fun l d =>
      match d.headOf (tileQ c.b l port) with
      | none => (d, .seq)
      | some t =>
        if t.kind = .flush then (d, .aborts)
        else
          let i := tileIn l port
          let fe := d.fireEsq c
          let d := d.popPort c l port
          let d := d.setFiring c { d.firing c with received := (d.firing c).received ||| 2 ^ port }
          let d := d.setG c rd (BitVec.ofNat 32 (t.payload.toNat % 2 ^ (if port = 4 then 16 else 32)))
          let d := if pe then d.setP c pd (t.kind != .data) else d
          let d := if t.esq = fe then d
            else (d.tagMismatch (tileId c.b c.t) (d.origin c.b i.1 i.2) [t.esq, fe]).bump (BLK_TILE_ERR_TAG_MISMATCH c.b c.t)
          (d, .seq) }

/-- R114: SEND of any kind: the token enters the output stage once that is empty. -/
def opSend (x : Issue) (port : Nat) (kind : TokKind) (rs : List Nat) (v : Dev → Nat) : TileOp :=
  let c : Tc := ⟨x.block, x.tile⟩
  { reads := fun _ => rs
    can := fun l d => d.stageEmpty c.b (tileOut l port).1 (tileOut l port).2
    run := fun l d =>
      (d.putStage c.b (tileOut l port).1 (tileOut l port).2
        ⟨d.fireEsq c, kind, BitVec.ofNat 512 (v d % 2 ^ (if port = 4 then 16 else 32))⟩, .seq) }

/-! ## The instructions (R109) -/

/-- NOP. -/
def execNop (x : Issue) (s : State) : Host.Outcome State Fault Refusal :=
  s.onDev (Wf.nop x) (tileStep x (guardBits x.guard) { run := fun _ d => (d, .seq) })
/-- END (R105). -/
def execEnd (x : Issue) (s : State) : Host.Outcome State Fault Refusal :=
  s.onDev (Wf.end_ x) (tileStep x (encK x.guard 0x01 0 0 0) { run := fun _ d => (d, .ends) })
/-- BR. -/
def execBr (x : Issue) (target : Nat) (s : State) : Host.Outcome State Fault Refusal :=
  s.onDev (Wf.br x target) (tileStep x (encK x.guard 0x02 0 0 target) { turns := 2, run := fun _ d => (d, .jump target) })
/-- LOOP (R111). -/
def execLoop (x : Issue) (ck target : Nat) (s : State) : Host.Outcome State Fault Refusal :=
  s.onDev (Wf.loop x ck target) (tileStep x (encK x.guard 0x03 ck 0 target)
    { turns := 1
      reads := fun _ => [20 + ck]
      writes := fun d => if d.cnt ⟨x.block, x.tile⟩ ck = 0 then [] else [20 + ck]
      run := fun _ d =>
        let c : Tc := ⟨x.block, x.tile⟩
        if d.cnt c ck = 0 then (d, .seq) else ((d.setCnt c ck (d.cnt c ck - 1)).busy c.b c.t 1, .jump target) })
/-- ADD. -/
def execAdd (x : Issue) (rd ra rb : Nat) (s : State) : Host.Outcome State Fault Refusal :=
  s.onDev (Wf.add x rd ra rb) (tileStep x (encR x.guard 0x04 rd ra rb 0) (opRR x rd ra rb (fun a b => a + b) 1))
/-- SUB. -/
def execSub (x : Issue) (rd ra rb : Nat) (s : State) : Host.Outcome State Fault Refusal :=
  s.onDev (Wf.sub x rd ra rb) (tileStep x (encR x.guard 0x05 rd ra rb 0) (opRR x rd ra rb (fun a b => a - b) 1))
/-- AND. -/
def execAnd (x : Issue) (rd ra rb : Nat) (s : State) : Host.Outcome State Fault Refusal :=
  s.onDev (Wf.and_ x rd ra rb) (tileStep x (encR x.guard 0x06 rd ra rb 0) (opRR x rd ra rb (fun a b => a &&& b) 1))
/-- OR. -/
def execOr (x : Issue) (rd ra rb : Nat) (s : State) : Host.Outcome State Fault Refusal :=
  s.onDev (Wf.or_ x rd ra rb) (tileStep x (encR x.guard 0x07 rd ra rb 0) (opRR x rd ra rb (fun a b => a ||| b) 1))
/-- XOR. -/
def execXor (x : Issue) (rd ra rb : Nat) (s : State) : Host.Outcome State Fault Refusal :=
  s.onDev (Wf.xor_ x rd ra rb) (tileStep x (encR x.guard 0x08 rd ra rb 0) (opRR x rd ra rb (fun a b => a ^^^ b) 1))
/-- SHL. -/
def execShl (x : Issue) (rd ra rb : Nat) (s : State) : Host.Outcome State Fault Refusal :=
  s.onDev (Wf.shl x rd ra rb) (tileStep x (encR x.guard 0x09 rd ra rb 0) (opRR x rd ra rb (fun a b => a <<< (b.toNat % 32)) 1))
/-- SHR. -/
def execShr (x : Issue) (rd ra rb : Nat) (s : State) : Host.Outcome State Fault Refusal :=
  s.onDev (Wf.shr x rd ra rb) (tileStep x (encR x.guard 0x0A rd ra rb 0) (opRR x rd ra rb (fun a b => a >>> (b.toNat % 32)) 1))
/-- SRA. -/
def execSra (x : Issue) (rd ra rb : Nat) (s : State) : Host.Outcome State Fault Refusal :=
  s.onDev (Wf.sra x rd ra rb) (tileStep x (encR x.guard 0x0B rd ra rb 0) (opRR x rd ra rb (fun a b => a.sshiftRight (b.toNat % 32)) 1))
/-- ADDS (R110). -/
def execAdds (x : Issue) (rd ra rb : Nat) (s : State) : Host.Outcome State Fault Refusal :=
  s.onDev (Wf.adds x rd ra rb) (tileStep x (encR x.guard 0x0C rd ra rb 0) (opRR x rd ra rb (fun a b => satWord (a.toInt + b.toInt)) 1))
/-- SUBS (R110). -/
def execSubs (x : Issue) (rd ra rb : Nat) (s : State) : Host.Outcome State Fault Refusal :=
  s.onDev (Wf.subs x rd ra rb) (tileStep x (encR x.guard 0x0D rd ra rb 0) (opRR x rd ra rb (fun a b => satWord (a.toInt - b.toInt)) 1))
/-- MIN. -/
def execMin (x : Issue) (rd ra rb : Nat) (s : State) : Host.Outcome State Fault Refusal :=
  s.onDev (Wf.min_ x rd ra rb) (tileStep x (encR x.guard 0x0E rd ra rb 0) (opRR x rd ra rb (fun a b => if BitVec.slt b a then b else a) 1))
/-- MAX. -/
def execMax (x : Issue) (rd ra rb : Nat) (s : State) : Host.Outcome State Fault Refusal :=
  s.onDev (Wf.max_ x rd ra rb) (tileStep x (encR x.guard 0x0F rd ra rb 0) (opRR x rd ra rb (fun a b => if BitVec.slt a b then b else a) 1))
/-- MINU. -/
def execMinu (x : Issue) (rd ra rb : Nat) (s : State) : Host.Outcome State Fault Refusal :=
  s.onDev (Wf.minu x rd ra rb) (tileStep x (encR x.guard 0x10 rd ra rb 0) (opRR x rd ra rb (fun a b => if BitVec.ult b a then b else a) 1))
/-- MAXU. -/
def execMaxu (x : Issue) (rd ra rb : Nat) (s : State) : Host.Outcome State Fault Refusal :=
  s.onDev (Wf.maxu x rd ra rb) (tileStep x (encR x.guard 0x11 rd ra rb 0) (opRR x rd ra rb (fun a b => if BitVec.ult a b then b else a) 1))
/-- MUL. -/
def execMul (x : Issue) (rd ra rb : Nat) (s : State) : Host.Outcome State Fault Refusal :=
  s.onDev (Wf.mul x rd ra rb) (tileStep x (encR x.guard 0x12 rd ra rb 0)
    (opRR x rd ra rb (fun a b => (a.setWidth 16).signExtend 32 * (b.setWidth 16).signExtend 32) 2))
/-- MULU. -/
def execMulu (x : Issue) (rd ra rb : Nat) (s : State) : Host.Outcome State Fault Refusal :=
  s.onDev (Wf.mulu x rd ra rb) (tileStep x (encR x.guard 0x13 rd ra rb 0)
    (opRR x rd ra rb (fun a b => (a.setWidth 16).setWidth 32 * (b.setWidth 16).setWidth 32) 2))
/-- ADDI. -/
def execAddi (x : Issue) (rd ra imm : Nat) (s : State) : Host.Outcome State Fault Refusal :=
  s.onDev (Wf.addi x rd ra imm) (tileStep x (encI x.guard 0x14 rd ra imm) (opR x rd ra (fun a => a + imm14s imm)))
/-- ANDI. -/
def execAndi (x : Issue) (rd ra imm : Nat) (s : State) : Host.Outcome State Fault Refusal :=
  s.onDev (Wf.andi x rd ra imm) (tileStep x (encI x.guard 0x15 rd ra imm) (opR x rd ra (fun a => a &&& imm14z imm)))
/-- ORI. -/
def execOri (x : Issue) (rd ra imm : Nat) (s : State) : Host.Outcome State Fault Refusal :=
  s.onDev (Wf.ori x rd ra imm) (tileStep x (encI x.guard 0x16 rd ra imm) (opR x rd ra (fun a => a ||| imm14z imm)))
/-- XORI. -/
def execXori (x : Issue) (rd ra imm : Nat) (s : State) : Host.Outcome State Fault Refusal :=
  s.onDev (Wf.xori x rd ra imm) (tileStep x (encI x.guard 0x17 rd ra imm) (opR x rd ra (fun a => a ^^^ imm14z imm)))
/-- SHLI. -/
def execShli (x : Issue) (rd ra n : Nat) (s : State) : Host.Outcome State Fault Refusal :=
  s.onDev (Wf.shli x rd ra n) (tileStep x (encI x.guard 0x18 rd ra n) (opR x rd ra (fun a => a <<< n)))
/-- SHRI. -/
def execShri (x : Issue) (rd ra n : Nat) (s : State) : Host.Outcome State Fault Refusal :=
  s.onDev (Wf.shri x rd ra n) (tileStep x (encI x.guard 0x19 rd ra n) (opR x rd ra (fun a => a >>> n)))
/-- SRAI. -/
def execSrai (x : Issue) (rd ra n : Nat) (s : State) : Host.Outcome State Fault Refusal :=
  s.onDev (Wf.srai x rd ra n) (tileStep x (encI x.guard 0x1A rd ra n) (opR x rd ra (fun a => a.sshiftRight n)))
/-- MOVI. -/
def execMovi (x : Issue) (rd imm : Nat) (s : State) : Host.Outcome State Fault Refusal :=
  s.onDev (Wf.movi x rd imm) (tileStep x (encM x.guard 0x1B rd imm)
    { writes := fun _ => [rd], run := fun _ d => (d.setG ⟨x.block, x.tile⟩ rd ((BitVec.ofNat 18 imm).signExtend 32), .seq) })
/-- MOVHI. -/
def execMovhi (x : Issue) (rd imm : Nat) (s : State) : Host.Outcome State Fault Refusal :=
  s.onDev (Wf.movhi x rd imm) (tileStep x (encM x.guard 0x1C rd imm)
    (opR x rd rd (fun a => BitVec.ofNat 32 (setBits a.toNat 16 16 imm))))
/-- EXTU. -/
def execExtu (x : Issue) (rd ra pos len : Nat) (s : State) : Host.Outcome State Fault Refusal :=
  s.onDev (Wf.extu x rd ra pos len) (tileStep x (encF x.guard 0x1D rd ra pos len) (opR x rd ra (fun a => fieldU a pos len)))
/-- EXTS. -/
def execExts (x : Issue) (rd ra pos len : Nat) (s : State) : Host.Outcome State Fault Refusal :=
  s.onDev (Wf.exts x rd ra pos len) (tileStep x (encF x.guard 0x1E rd ra pos len) (opR x rd ra (fun a => fieldS a pos len)))
/-- INS. -/
def execIns (x : Issue) (rd ra pos len : Nat) (s : State) : Host.Outcome State Fault Refusal :=
  s.onDev (Wf.ins x rd ra pos len) (tileStep x (encF x.guard 0x1F rd ra pos len) (opRR x rd rd ra (fun a b => insField a b pos len) 1))
/-- POPC. -/
def execPopc (x : Issue) (rd ra : Nat) (s : State) : Host.Outcome State Fault Refusal :=
  s.onDev (Wf.popc x rd ra) (tileStep x (encR x.guard 0x20 rd ra 0 0) (opR x rd ra popWord))
/-- CLZ. -/
def execClz (x : Issue) (rd ra : Nat) (s : State) : Host.Outcome State Fault Refusal :=
  s.onDev (Wf.clz x rd ra) (tileStep x (encR x.guard 0x21 rd ra 0 0) (opR x rd ra clzWord))
/-- SEL. -/
def execSel (x : Issue) (rd ra rb ps : Nat) (s : State) : Host.Outcome State Fault Refusal :=
  s.onDev (Wf.sel x rd ra rb ps) (tileStep x (encR x.guard 0x22 rd ra rb ps)
    { reads := fun _ => [ra, rb], writes := fun _ => [rd]
      run := fun _ d => (d.setG ⟨x.block, x.tile⟩ rd
        (if d.p ⟨x.block, x.tile⟩ ps then d.g ⟨x.block, x.tile⟩ ra else d.g ⟨x.block, x.tile⟩ rb), .seq) })
/-- RGET. -/
def execRget (x : Issue) (rd ra : Nat) (s : State) : Host.Outcome State Fault Refusal :=
  s.onDev (Wf.rget x rd ra) (tileStep x (encR x.guard 0x23 rd ra 0 0)
    { reads := fun d => [ra, (d.g ⟨x.block, x.tile⟩ ra).toNat % 16], writes := fun _ => [rd]
      run := fun _ d => (d.setG ⟨x.block, x.tile⟩ rd (d.g ⟨x.block, x.tile⟩ ((d.g ⟨x.block, x.tile⟩ ra).toNat % 16)), .seq) })
/-- RPUT. -/
def execRput (x : Issue) (ra rb : Nat) (s : State) : Host.Outcome State Fault Refusal :=
  s.onDev (Wf.rput x ra rb) (tileStep x (encR x.guard 0x24 0 ra rb 0)
    { reads := fun _ => [ra, rb], writes := fun d => [(d.g ⟨x.block, x.tile⟩ ra).toNat % 16]
      run := fun _ d => (d.setG ⟨x.block, x.tile⟩ ((d.g ⟨x.block, x.tile⟩ ra).toNat % 16) (d.g ⟨x.block, x.tile⟩ rb), .seq) })
/-- The LUT entry that register ra names. -/
def lutIndex (x : Issue) (ra : Nat) (d : Dev) : Nat := (d.g ⟨x.block, x.tile⟩ ra).toNat % 256
/-- LUT. -/
def execLut (x : Issue) (rd ra : Nat) (s : State) : Host.Outcome State Fault Refusal :=
  s.onDev (Wf.lut x rd ra) (tileStep x (encR x.guard 0x25 rd ra 0 0)
    { turns := 2, reads := fun d => [ra, 32 + lutIndex x ra d], writes := fun _ => [rd]
      run := fun _ d => (d.setG ⟨x.block, x.tile⟩ rd (BitVec.ofNat 32 (d.lutAt ⟨x.block, x.tile⟩ (lutIndex x ra d))), .seq) })
/-- LUTS. -/
def execLuts (x : Issue) (rd ra : Nat) (s : State) : Host.Outcome State Fault Refusal :=
  s.onDev (Wf.luts x rd ra) (tileStep x (encR x.guard 0x26 rd ra 0 0)
    { turns := 2, reads := fun d => [ra, 32 + lutIndex x ra d], writes := fun _ => [rd]
      run := fun _ d => (d.setG ⟨x.block, x.tile⟩ rd (BitVec.ofInt 32 (sx 16 (d.lutAt ⟨x.block, x.tile⟩ (lutIndex x ra d)))), .seq) })
/-- LUTW. -/
def execLutw (x : Issue) (ra rb : Nat) (s : State) : Host.Outcome State Fault Refusal :=
  s.onDev (Wf.lutw x ra rb) (tileStep x (encR x.guard 0x27 0 ra rb 0)
    { turns := 2, reads := fun _ => [ra, rb], writes := fun d => [32 + lutIndex x ra d]
      run := fun _ d => (d.setLut ⟨x.block, x.tile⟩ (lutIndex x ra d) ((d.g ⟨x.block, x.tile⟩ rb).toNat % 2 ^ 16), .seq) })
/-- CMP.cc. -/
def execCmpCc (x : Issue) (cc : Cond) (pd ra rb : Nat) (s : State) : Host.Outcome State Fault Refusal :=
  s.onDev (Wf.cmpCc x cc pd ra rb) (tileStep x (encR x.guard (0x28 + condNum cc) pd ra rb 0)
    (opCmp x cc pd [ra, rb] (fun d => d.g ⟨x.block, x.tile⟩ ra) (fun d => d.g ⟨x.block, x.tile⟩ rb)))
/-- CMPI.cc (R110). -/
def execCmpiCc (x : Issue) (cc : Cond) (pd ra imm : Nat) (s : State) : Host.Outcome State Fault Refusal :=
  s.onDev (Wf.cmpiCc x cc pd ra imm) (tileStep x (encI x.guard (0x2E + condNum cc) pd ra imm)
    (opCmp x cc pd [ra] (fun d => d.g ⟨x.block, x.tile⟩ ra) (fun _ => cmpImm cc imm)))
/-- PLOG. -/
def execPlog (x : Issue) (pd pa pb fn : Nat) (s : State) : Host.Outcome State Fault Refusal :=
  s.onDev (Wf.plog x pd pa pb fn) (tileStep x (encK x.guard 0x34 0 pd (pa * 2 ^ 16 + pb * 2 ^ 14 + fn))
    { run := fun _ d => (d.setP ⟨x.block, x.tile⟩ pd (plogValue fn (d.p ⟨x.block, x.tile⟩ pa) (d.p ⟨x.block, x.tile⟩ pb)), .seq) })
/-- PGET. -/
def execPget (x : Issue) (rd : Nat) (s : State) : Host.Outcome State Fault Refusal :=
  s.onDev (Wf.pget_ x rd) (tileStep x (encM x.guard 0x35 rd 0)
    { writes := fun _ => [rd]
      run := fun _ d => (d.setG ⟨x.block, x.tile⟩ rd (BitVec.ofNat 32 (d.fget (BLK_TILE_STATE_PRED x.block x.tile))), .seq) })
/-- PPUT. -/
def execPput (x : Issue) (ra : Nat) (s : State) : Host.Outcome State Fault Refusal :=
  s.onDev (Wf.pput_ x ra) (tileStep x (encI x.guard 0x36 0 ra 0)
    { reads := fun _ => [ra]
      run := fun _ d => (d.fset (BLK_TILE_STATE_PRED x.block x.tile) ((d.g ⟨x.block, x.tile⟩ ra).toNat % 16), .seq) })
/-- CLDI. -/
def execCldi (x : Issue) (ck imm : Nat) (s : State) : Host.Outcome State Fault Refusal :=
  s.onDev (Wf.cldi x ck imm) (tileStep x (encK x.guard 0x37 ck 0 imm)
    { writes := fun _ => [20 + ck], run := fun _ d => (d.setCnt ⟨x.block, x.tile⟩ ck imm, .seq) })
/-- CLD. -/
def execCld (x : Issue) (ck ra : Nat) (s : State) : Host.Outcome State Fault Refusal :=
  s.onDev (Wf.cld x ck ra) (tileStep x (encK x.guard 0x38 ck 0 (ra * 2 ^ 14))
    { reads := fun _ => [ra], writes := fun _ => [20 + ck]
      run := fun _ d => (d.setCnt ⟨x.block, x.tile⟩ ck ((d.g ⟨x.block, x.tile⟩ ra).toNat % 2 ^ 16), .seq) })
/-- CGET. -/
def execCget (x : Issue) (rd ck : Nat) (s : State) : Host.Outcome State Fault Refusal :=
  s.onDev (Wf.cget x rd ck) (tileStep x (encM x.guard 0x39 rd (ck * 2 ^ 12))
    { reads := fun _ => [20 + ck], writes := fun _ => [rd]
      run := fun _ d => (d.setG ⟨x.block, x.tile⟩ rd (BitVec.ofNat 32 (d.cnt ⟨x.block, x.tile⟩ ck)), .seq) })
/-- CSTEP (R112). -/
def execCstep (x : Issue) (ck pd : Nat) (s : State) : Host.Outcome State Fault Refusal :=
  s.onDev (Wf.cstep x ck pd) (tileStep x (encK x.guard 0x3A ck pd 0)
    { reads := fun d => if d.cnt ⟨x.block, x.tile⟩ ck ≤ 1 then [20 + ck, 24 + ck] else [20 + ck]
      writes := fun _ => [20 + ck]
      run := fun _ d =>
        let c : Tc := ⟨x.block, x.tile⟩
        let v := cstepValue (d.cnt c ck) (d.reload c ck)
        ((d.setCnt c ck v.1).setP c pd v.2, .seq) })
/-- The word of RECV. -/
def encRecv (g : Guard) (rd port : Nat) (pe : Bool) (pd : Nat) : Nat :=
  encM g 0x3B rd (port * 2 ^ 15 + b2n pe * 2 ^ 14 + pd * 2 ^ 12)
/-- RECV (R113). -/
def execRecv (x : Issue) (rd port : Nat) (pe : Bool) (pd : Nat) (s : State) : Host.Outcome State Fault Refusal :=
  s.onDev (Wf.recv x rd port pe pd) (tileStep x (encRecv x.guard rd port pe pd) (opRecv x rd port pe pd))
/-- SEND (R114). -/
def execSend (x : Issue) (port ra : Nat) (s : State) : Host.Outcome State Fault Refusal :=
  s.onDev (Wf.send x port ra) (tileStep x (encI x.guard 0x3C 0 ra (port * 2 ^ 11))
    (opSend x port .data [ra] (fun d => (d.g ⟨x.block, x.tile⟩ ra).toNat)))
/-- SEND.M (R114). -/
def execSendM (x : Issue) (port ra : Nat) (s : State) : Host.Outcome State Fault Refusal :=
  s.onDev (Wf.sendM x port ra) (tileStep x (encI x.guard 0x3C 0 ra (port * 2 ^ 11 + 2 ^ 10))
    (opSend x port .mark [ra] (fun d => (d.g ⟨x.block, x.tile⟩ ra).toNat)))
/-- SENDC (R114). -/
def execSendc (x : Issue) (ps : Nat) (s : State) : Host.Outcome State Fault Refusal :=
  s.onDev (Wf.sendc x ps) (tileStep x (encI x.guard 0x3D 0 0 (4 * 2 ^ 11 + ps * 2 ^ 8))
    (opSend x 4 .cond [] (fun d => b2n (d.p ⟨x.block, x.tile⟩ ps))))

/-! ## FLUSH at a tile (R106) -/

/-- Discard the tokens ahead of a queue's FLUSH, and count them. -/
def discardToFlush : Nat → Nat → Dev → Dev × Nat
  | 0, _, d => (d, 0)
  | fuel + 1, q, d =>
    match d.headOf q with
    | none => (d, 0)
    | some t => if t.kind = .flush then (d, 0)
      else let r := discardToFlush fuel q (d.popSink q); (r.1, r.2 + 1)

/-- The tokens a queue and its spill hold. -/
def Dev.held (d : Dev) (q : Nat) : Nat := (d.queue q).length + (d.spill q).length

/-- Every queue of a list holds FLUSH at its head. -/
def Dev.allFlush (d : Dev) (qs : List Nat) : Bool :=
  qs.all (fun q => ((d.headOf q).map (fun t => t.kind == TokKind.flush)).getD false)

/-- R106: a tile at rest that has FLUSH on a used input discards what stands ahead of the others, and when every used
input holds FLUSH consumes them and sends FLUSH on every used output. A failed tile forwards FLUSH in the same way;
what it consumes before is FAILED_UNIT_CONSUME's (R118). The FLUSH tokens stay at their heads until every used output
stage is empty (DESIGN CHOICE, log entry 137). -/
def tileFlush (c : Tc) (d : Dev) : Dev :=
  match d.logTile c.b c.t with
  | none => d
  | some l =>
    if !d.flushSeen c l || d.flag (BLK_TILE_STATE_FIRING c.b c.t) then d.when (d.flushSeen c l) (fun d => d.fset (BLK_TILE_STATE_FLUSHING c.b c.t) 1)
    else
      let qs := (d.tileInputs c).map (tileQ c.b l)
      let d := d.fset (BLK_TILE_STATE_FLUSHING c.b c.t) 1
      let d := if d.flag (BLK_TILE_STATE_FAILED c.b c.t) then d
        else d.each qs (fun d q =>
          let r := discardToFlush (d.held q) q d
          if r.2 = 0 then r.1 else r.1.bumpBy (BLK_TILE_FLUSH_CNT_FLUSH_DISCARD c.b c.t) r.2)
      let outs := onesOf 5 (d.fget (BLK_TILE_CFG_OUT_USED c.b c.t))
      if d.allFlush qs && outs.all (fun k => d.stageEmpty c.b (tileOut l k).1 (tileOut l k).2) then
        let esq := (((qs.head?).bind d.headOf).map Token.esq).getD 0
        let d := (d.each qs Dev.popSink).noteReady c l
        let d := d.each outs (fun d k => d.putStage c.b (tileOut l k).1 (tileOut l k).2 ⟨esq, .flush, 0#512⟩)
        d.fsets [(BLK_TILE_STATE_FLUSHING c.b c.t, 0), (BLK_TILE_STATE_FLUSHED c.b c.t, 1)]
      else d

/-- TILE_FLUSH. -/
def execTileFlush (b t : Nat) (s : State) : Host.Outcome State Fault Refusal :=
  s.onDev (Wf.tileFlush b t) (onPower b (tileFlush ⟨b, t⟩))

end Sys2Proof.Machine
end

