-- ==== Sys2Proof/Machine/Vu.lean ====
section
/-!
DEFINITION. The vector units (chapters 4 and 5): the program cycle, row intake and MAC turns, the end of an accumulation,
the transform and output stages, the row quantiser and the adaptation of S2, FLUSH, and parity.
-/

namespace Sys2Proof.Machine

open Sys2Proof

/-! ## Formats (R139, R149, R172) -/

/-- R149: the fields of a step. -/
structure VuStep where
  last : Bool
  accInit : Nat
  rowIn : Nat
  int4 : Bool
  wBase : Nat
  zp : Nat
  scaleIn : Bool
  endAcc : Nat
  ew : Nat
  had : Bool
  rsSel : Nat
  act : Nat
  outFmt : Nat
  red : Nat
  slot : Nat
  fixed : Bool
  bAddr : Nat
  chainAdd : Bool
  repeats : Nat
  wAdv : Bool
  deriving DecidableEq, Repr

/-- R149: a microcode word as a step. -/
def vuStep (w : Nat) : VuStep :=
  { last := bitAt w 63, accInit := bitsOf w 61 2, rowIn := bitsOf w 59 2, int4 := bitAt w 58, wBase := bitsOf w 51 7,
    zp := bitsOf w 43 8, scaleIn := bitAt w 42, endAcc := bitsOf w 40 2, ew := bitsOf w 38 2, had := bitAt w 37,
    rsSel := bitsOf w 35 2, act := bitsOf w 32 3, outFmt := bitsOf w 29 3, red := bitsOf w 27 2, slot := bitsOf w 25 2,
    fixed := bitAt w 24, bAddr := bitsOf w 17 7, chainAdd := bitAt w 16, repeats := bitsOf w 8 8, wAdv := bitAt w 7 }

/-- The step of a VU's program. -/
def Dev.vuStepAt (d : Dev) (w j : Nat) : VuStep := vuStep (d.fget (BLK_VU_UCODE_WORD w j))

/-- R139: lanes of a width packed into one token's payload, lane 0 lowest. -/
def packLanes (width : Nat) : List Int → Nat
  | [] => 0
  | x :: r => wrapTo width x + 2 ^ width * packLanes width r

/-- R139: the n lanes of a width in a payload, unsigned. -/
def unpackLanes (width n v : Nat) : List Nat := (upTo n).map (fun i => bitsOf v (width * i) width)

/-- The n lanes of a width in a payload, signed. -/
def unpackSigned (width n v : Nat) : List Int := (unpackLanes width n v).map (sx width)

/-- R174: the clamp of a 16-bit intermediate. -/
def sat16 (v : Int) : Int := clampI (-32768) 32767 v

/-- R172: E2 of a second-level scale. -/
def s2Exp (s2 : Nat) : Nat := bitsOf s2 10 6
/-- R172: M2 of a second-level scale. -/
def s2Frac (s2 : Nat) : Nat := bitsOf s2 0 10

/-- R154, R155: the turns of one repetition's row in stages 0 and 1. -/
def VuStep.rowTurns (s : VuStep) : Nat := if s.rowIn = 0 then 0 else (if s.rowIn = 1 then 1 else 0) + if s.int4 then 4 else 8
/-- R155: stage 1's turns at an end of accumulation. -/
def VuStep.endTurns (s : VuStep) : Nat := 1 + if s.chainAdd then 4 else 0
/-- R155: stage 2's turns. -/
def VuStep.midTurns (s : VuStep) : Nat := 2 + (if s.ew = 0 then 0 else 2) + if s.had then 3 else 0
/-- R139, R155: stage 3's turns: 1 and the row's tokens; what leaves on the scalar output adds none, as the worked mapping of
chapter 4 counts (DEDUCED, log entry 139). -/
def VuStep.outTurns (s : VuStep) : Nat :=
  1 + if s.outFmt = 0 then 0 else if s.outFmt = 2 then 2 else if s.outFmt = 4 then 4 else 1

/-! ## Places and connections (R138, R161) -/

/-- A VU's position. -/
def Dev.vu (d : Dev) (u : Nat) : VuPos := (pget d.fab.vus u).getD {}
/-- Set a VU's position; its state register shows it (R163). -/
def Dev.setVu (d : Dev) (u : Nat) (x : VuPos) : Dev :=
  let w := vuWindow u
  let busy := x.running || x.s1.isSome || x.s2.isSome || x.send != []
  ({ d with fab := { d.fab with vus := pput u x d.fab.vus } }).fsets
    [(BLK_VU_STATE_STEP w, x.step), (BLK_VU_STATE_REPEAT_POS w, x.rep), (BLK_VU_STATE_ROW_HELD w, b2n x.held.isSome),
      (BLK_VU_STATE_ACC_OPEN w, b2n (x.accOpen && x.across)), (BLK_VU_STATE_BUSY w, b2n busy)]

/-- R138: the sinks of a VU's place: activation, chain and scale input. -/
def vuIn (b v : Nat) : List Nat := [qnum b 1 (8 + v), qnum b 1 (10 + v), qnum b 0 (90 + v)]
/-- R138: sink k of a VU's place. -/
def vuQ (b v k : Nat) : Nat := (vuIn b v).getD k 0
/-- R162: the used inputs, in the order activation, chain, scale. -/
def Dev.vuUsed (d : Dev) (u b v : Nat) : List Nat := (onesOf 3 (d.fget (BLK_VU_CFG_IN_USED (vuWindow u)))).map (vuQ b v)

/-- The place of a VU that can work: it serves one, it is loaded, sound and its domain is ON. -/
def Dev.vuWorks (d : Dev) (u : Nat) : Option (Nat × Nat) :=
  if !isVu u then none
  else match d.vuPlace u with
    | none => none
    | some (b, v) =>
      let w := vuWindow u
      if d.powered b && d.flag (BLK_VU_CFG_LOADED w) && !d.flag (BLK_VU_STATE_FAILED w) then some (b, v) else none

/-- Turns of work (R477), in the block's counter or the spare's. -/
def Dev.vuBusy (d : Dev) (u turns : Nat) : Dev :=
  d.when (!d.frozen) (fun d =>
    if unitClass u = 1 then d.bumpBy (BLK_UNIT_BUSY_BUSY_TURNS (unitWhere u) (17 + unitIndex u)) turns
    else d.bumpBy ⟨FAB_SPARE_UNIT_BUSY (2 * unitWhere u + unitIndex u), 32, 32⟩ turns)

/-- R159: FLUSH stands at the head of a used input. -/
def Dev.vuFlushing (d : Dev) (u b v : Nat) : Bool :=
  (d.vuUsed u b v).any (fun q => ((d.headOf q).map (fun t => t.kind == TokKind.flush)).getD false)

/-- A token other than FLUSH stands at the head of a sink. -/
def Dev.ready? (d : Dev) (q : Nat) : Option Token :=
  match d.headOf q with
  | some t => if t.kind = .flush then none else some t
  | none => none

/-! ## Parity (R157, R158) -/

/-- R152: the ESQs of the cycles in the VU, newest first, or the last cycle's where none is. -/
def Dev.vuEsqs (d : Dev) (u : Nat) : List Nat :=
  match ((d.vu u).esqs.map Prod.snd).reverse with
  | [] => [d.unitEsq u]
  | e :: l => e :: l.filter (fun x => x != e)

/-- R158: the VU enters failed mode: a notice for the ESQ of every cycle whose rows it loses, the newest first. -/
def Dev.vuHard (d : Dev) (u : Nat) : Dev :=
  let x := d.vu u
  let es := (d.vuEsqs u).eraseDups
  let d := ((d.setVu u { x with running := false, s1 := none, s2 := none, send := [], esqs := [] }).showFailed u).hardFault u 8 (es.headD 0)
  let d := d.each es.tail (fun d e => d.notice 8 u u e)
  { d with fab := { d.fab with reported := pput u es d.fab.reported } }

/-- R157: the reads of a step that fail: every repeat is counted; a word that fails all three is a hard fault. -/
def Dev.vuReads (d : Dev) (u : Nat) (p : VuParity) : Bool × Dev :=
  let l := p.weight ++ p.ucode ++ p.rescale ++ p.act ++ p.s2
  let n := (l.map (fun k => min k 3)).sum
  let d := d.when (n != 0) (fun d => d.bumpBy (BLK_VU_ERR_REREAD (vuWindow u)) n)
  (l.any (fun k => decide (4 ≤ k)), d)

/-- A step of a VU runs unless one of its reads fails for good. -/
def Dev.vuWith (d : Dev) (u : Nat) (p : VuParity) (f : Dev → Dev) : Dev :=
  let r := d.vuReads u p
  if r.1 then r.2.vuHard u else f r.2

/-! ## Adapting S2 (R184, R185) -/

/-- R181: the flags of a quantised row: none, SAT, FLOOR, FLAT. -/
def fNone : Nat := 0
def fSat : Nat := 1
def fFloor : Nat := 2
def fFlat : Nat := 3

/-- R184: slot k's update from the flags of the rows it quantised in the cycle before. -/
def Dev.adaptSlot (d : Dev) (w k : Nat) (flags : List Nat) : Dev :=
  let s2 := d.fget (BLK_VU_S2_S2 w k)
  let run := d.fget (BLK_VU_S2_LIM_FLOOR_RUN w k)
  if flags = [] then d
  else if flags.contains fSat then
    let d := d.fset (BLK_VU_S2_LIM_FLOOR_RUN w k) 0
    if s2Exp s2 < d.fget (BLK_VU_S2_LIM_E2_MAX w k) then
      (d.fset (BLK_VU_S2_S2 w k) (s2 + 1024)).bump (BLK_VU_S2_ADAPT_COUNT w k)
    else d.bump (BLK_VU_S2_LIM_BLOCKED w k)
  else if flags.all (fun f => f == fFlat) then d
  else if (flags.filter (fun f => f != fFlat)).all (fun f => f == fFloor) then
    if run < d.fget (BLK_VU_S2_LIM_DOWN_AFTER w k) then d.fset (BLK_VU_S2_LIM_FLOOR_RUN w k) (run + 1)
    else
      let d := d.fset (BLK_VU_S2_LIM_FLOOR_RUN w k) 0
      if d.fget (BLK_VU_S2_LIM_E2_MIN w k) < s2Exp s2 then
        (d.fset (BLK_VU_S2_S2 w k) (s2 - 1024)).bump (BLK_VU_S2_ADAPT_COUNT w k)
      else d.bump (BLK_VU_S2_LIM_BLOCKED w k)
  else d.fset (BLK_VU_S2_LIM_FLOOR_RUN w k) 0

/-- R184: the output stage has finished every row of a cycle: every slot is updated from its evidence. -/
def Dev.adaptAll (d : Dev) (u : Nat) : Dev :=
  let ev := (d.vu u).evidence
  let d := d.each (upTo 4) (fun d k => d.adaptSlot (vuWindow u) k ((ev.filter (fun e => e.1 == k)).map Prod.snd))
  d.setVu u { d.vu u with evidence := [] }

/-- The stages behind stage 1 hold nothing. -/
def VuPos.drained (x : VuPos) : Bool := x.s1.isNone && x.s2.isNone && x.send == []

/-! ## The cycle ESQ (R152) -/

/-- R152, R434: a token is taken in a cycle: the first gives the cycle ESQ, a later one with another is a mismatch. -/
def Dev.vuToken (d : Dev) (u q cycle : Nat) (t : Token) : Dev :=
  let d := d.popSink q
  match pget (d.vu u).esqs cycle with
  | none =>
    let x := d.vu u
    (d.setVu u { x with esqs := pput cycle t.esq x.esqs }).fset (BLK_VU_STATE_CYCLE_ESQ (vuWindow u)) t.esq
  | some e =>
    if e = t.esq then d
    else (d.tagMismatch u (d.origin (q / 1024) (q / 256 % 4) (q % 256)) [e, t.esq]).bump (BLK_VU_ERR_TAG_MISMATCH (vuWindow u))

/-! ## Cycle start (R150) -/

/-- VU_CYCLE_START: the VU begins a cycle at step 0. FLUSH at a used input lets no step start (R159). -/
def vuCycleStart (u : Nat) (p : VuParity) (d : Dev) : Dev :=
  match d.vuWorks u with
  | none => d
  | some (b, v) =>
    let x := d.vu u
    if x.running || d.vuFlushing u b v then d
    else d.vuWith u p (fun d =>
      let x := d.vu u
      d.setVu u { x with
        running := true, cycle := x.cycle + 1, step := 0, rep := 0, rowGot := false, scaleGot := false,
        macDone := false, accOpen := false, across := false, chain := [] })

/-- VU_CYCLE_START. -/
def execVuCycleStart (unit : Nat) (bad : VuParity) (s : State) : Host.Outcome State Fault Refusal :=
  s.onDev (Wf.vuCycleStart unit bad) (vuCycleStart unit bad)

/-! ## MAC (R141 to R143, R150) -/

/-- R142: the 256 bytes of a weight word. -/
def Dev.weightWord (d : Dev) (u h w : Nat) : List Nat := d.bytes (vuStore u + 0x8000 * h + 0x100 * w) 256

/-- R142: weight W[o][32h + i] of stage h from the words of its base, for i from 0 to 31. -/
def weightOf (int4 : Bool) (words : List (List Nat)) (o i : Nat) : Int :=
  if int4 then
    let byte := (words.getD (i / 8) []).getD (4 * o + i % 8 / 2) 0
    sx 4 (if i % 2 = 0 then byte % 16 else byte / 16)
  else sx 8 ((words.getD (i / 4) []).getD (4 * o + i % 4) 0)

/-- R141: the products of one stage for lane o. -/
def macLane (int4 : Bool) (words : List (List Nat)) (zp : Nat) (row : List Nat) (o : Nat) : Int :=
  (row.zipIdx.map (fun e => weightOf int4 words o e.2 * ((e.1 : Int) - (zp : Int)))).sum

/-- R143, R171: what a 32-bit accumulator holds of an exact sum. Within the limits of R143 that is the sum; where a bank installed
later breaks them the value is free (log entry 138). -/
def acc32 (i : Int) : Int := if -(2 ^ 31) ≤ i ∧ i < 2 ^ 31 then i else (Config.accFree i).toInt

/-- R141: a stage's accumulators after a row's 32 inputs of its half. -/
def Dev.macHalf (d : Dev) (u h base : Nat) (st : VuStep) (row : List Nat) (acc : List Int) : List Int :=
  let words := (upTo (if st.int4 then 4 else 8)).map (fun j => d.weightWord u h (base + j))
  (upTo 64).map (fun o => acc32 (acc.getD o 0 + macLane st.int4 words st.zp ((row.drop (32 * h)).take 32) o))

/-- R142: the 64 INT32 values of a bias word. -/
def Dev.biasWord (d : Dev) (u w : Nat) : List Int :=
  let bs := d.weightWord u 0 w
  (upTo 64).map (fun o => sx 32 (leAt bs (4 * o) 4))

/-- R150: the words a repetition advances by. -/
def VuStep.stride (st : VuStep) : Nat := if st.wAdv then (if st.int4 then 4 else 8) else 0

/-- R150 step 1: the accumulators at the start of an accumulation. -/
def Dev.vuInit (d : Dev) (u : Nat) (st : VuStep) (x : VuPos) : VuPos :=
  if x.accOpen then x
  else
    let bias := if st.accInit = 2 then d.biasWord u (st.bAddr + (if st.wAdv then x.rep else 0)) else List.replicate 64 0
    { x with accOpen := true, across := false, bias := bias, acc0 := bias, acc1 := List.replicate 64 0, accBad := false, q := 0, e2 := 0 }

/-- R150 step 3: the MAC turns of the held row. -/
def Dev.vuMac (d : Dev) (u : Nat) (st : VuStep) (x : VuPos) : VuPos :=
  let row := x.held.getD []
  let base := st.wBase + x.rep * st.stride
  { x with
    acc0 := d.macHalf u 0 base st row x.acc0, acc1 := d.macHalf u 1 base st row x.acc1, q := x.heldQ, e2 := x.heldE2 }

/-- R150: the accumulation ends with this repetition. -/
def VuStep.ends (st : VuStep) (rep : Nat) : Bool := st.endAcc == 1 || (st.endAcc == 2 && rep == st.repeats)

/-- R150: the repetition is over: the next one, the next step, or the end of the cycle in stages 0 and 1. -/
def VuPos.next (x : VuPos) (st : VuStep) : VuPos :=
  let y := { x with rowGot := false, scaleGot := false, macDone := false }
  if x.rep < st.repeats then { y with rep := x.rep + 1 }
  else if st.last then { y with running := false, step := 0, rep := 0 }
  else { y with step := x.step + 1, rep := 0, across := x.accOpen }

/-- R155: an accumulation that waits in stage 1 passes to stage 2 once that is free. -/
def VuPos.pass (x : VuPos) : VuPos := if x.s2.isNone then { x with s2 := x.s1, s1 := none } else x

/-- R151 step 1: the repetition's new row is taken, where it is there. -/
def Dev.vuTakeRow (d : Dev) (u b v : Nat) (st : VuStep) : Dev :=
  let x := d.vu u
  if st.rowIn ≠ 1 ∨ x.rowGot then d
  else match d.ready? (vuQ b v 0) with
    | none => d
    | some t =>
      let d := d.vuToken u (vuQ b v 0) x.cycle t
      let x := d.vu u
      d.setVu u { x with
        rowGot := true, held := some (unpackLanes 8 64 t.payload.toNat), heldQ := 0, heldE2 := 0,
        loopWait := 0, loopOver := x.loopOver + x.loopWait }

/-- R151 step 2: its scale token is taken, where it is there. -/
def Dev.vuTakeScale (d : Dev) (u b v : Nat) (st : VuStep) : Dev :=
  let x := d.vu u
  if st.rowIn ≠ 1 ∨ !st.scaleIn ∨ !x.rowGot ∨ x.scaleGot then d
  else match d.ready? (vuQ b v 2) with
    | none => d
    | some t =>
      let d := d.vuToken u (vuQ b v 2) x.cycle t
      d.setVu u { d.vu u with
        scaleGot := true, heldQ := bitsOf t.payload.toNat 0 8, heldE2 := bitsOf t.payload.toNat 8 6 }

/-- R150, R151: everything the repetition takes before its MAC turns is there. -/
def VuPos.fed (x : VuPos) (st : VuStep) : Bool :=
  if st.rowIn = 0 then true
  else if st.rowIn = 1 then x.rowGot && (!st.scaleIn || x.scaleGot)
  else x.loopWait == 0

/-- VU_ROW_INTAKE: a repetition initialises its accumulation, takes its row and scale token and runs its MAC turns
(R150, R151). While FLUSH is in sight only an accumulation that has begun goes on (R159). -/
def vuRowIntake (u : Nat) (p : VuParity) (d : Dev) : Dev :=
  match d.vuWorks u with
  | none => d
  | some (b, v) =>
    let x := (d.vu u).pass
    let st := d.vuStepAt (vuWindow u) x.step
    if !x.running || x.macDone || x.s1.isSome || (d.vuFlushing u b v && !x.accOpen) then d
    else d.vuWith u p (fun d =>
      let d := d.setVu u (d.vuInit u st x)
      let d := (d.vuTakeRow u b v st).vuTakeScale u b v st
      let x := d.vu u
      if !x.fed st then d
      else
        let y := if st.rowIn = 0 then x else d.vuMac u st x
        let y := { y with macDone := true, accBad := y.accBad || p.pipe }
        let d := d.setVu u (if st.ends x.rep then y else y.next st)
        d.vuBusy u st.rowTurns)

/-- VU_ROW_INTAKE. -/
def execVuRowIntake (unit : Nat) (bad : VuParity) (s : State) : Host.Outcome State Fault Refusal :=
  s.onDev (Wf.vuRowIntake unit bad) (vuRowIntake unit bad)

/-! ## End of accumulation (R144) -/

/-- An accumulation still to take its I16 row from the chain input stands before this one. -/
def Dev.ewPending (d : Dev) (w : Nat) (x : VuPos) : Bool :=
  (x.s1.map (fun a => (d.vuStepAt w a.step).ew != 0 && decide (a.ew.length < 2))).getD false
    || (x.s2.map (fun a => (d.vuStepAt w a.step).ew != 0 && decide (a.ew.length < 2))).getD false

/-- R151 step 3: the chain tokens at hand are taken, up to four. -/
def Dev.takeChain (u q : Nat) : Nat → Dev → Dev
  | 0, d => d
  | n + 1, d =>
    let x := d.vu u
    if 4 ≤ x.chain.length then d
    else match d.ready? q with
      | none => d
      | some t =>
        let d := d.vuToken u q x.cycle t
        Dev.takeChain u q n (d.setVu u { d.vu u with chain := x.chain ++ [t] })

/-- END_OF_ACCUMULATION: stage 1 combines both stages and any chained partial (R144), and the next repetition follows. -/
def endOfAccumulation (u : Nat) (p : VuParity) (d : Dev) : Dev :=
  match d.vuWorks u with
  | none => d
  | some (b, v) =>
    let x := (d.vu u).pass
    let w := vuWindow u
    let st := d.vuStepAt w x.step
    if !x.running || !x.macDone || x.s1.isSome || (st.chainAdd && d.ewPending w x) then d
    else d.vuWith u p (fun d =>
      let d := d.setVu u x
      let d := if st.chainAdd then Dev.takeChain u (vuQ b v 1) 4 d else d
      let x := d.vu u
      if st.chainAdd && decide (x.chain.length < 4) then d
      else
        let ch := if st.chainAdd then x.chain.flatMap (fun t => unpackSigned 32 16 t.payload.toNat) else []
        let a : VuAcc := {
          cycle := x.cycle, last := st.last && x.rep == st.repeats, step := x.step,
          lanes := (upTo 64).map (fun o => acc32 (x.acc1.getD o 0 + x.acc0.getD o 0 + ch.getD o 0)), bias := x.bias, q := x.q,
          e2 := x.e2, ew := [], done := false, out := [], zero := x.accBad || p.pipe }
        let y := { x with
          s1 := some a, accOpen := false, chain := [], loopWait := x.loopWait + b2n (st.outFmt == 5) }
        (d.setVu u ((y.next st).pass)).vuBusy u st.endTurns)

/-- END_OF_ACCUMULATION. -/
def execEndOfAccumulation (unit : Nat) (bad : VuParity) (s : State) : Host.Outcome State Fault Refusal :=
  s.onDev (Wf.endOfAccumulation unit bad) (endOfAccumulation unit bad)

/-! ## Stage 2 (R145, R182) -/

/-- R169: multiplier and shift of channel o in table r. -/
def Dev.rescaleEntry (d : Dev) (w r o : Nat) : Nat × Nat :=
  let off := BLK_VU_RESCALE w r (o / 2)
  if o % 2 = 0 then (d.fget ⟨off, 0, 16⟩, d.fget ⟨off, 16, 6⟩) else (d.fget ⟨off, 32, 16⟩, d.fget ⟨off, 48, 6⟩)

/-- R182: N / 2^t rounded, before the clamp. -/
def rescaleLane (scaleIn : Bool) (acc bias : Int) (m sh q e2 : Nat) : Int :=
  if scaleIn then rndDiv ((m : Int) * ((acc - bias) * (q : Int) * (2 ^ e2 : Nat) + bias * (2 ^ 40 : Nat))) (2 ^ (sh + 40))
  else rndDiv (acc * (m : Int)) (2 ^ sh)

/-- R145: an entry of the Hadamard matrix times a value. -/
def hadTerm (i j : Nat) (x : Int) : Int := if popCount 6 (i &&& j) % 2 = 0 then x else -x

/-- R145: the 64-point rotation, before the clamp. -/
def hadamard (xs : List Int) : List Int :=
  (upTo 64).map (fun j => rndDiv ((xs.zipIdx.map (fun e => hadTerm e.2 j e.1)).sum) 8)

/-- A lane lies outside 16 bits. -/
def saturates (xs : List Int) : Bool := xs.any (fun x => sat16 x != x)

/-- R145: stage 2's row, and whether a lane saturated in an operation whose result is kept (R183). -/
def Dev.transformRow (d : Dev) (w : Nat) (st : VuStep) (a : VuAcc) : List Int × Bool :=
  let r := (upTo 64).map (fun o =>
    let e := d.rescaleEntry w st.rsSel o
    rescaleLane st.scaleIn (a.lanes.getD o 0) (a.bias.getD o 0) e.1 e.2 a.q a.e2)
  let x := r.map sat16
  let v := a.ew.flatMap (fun t => unpackSigned 16 32 t.payload.toNat)
  let r2 := if st.ew = 0 then x else x.zipIdx.map (fun e => if st.ew = 1 then e.1 + v.getD e.2 0 else e.1 - v.getD e.2 0)
  let y := r2.map sat16
  let r3 := if st.had then hadamard y else y
  (r3.map sat16, (st.outFmt != 4 && saturates r) || saturates r2 || saturates r3)

/-- R151 step 4: the I16 tokens at hand are taken, up to two. -/
def Dev.takeEw (u q : Nat) : Nat → Dev → Dev
  | 0, d => d
  | n + 1, d =>
    let x := d.vu u
    match x.s2 with
    | none => d
    | some a =>
      if 2 ≤ a.ew.length then d
      else match d.ready? q with
        | none => d
        | some t =>
          let d := d.vuToken u q a.cycle t
          Dev.takeEw u q n (d.setVu u { d.vu u with s2 := some { a with ew := a.ew ++ [t] } })

/-- VU_TRANSFORM: stage 2 rescales, applies the elementwise operation and the rotation (R145). -/
def vuTransform (u : Nat) (p : VuParity) (d : Dev) : Dev :=
  match d.vuWorks u with
  | none => d
  | some (b, v) =>
    let x := (d.vu u).pass
    match x.s2 with
    | none => d
    | some a =>
      if a.done then d
      else d.vuWith u p (fun d =>
        let w := vuWindow u
        let st := d.vuStepAt w a.step
        let d := d.setVu u x
        let d := if st.ew = 0 then d else Dev.takeEw u (vuQ b v 1) 2 d
        let x := d.vu u
        match x.s2 with
        | none => d
        | some a =>
          if st.ew ≠ 0 ∧ a.ew.length < 2 then d
          else
            let r := d.transformRow w st a
            let d := d.when r.2 (fun d => d.bump (BLK_VU_ERR_SAT16 w))
            (d.setVu u { x with s2 := some { a with done := true, out := r.1, zero := a.zero || p.pipe } }).vuBusy u st.midTurns)

/-- VU_TRANSFORM. -/
def execVuTransform (unit : Nat) (bad : VuParity) (s : State) : Host.Outcome State Fault Refusal :=
  s.onDev (Wf.vuTransform unit bad) (vuTransform unit bad)

/-! ## Stage 3 (R146 to R148, R176 to R181) -/

/-- R146, R170: entry i of activation table a. -/
def Dev.actEntry (d : Dev) (w a i : Nat) : Int := sx 16 (d.fget ⟨BLK_VU_ACT w a (i / 4), 16 * (i % 4), 16⟩)

/-- R146: the activation of one lane. -/
def Dev.activate (d : Dev) (w act : Nat) (x : Int) : Int :=
  if act = 0 then x
  else
    let n := wrapTo 16 x
    let u := (n / 256) ^^^ 0x80
    let t := d.actEntry w (act - 1) u
    let b := d.actEntry w (act - 1) (if u < 255 then u + 1 else 255)
    t + rndDiv ((b - t) * ((n % 256 : Nat) : Int)) 256

/-- R176: the reach K. -/
def quantReach (zp : Nat) : Nat := if zp = 0 then 255 else min zp (255 - zp)
/-- R176: the row magnitude m. -/
def quantMag (zp : Nat) (xs : List Int) : Nat := xs.foldl (fun m x => max m (if zp = 0 then x.toNat else x.natAbs)) 0
/-- R177: 2^(50 − E2) as a numerator and a denominator. -/
def pow50 (e2 : Nat) : Nat × Nat := (2 ^ (50 - e2), 2 ^ (e2 - 50))

/-- R177, R178: the row's code q and flag. -/
def quantCode (fixed : Bool) (fixedQ zp s2 m : Nat) : Nat × Nat :=
  let pw := pow50 (s2Exp s2)
  let num := m * pw.1
  let den := quantReach zp * (1024 + s2Frac s2) * pw.2
  if fixed then
    (fixedQ, if m = 0 then fFlat else if fixedQ * den < num then fSat else if 2 * num ≤ fixedQ * den then fFloor else fNone)
  else if m = 0 then (1, fFlat)
  else if 255 * den < num then (255, fSat)
  else if num < den then (1, fFloor)
  else (ceilDiv num den, fNone)

/-- R179: the code of a lane. -/
def quantLane (q zp s2 : Nat) (x : Int) : Nat :=
  let pw := pow50 (s2Exp s2)
  (clampI 0 255 ((zp : Int) + rndDiv (x * (pw.1 : Int)) (q * (1024 + s2Frac s2) * pw.2))).toNat

/-- R181: a row quantised in a slot: codes, q, E2 and flag. -/
def Dev.quantise (d : Dev) (w : Nat) (st : VuStep) (xs : List Int) : List Nat × Nat × Nat × Nat :=
  let s2 := d.fget (BLK_VU_S2_S2 w st.slot)
  let zp := d.fget (BLK_VU_S2_OUT_ZP w st.slot)
  let r := quantCode st.fixed (d.fget (BLK_VU_S2_FIXED_Q w st.slot)) zp s2 (quantMag zp xs)
  (xs.map (quantLane r.1 zp s2), r.1, s2Exp s2, r.2)

/-- R181: the counts of a quantised row. -/
def Dev.countRow (d : Dev) (w slot flag : Nat) : Dev :=
  (d.bump (BLK_VU_QCOUNT_COUNT w slot 0)).when (flag != fNone) (fun d => d.bump (BLK_VU_QCOUNT_COUNT w slot flag))

/-- R140: a scale token's payload. -/
def scaleToken (q e2 flag : Nat) : Nat :=
  q % 256 + e2 % 64 * 2 ^ 8 + b2n (flag == fSat) * 2 ^ 14 + b2n (flag == fFloor) * 2 ^ 15 + b2n (flag == fFlat) * 2 ^ 16

/-- R148: the largest value and the lowest lane that holds it. -/
def argmax (xs : List Int) : Int × Nat :=
  xs.zipIdx.foldl (fun m e => if m.1 < e.1 then e else m) (xs.headD 0, 0)

/-- R140, R148: the payload of a reduction. -/
def reduceRow (red : Nat) (xs : List Int) : Nat :=
  if red = 1 then wrapTo 16 (argmax xs).1
  else if red = 2 then wrapTo 16 (xs.foldl min (xs.headD 0))
  else wrapTo 16 (argmax xs).1 + (argmax xs).2 * 2 ^ 16

/-- A DATA token of an ESQ. -/
def dataToken (esq payload : Nat) : Token := ⟨esq, .data, BitVec.ofNat 512 payload⟩

/-- R139: a row's vector tokens, zero where a pipeline register failed. -/
def rowTokens (esq : Nat) (zero : Bool) (width per count : Nat) (xs : List Int) : List Token :=
  (upTo count).map (fun k => dataToken esq (if zero then 0 else packLanes width ((xs.drop (per * k)).take per)))

/-- R151: what one accumulation sends, in order: (network, token). -/
def rowSends (st : VuStep) (a : VuAcc) (esq : Nat) (scaleOut : Bool) (ys : List Int) (qr : List Nat × Nat × Nat × Nat) : List (Nat × Token) :=
  let vec := if st.outFmt = 1 then rowTokens esq a.zero 8 64 1 (qr.1.map (fun c : Nat => (c : Int)))
    else if st.outFmt = 2 then rowTokens esq a.zero 16 32 2 ys
    else if st.outFmt = 3 then rowTokens esq a.zero 16 32 1 ys
    else if st.outFmt = 4 then rowTokens esq a.zero 32 16 4 a.lanes
    else []
  vec.map (fun t => (1, t))
    ++ (if st.outFmt = 1 ∧ scaleOut then [(0, dataToken esq (scaleToken qr.2.1 qr.2.2.1 qr.2.2.2))] else [])
    ++ (if st.red = 0 then [] else [(0, dataToken esq (if a.zero then 0 else reduceRow st.red ys))])

/-- R157: the pipeline parity of an accumulation that reaches its output: a notice and a count; the third in a row is a
hard fault. -/
def Dev.pipeParity (d : Dev) (u : Nat) (a : VuAcc) (zero : Bool) : Bool × Dev :=
  let n := if zero then (d.vu u).parityRun + 1 else 0
  let d := d.setVu u { d.vu u with parityRun := n }
  if !zero then (false, d)
  else
    let d := (d.notice 7 u u (pgetD (d.vu u).esqs a.cycle 0)).bump (BLK_VU_ERR_PIPE_PARITY (vuWindow u))
    if 3 ≤ n then (true, d.vuHard u) else (false, d)

/-- R150: a LOOP row becomes the held row, unless a row taken since has replaced it. -/
def VuPos.looped (x : VuPos) (row : List Nat) (q e2 : Nat) : VuPos :=
  if x.loopOver = 0 then { x with held := some row, heldQ := q, heldE2 := e2, loopWait := x.loopWait - 1 }
  else { x with loopOver := x.loopOver - 1 }

/-- Stage 3 takes the row of stage 2: activation, quantiser, reduction. A pipeline parity error zeroes the row's tokens, its
reduction and the row a LOOP holds; the scale token, the counts and the evidence are those of the row as computed (DESIGN
CHOICE, log entry 37). -/
def Dev.outputRow (d : Dev) (u v : Nat) (st : VuStep) (a : VuAcc) : Dev :=
  let w := vuWindow u
  let ys := a.out.map (d.activate w st.act)
  let quant := st.outFmt == 1 || st.outFmt == 5
  let qr := d.quantise w st ys
  let d := d.when quant (fun d => d.countRow w st.slot qr.2.2.2)
  let sends := rowSends st a (pgetD (d.vu u).esqs a.cycle 0) (d.flag (BLK_VU_CFG_SCALE_OUT w)) ys qr
  let x := d.vu u
  let x := { x with
    s2 := none, send := sends.map (fun e : Nat × Token => (e.1, if e.1 = 1 then 8 + v else 90 + v, e.2)), sendLast := a.last,
    evidence := if quant then x.evidence ++ [(st.slot, qr.2.2.2)] else x.evidence }
  let x := if st.outFmt = 5 then x.looped (if a.zero then List.replicate 64 0 else qr.1) qr.2.1 qr.2.2.1 else x
  (d.setVu u { x.pass with sendCycle := a.cycle }).vuBusy u st.outTurns

/-- R72: the tokens stage 3 has to send leave in order as their output stages empty. -/
def Dev.vuPush (u b : Nat) : Nat → Dev → Dev
  | 0, d => d
  | n + 1, d =>
    let x := d.vu u
    match x.send with
    | [] => d
    | (net, j, t) :: r =>
      if d.stageEmpty b net j then Dev.vuPush u b n ((d.putStage b net j t).setVu u { x with send := r }) else d

/-- R147, R150, R165, R184: the last row of a cycle has left: the cycle is counted and the slots are updated, before the next
row is quantised and whatever the stages before hold (log entry 140). -/
def Dev.vuCycleEnd (d : Dev) (u : Nat) : Dev :=
  let x := d.vu u
  if x.sendLast && x.send == [] then
    ((d.setVu u { x with sendLast := false, esqs := pdel x.sendCycle x.esqs }).bump (BLK_VU_CYCLES_CYCLES (vuWindow u))).adaptAll u
  else d

/-- VU_OUTPUT: stage 3 takes the row stage 2 has finished, once its tokens before have left, and sends (R146 to R151). -/
def vuOutput (u : Nat) (p : VuParity) (d : Dev) : Dev :=
  match d.vuWorks u with
  | none => d
  | some (b, v) =>
    let x := d.vu u
    let go : Dev → Dev := fun d => (Dev.vuPush u b 6 d).vuCycleEnd u
    if x.send != [] then go d
    else match x.s2 with
      | none => d
      | some a =>
        if !a.done then d
        else d.vuWith u p (fun d =>
          let a := { a with zero := a.zero || p.pipe }
          let r := d.pipeParity u a a.zero
          if r.1 then r.2 else go (r.2.outputRow u v (d.vuStepAt (vuWindow u) a.step) a))

/-- VU_OUTPUT. -/
def execVuOutput (unit : Nat) (bad : VuParity) (s : State) : Host.Outcome State Fault Refusal :=
  s.onDev (Wf.vuOutput unit bad) (vuOutput unit bad)

/-! ## FLUSH (R159) -/

/-- R159 step 2: the accumulation in progress has what it needs to go on. -/
def Dev.vuCanGo (d : Dev) (u b v : Nat) : Bool :=
  let x := d.vu u
  let st := d.vuStepAt (vuWindow u) x.step
  let rdy := fun k => (d.ready? (vuQ b v k)).isSome
  x.running && x.accOpen &&
    (if x.macDone then !st.chainAdd || decide (4 ≤ x.chain.length) || rdy 1
     else if st.rowIn = 1 && !x.rowGot then rdy 0
     else if st.rowIn = 1 && st.scaleIn && !x.scaleGot then rdy 2
     else true)

/-- The stages behind stage 1 have something to send, or what they need to go on. -/
def Dev.vuStagesGo (d : Dev) (u b v : Nat) : Bool :=
  let x := d.vu u
  if x.send != [] then true
  else if x.drained then false
  else match x.s2 with
    | some a => if !a.done && (d.vuStepAt (vuWindow u) a.step).ew != 0 && decide (a.ew.length < 2) then (d.ready? (vuQ b v 1)).isSome else true
    | none => true

/-- R159, R185: the VU returns to step 0 without accumulators or held row; the evidence of a cycle cut short is dropped,
that of a finished cycle has been used. -/
def Dev.vuRestart (d : Dev) (u : Nat) : Dev :=
  let x := d.vu u
  d.setVu u { cycle := x.cycle, parityRun := x.parityRun }

/-- R159: the tokens ahead of each used input's FLUSH are discarded and counted. -/
def Dev.vuDiscard (d : Dev) (u b v : Nat) : Dev :=
  d.each (d.vuUsed u b v) (fun d q =>
    let r := discardToFlush (d.held q) q d
    if r.2 = 0 then r.1 else r.1.bumpBy (BLK_VU_CYCLES_FLUSH_DISCARD (vuWindow u)) r.2)

/-- R159 step 4: FLUSH goes on once every used input holds it. -/
def Dev.vuForward (d : Dev) (u b v : Nat) : Dev :=
  let w := vuWindow u
  let qs := d.vuUsed u b v
  let outs := (onesOf 2 (d.fget (BLK_VU_CFG_OUT_USED w))).map (fun k => if k = 0 then (1, 8 + v) else (0, 90 + v))
  if d.allFlush qs && outs.all (fun e => d.stageEmpty b e.1 e.2) then
    let esq := (((qs.head?).bind d.headOf).map Token.esq).getD 0
    let d := (d.each qs Dev.popSink).each outs (fun d e => d.putStage b e.1 e.2 ⟨esq, .flush, 0#512⟩)
    d.fsets [(BLK_VU_STATE_FLUSHING w, 0), (BLK_VU_STATE_FLUSHED w, 1)]
  else d

/-- VU_FLUSH (R159): what has all its inputs completes first; then the rest is discarded and FLUSH goes on. A failed VU
forwards FLUSH; what it consumes before is FAILED_UNIT_CONSUME's (R158). -/
def vuFlush (u : Nat) (d : Dev) : Dev :=
  if !isVu u then d else
  match d.vuPlace u with
  | none => d
  | some (b, v) =>
    let w := vuWindow u
    if !d.powered b || !d.flag (BLK_VU_CFG_LOADED w) || !d.vuFlushing u b v then d
    else
      let d := d.fset (BLK_VU_STATE_FLUSHING w) 1
      if d.flag (BLK_VU_STATE_FAILED w) then d.vuForward u b v
      else if d.vuCanGo u b v || d.vuStagesGo u b v then d
      else ((d.vuRestart u).vuDiscard u b v).vuForward u b v

/-- VU_FLUSH. -/
def execVuFlush (unit : Nat) (s : State) : Host.Outcome State Fault Refusal := s.onDev (Wf.vuFlush unit) (vuFlush unit)

end Sys2Proof.Machine
end

