-- ==== Sys2Proof/Machine/Mu.lean ====
section
/-!
DEFINITION. The memory units (R190 to R202): the address generators' bank accesses, decoupling queues (R221, R222), FLUSH,
failed mode, and what every failed unit consumes (R118, R158, R199). One AGU command is one access of the bank.
-/

namespace Sys2Proof.Machine

open Sys2Proof

/-! ## Places -/

/-- The MU of a block. -/
def muId (b : Nat) : Nat := unitId 2 b 0
/-- R192: the mode of AGU a. -/
def Dev.aguMode (d : Dev) (b a : Nat) : Nat := d.fget (BLK_MU_AGU_CFG_MODE b a)
/-- R193: the AGU addresses whole words. -/
def Dev.aguVec (d : Dev) (b a : Nat) : Bool := d.flag (BLK_MU_AGU_CFG_NET b a)
/-- What an AGU has in hand. -/
def Dev.agu (d : Dev) (b a : Nat) : AguPos := (pget d.fab.agus (2 * b + a)).getD {}
/-- Set what an AGU has in hand. -/
def Dev.setAgu (d : Dev) (b a : Nat) (x : AguPos) : Dev := { d with fab := { d.fab with agus := pput (2 * b + a) x d.fab.agus } }
/-- The accesses of a trigger: `COUNT`, which is held minus 1. -/
def Dev.aguCount (d : Dev) (b a : Nat) : Nat := d.fget (BLK_MU_AGU_CFG_COUNT b a) + 1
/-- The stride of an AGU. -/
def Dev.aguStride (d : Dev) (b a : Nat) : Int := d.fint (BLK_MU_AGU_CFG_STRIDE b a)
/-- R193: an offset brought into the region, counted from its first unit. -/
def Dev.aguMod (d : Dev) (b a : Nat) (i : Int) : Nat := (i % ((d.fget (BLK_MU_AGU_CFG_WRAP b a) : Nat) : Int)).toNat
/-- The pointer of an AGU. -/
def Dev.aguPtr (d : Dev) (b a : Nat) : Nat := d.fget (BLK_MU_AGU_ADDR_PTR b a)
/-- The unit at an offset from the first of the region. -/
def Dev.aguUnit (d : Dev) (b a : Nat) (i : Int) : Nat := d.fget (BLK_MU_AGU_ADDR_BASE b a) + d.aguMod b a i
/-- R193: the sink an AGU takes its triggers, data or requests from. -/
def Dev.aguSink (d : Dev) (b a : Nat) : Nat :=
  if (d.aguMode b a == 2 || d.aguMode b a == 3) && d.aguVec b a then qnum b 1 (12 + a) else qnum b 0 (88 + a)
/-- R192, R193: the source an AGU sends on, as (network, index). -/
def Dev.aguSource (d : Dev) (b a : Nat) : Nat × Nat :=
  if d.aguMode b a == 4 || ((d.aguMode b a == 1 || d.aguMode b a == 3) && !d.aguVec b a) then (0, 88 + a) else (1, 10 + a)
/-- The output stage of an AGU's source is empty. -/
def Dev.aguFree (d : Dev) (b a : Nat) : Bool := d.stageEmpty b (d.aguSource b a).1 (d.aguSource b a).2
/-- R193: an AGU sends a DATA token. -/
def Dev.aguSend (d : Dev) (b a esq : Nat) (v : Payload) : Dev := d.putStage b (d.aguSource b a).1 (d.aguSource b a).2 ⟨esq, .data, v⟩

/-- The MU can work: its domain is ON, it is loaded, and it has not failed. -/
def Dev.muWorks (d : Dev) (b : Nat) : Bool :=
  d.powered b && d.flag (BLK_MU_STATUS_LOADED b) && !d.flag (BLK_MU_STATUS_FAILED b)

/-! ## Bank accesses (R190, R191, R195, R198) -/

/-- R190: the device address of unit i of an AGU that addresses words or elements. -/
def unitAddr (b : Nat) (vec : Bool) (i : Nat) : Nat := if vec then muWordAddr b i else blkMem b + 4 * i
/-- The bytes of a unit. -/
def unitSize (vec : Bool) : Nat := if vec then 64 else 4
/-- The word a unit lies in. -/
def unitWord (vec : Bool) (i : Nat) : Nat := if vec then i else i / 16

/-- R200: the AGU may begin with a new token. -/
def Dev.muBegins (d : Dev) (b : Nat) : Bool := d.muWorks b && !d.muFlushing b
/-- R194: the operation of a REQUEST word. -/
def reqOp (t : Token) : Nat := bitsOf t.payload.toNat 30 2
/-- R195: an AGU has an access of the bank to make now. -/
def Dev.aguRequests (d : Dev) (b a : Nat) : Bool :=
  let m := d.aguMode b a
  let op := (d.agu b a).op
  let token := d.ready? (d.aguSink b a)
  d.muWorks b &&
  (if m = 1 then (op == 1 || (op == 0 && d.muBegins b && token.isSome)) && d.aguFree b a
   else if m = 2 then d.muBegins b && token.isSome
   else if m = 3 then (if op = 0 then d.muBegins b && token.isSome else d.aguFree b a)
   else if m = 4 then
     (if op = 2 then token.isSome
      else op == 0 && d.muBegins b && (token.map (fun t => reqOp t == 2 || (reqOp t == 0 && d.aguFree b a))).getD false)
   else false)
/-- R85, R195: the port serves AGU a now: the other AGU requests nothing; or the mutual-exclusion element resolved this request
against one at most 40 ps away; or it lost the grant before; or, both being new, it is AGU A. -/
def Dev.portGrants (d : Dev) (b a : Nat) (x : Access) : Bool :=
  !d.aguRequests b (1 - a) ||
  (match pget d.fab.portLost b with
   | some l => l == a
   | none => a == 0 || (x.gap.map (fun g => decide (g ≤ 40))).getD false)

/-- R191, R195, R477: accesses of the bank, counted, with a near-tie at the port where the other AGU or the spill service uses it
too. An AGU that requests besides has lost the grant. A service access takes effect with the transfer that causes it (DESIGN
CHOICE, log entry 143). -/
def Dev.bankUse (d : Dev) (b a n esq : Nat) (x : Access) : Dev :=
  let other := d.aguMode b (1 - a)
  let d := if (1 ≤ other ∧ other ≤ 4) ∨ d.areaUsed b ≠ 0 then d.tieDetect x.gap esq false else d
  let d := { d with fab := { d.fab with portLost := if d.aguRequests b (1 - a) then pput b (1 - a) d.fab.portLost else pdel b d.fab.portLost } }
  (d.bumpBy (BLK_MU_ACCESS_ACCESSES b) n).busy b 19 (2 * n)

/-- R118: a failed unit has consumed a token of an ESQ: a notice where it has not reported that ESQ. -/
def Dev.failedTakes (d : Dev) (u esq : Nat) : Dev :=
  let l := pgetD d.fab.reported u []
  if l.contains esq then d
  else ({ d with fab := { d.fab with reported := pput u (l ++ [esq]) d.fab.reported } }).notice (hardKind u) u u esq

/-- R448: the tokens in the spill area of a failed MU are consumed and their ESQs reported; FLUSH passes. -/
def Dev.spillLost (d : Dev) (b : Nat) : Dev :=
  d.each ((d.fab.spilled.map Prod.fst).filter (fun q => q / 1024 == b)) (fun d q =>
    let lost := (d.spill q).filter (fun t => t.kind != .flush)
    (d.setSpill q ((d.spill q).filter (fun t => t.kind == .flush))).each lost (fun d t => d.failedTakes (muId b) t.esq))
/-- R198, R199, R448: the MU has a hard fault. -/
def Dev.muHard (d : Dev) (b esq : Nat) : Dev :=
  let d := { d with fab := { d.fab with agus := pdel (2 * b + 1) (pdel (2 * b) d.fab.agus) } }
  ((d.showFailed (muId b)).hardFault (muId b) 0xA esq).spillLost b

/-- R198: a word's accesses that failed since it was last written, this one among them. -/
def failedReads (l : List (Nat × Nat)) (w : Nat) : List (Nat × Nat) :=
  if l.any (fun e => e.1 == w) then l.map (fun e => if e.1 = w then (w, e.2 + 1) else e) else l ++ [(w, 1)]

/-- R198: a read of a unit: its value, zero after four failed reads, and whether the MU has failed. -/
def Dev.muRead (d : Dev) (b : Nat) (vec : Bool) (i esq : Nat) (x : Access) : Nat × Bool × Dev :=
  let n := min x.fails 3
  let d := d.when (n != 0) (fun d => (d.bumpBy (BLK_MU_ERR_REREAD b) n).busy b 19 (2 * n))
  if x.fails < 4 then (d.leMem (unitAddr b vec i) (unitSize vec), false, d)
  else
    let w := unitWord vec i
    let l := failedReads (d.badLocs (muId b)) w
    let d := (((d.setBad (muId b) l).notice 9 (muId b) (muId b) esq).bump (BLK_MU_ERR_ZEROED b))
    if l.any (fun e => e.1 == w && decide (3 ≤ e.2)) then (0, true, d.muHard b esq) else (0, false, d)

/-- R198: a write of a unit. -/
def Dev.muWrite (d : Dev) (b : Nat) (vec : Bool) (i v : Nat) : Dev :=
  (d.poke (unitAddr b vec i) (leBytes (unitSize vec) v)).mend (muId b) [unitWord vec i]

/-! ## READ, WRITE and WINDOW (R193) -/

/-- R193: `PTR` moves on by n strides. -/
def Dev.aguAdvance (d : Dev) (b a : Nat) (n : Nat) : Dev :=
  d.fset (BLK_MU_AGU_ADDR_PTR b a) (d.aguMod b a ((d.aguPtr b a : Int) + (n : Int) * d.aguStride b a))

/-- R193: the AGU takes the token that starts a group of accesses, where it has none in hand. -/
def Dev.aguTake (d : Dev) (b a : Nat) (f : Token → AguPos) : Dev :=
  if (d.agu b a).op != 0 || !d.muBegins b then d
  else match d.ready? (d.aguSink b a) with
    | none => d
    | some t => (d.popSink (d.aguSink b a)).setAgu b a (f t)

/-- R193: one read of a trigger: unit i is read and sent. -/
def Dev.aguReadSend (d : Dev) (b a i : Nat) (x : Access) (k : Dev → Dev) : Dev :=
  let g := d.agu b a
  let d := d.bankUse b a 1 g.esq x
  let r := d.muRead b (d.aguVec b a) i g.esq x
  if r.2.1 then r.2.2 else k (r.2.2.aguSend b a g.esq (BitVec.ofNat 512 r.1))

/-- AGU_READ (R193): the next access of the trigger in hand, or of the next trigger. -/
def aguRead (b a : Nat) (x : Access) (d : Dev) : Dev :=
  if d.aguMode b a != 1 || !d.muWorks b then d
  else
    let d := d.aguTake b a (fun t =>
      { op := 1, esq := t.esq, index := if d.flag (BLK_MU_AGU_CFG_INDEXED b a) then bitsOf t.payload.toNat 0 17 else 0 })
    let g := d.agu b a
    if g.op != 1 || !d.aguFree b a || !d.portGrants b a x then d
    else d.aguReadSend b a (d.aguUnit b a ((d.aguPtr b a : Int) + g.index + g.elem * d.aguStride b a)) x (fun d =>
      if g.elem + 1 < d.aguCount b a then d.setAgu b a { g with elem := g.elem + 1 }
      else (d.setAgu b a {}).when (d.flag (BLK_MU_AGU_CFG_ADVANCE b a)) (fun d => d.aguAdvance b a (d.aguCount b a)))

/-- AGU_READ. -/
def execAguRead (b a : Nat) (x : Access) (s : State) : Host.Outcome State Fault Refusal :=
  s.onDev (Wf.aguRead b a x) (aguRead b a x)

/-- AGU_WRITE (R193): the next token is written; after a group `PTR` may advance. -/
def aguWrite (b a : Nat) (x : Access) (d : Dev) : Dev :=
  if d.aguMode b a != 2 || !d.muBegins b || !d.portGrants b a x then d
  else match d.ready? (d.aguSink b a) with
    | none => d
    | some t =>
      let g := d.agu b a
      let i := d.aguUnit b a ((d.aguPtr b a : Int) + g.group * d.aguStride b a)
      let d := ((d.popSink (d.aguSink b a)).bankUse b a 1 t.esq x).muWrite b (d.aguVec b a) i t.payload.toNat
      if g.group + 1 < d.aguCount b a then d.setAgu b a { g with esq := t.esq, group := g.group + 1 }
      else (d.setAgu b a { g with esq := t.esq, group := 0 }).when (d.flag (BLK_MU_AGU_CFG_ADVANCE b a))
        (fun d => d.aguAdvance b a (d.aguCount b a))

/-- AGU_WRITE. -/
def execAguWrite (b a : Nat) (x : Access) (s : State) : Host.Outcome State Fault Refusal :=
  s.onDev (Wf.aguWrite b a x) (aguWrite b a x)

/-- AGU_WINDOW (R193): the write of the next token, or the next read of the token in hand. -/
def aguWindow (b a : Nat) (x : Access) (d : Dev) : Dev :=
  if d.aguMode b a != 3 || !d.muWorks b || !d.portGrants b a x then d
  else
    let g := d.agu b a
    if g.op = 0 then
      if !d.muBegins b then d
      else match d.ready? (d.aguSink b a) with
        | none => d
        | some t =>
          (((d.popSink (d.aguSink b a)).bankUse b a 1 t.esq x).muWrite b (d.aguVec b a) (d.aguUnit b a (d.aguPtr b a)) t.payload.toNat).setAgu
            b a { op := 1, esq := t.esq }
    else if !d.aguFree b a then d
    else d.aguReadSend b a (d.aguUnit b a ((d.aguPtr b a : Int) - g.elem * d.aguStride b a)) x (fun d =>
      if g.elem + 1 < d.aguCount b a then d.setAgu b a { g with elem := g.elem + 1 }
      else (d.setAgu b a {}).aguAdvance b a 1)

/-- AGU_WINDOW. -/
def execAguWindow (b a : Nat) (x : Access) (s : State) : Host.Outcome State Fault Refusal :=
  s.onDev (Wf.aguWindow b a x) (aguWindow b a x)

/-! ## REQUEST (R194) -/

/-- R194: the element a REQUEST word names. -/
def Dev.reqUnit (d : Dev) (b a : Nat) (t : Token) : Nat := d.aguUnit b a (bitsOf t.payload.toNat 0 17)

/-- R194: the request at the head, of an operation, where the AGU can begin with it. A reserved operation is discarded
and counted in its turn by whichever request command finds it. -/
def Dev.request? (d : Dev) (b a op : Nat) : Option Token :=
  if d.aguMode b a = 4 ∧ d.muBegins b ∧ (d.agu b a).op = 0 then
    match d.ready? (d.aguSink b a) with
    | some t => if reqOp t = op then some t else none
    | none => none
  else none

/-- R194: requests with a reserved operation at the head are discarded and counted. -/
def Dev.dropBadReq (d : Dev) (b a : Nat) : Dev :=
  match d.request? b a 3 with
  | none => d
  | some _ => (d.popSink (d.aguSink b a)).bump (BLK_MU_ACCESS_BAD_REQ b)

/-- REQUEST_READ (R194). -/
def requestRead (b a : Nat) (x : Access) (d : Dev) : Dev :=
  let d := d.dropBadReq b a
  match d.request? b a 0 with
  | none => d
  | some t =>
    if !d.aguFree b a || !d.portGrants b a x then d
    else
      let d := (d.popSink (d.aguSink b a)).bankUse b a 1 t.esq x
      let r := d.muRead b false (d.reqUnit b a t) t.esq x
      if r.2.1 then r.2.2 else r.2.2.aguSend b a t.esq (BitVec.ofNat 512 r.1)

/-- REQUEST_READ. -/
def execRequestRead (b a : Nat) (x : Access) (s : State) : Host.Outcome State Fault Refusal :=
  s.onDev (Wf.requestRead b a x) (requestRead b a x)

/-- R194, R221: the data token of a WRITE or POST with another ESQ: a notice for both, and a count. -/
def Dev.pairCheck (d : Dev) (b q esq : Nat) (t : Token) : Dev :=
  if t.esq = esq then d
  else (d.tagMismatch (muId b) (d.origin (q / 1024) (q / 256 % 4) (q % 256)) [esq, t.esq]).bump (BLK_MU_ERR_TAG_MISMATCH b)

/-- REQUEST_WRITE (R194): the request is taken, and the next token at the sink, once it is there, is written. -/
def requestWrite (b a : Nat) (x : Access) (d : Dev) : Dev :=
  let d := d.dropBadReq b a
  let d := match d.request? b a 1 with
    | none => d
    | some t => (d.popSink (d.aguSink b a)).setAgu b a { op := 2, esq := t.esq, index := d.reqUnit b a t }
  let g := d.agu b a
  if d.aguMode b a != 4 || g.op != 2 || !d.muWorks b || !d.portGrants b a x then d
  else match d.ready? (d.aguSink b a) with
    | none => d
    | some t =>
      let d := (d.popSink (d.aguSink b a)).pairCheck b (d.aguSink b a) g.esq t
      ((d.bankUse b a 1 g.esq x).muWrite b false g.index t.payload.toNat).setAgu b a {}

/-- REQUEST_WRITE. -/
def execRequestWrite (b a : Nat) (x : Access) (s : State) : Host.Outcome State Fault Refusal :=
  s.onDev (Wf.requestWrite b a x) (requestWrite b a x)

/-- REQUEST_ADD (R194): one read-modify-write of two accesses. -/
def requestAdd (b a : Nat) (x : Access) (d : Dev) : Dev :=
  let d := d.dropBadReq b a
  match d.request? b a 2 with
  | none => d
  | some t =>
    if !d.portGrants b a x then d else
    let i := d.reqUnit b a t
    let d := (d.popSink (d.aguSink b a)).bankUse b a 2 t.esq x
    let r := d.muRead b false i t.esq x
    if r.2.1 then r.2.2
    else r.2.2.muWrite b false i (wrapTo 32 ((r.1 : Int) + sx 13 (bitsOf t.payload.toNat 17 13)))

/-- REQUEST_ADD. -/
def execRequestAdd (b a : Nat) (x : Access) (s : State) : Host.Outcome State Fault Refusal :=
  s.onDev (Wf.requestAdd b a x) (requestAdd b a x)

/-! ## Decoupling queues (R221, R222) -/

/-- R221: the operation of a DQ request word. -/
def dqOp (t : Token) : Nat := bitsOf t.payload.toNat 28 4
/-- R221: its inbound entry. -/
def dqTag (t : Token) : Nat := bitsOf t.payload.toNat 24 4
/-- R221: its word, counted from the window's base. -/
def dqOffset (t : Token) : Nat := bitsOf t.payload.toNat 0 24
/-- R232: the device address of a word of the window, where it lies within it. -/
def Dev.dqAddr (d : Dev) (b off : Nat) : Option Nat :=
  if 64 * off < d.fget (BLK_MU_DQ_SIZE_MIB b) * 0x100000 then some (d.fget (BLK_MU_DQ_BASE_MIB b) * 0x100000 + 64 * off) else none
/-- The inbound entries of a block. -/
def Dev.dq (d : Dev) (b : Nat) : List DqEntry := pgetD d.fab.dq b []
/-- Set the inbound entries of a block. -/
def Dev.setDq (d : Dev) (b : Nat) (l : List DqEntry) : Dev := { d with fab := { d.fab with dq := pput b l d.fab.dq } }
/-- R222: an error of a decoupling queue. -/
def Dev.dqError (d : Dev) (b : Nat) : Dev := d.bump (BLK_MU_ACCESS_DQ_ERROR b)

/-- R221: a DQ request of an operation stands ready at an AGU that has nothing in hand. -/
def Dev.dqReady (d : Dev) (b op a : Nat) : Bool :=
  d.aguMode b a == 6 && d.muBegins b && (d.agu b a).op == 0 &&
    ((d.ready? (qnum b 0 (88 + a))).map (fun t => dqOp t == op || (decide (3 ≤ op) && decide (3 ≤ dqOp t)))).getD false

/-- R222: a reserved operation is counted and discarded. -/
def Dev.dropBadDq (d : Dev) (b : Nat) : Dev :=
  d.each ((upTo 2).filter (d.dqReady b 3)) (fun d a => (d.popSink (qnum b 0 (88 + a))).bump (BLK_MU_ACCESS_BAD_REQ b))

/-- The AGU, A before B, whose DQ request of an operation is ready, with the request taken from its sink. -/
def Dev.dqTake (d : Dev) (b op : Nat) : Option (Nat × Token × Dev) :=
  match (upTo 2).find? (d.dqReady b op) with
  | none => none
  | some a => (d.ready? (qnum b 0 (88 + a))).map (fun t => (a, t, d.popSink (qnum b 0 (88 + a))))

/-- FETCH (R221, R222): the word is asked for; a word that no WAIT has taken, or an offset beyond the window, gives a
zero word and an error. -/
def fetch (b : Nat) (d : Dev) : Dev :=
  let d := d.dropBadDq b
  match d.dqTake b 0 with
  | none => d
  | some (a, t, d) =>
    let d := d.setAgu b a { d.agu b a with esq := t.esq }
    let l := d.dq b
    let rest := l.filter (fun e => e.tag != dqTag t)
    match d.dqAddr b (dqOffset t) with
    | none => (d.dqError b).setDq b (rest ++ [⟨dqTag t, 0, 0#512, true⟩])
    | some addr =>
      if l.any (fun e => e.tag == dqTag t) then (d.dqError b).setDq b (rest ++ [⟨dqTag t, addr, 0#512, true⟩])
      else d.setDq b (l ++ [⟨dqTag t, addr, BitVec.ofNat 512 (d.leMem addr 64), false⟩])

/-- FETCH. -/
def execFetch (b : Nat) (s : State) : Host.Outcome State Fault Refusal := s.onDev (Wf.fetch b) (fetch b)

/-- R221: an AGU that holds a WAIT sends its word once it has come. -/
def Dev.dqReply (b : Nat) (d : Dev) (a : Nat) : Dev :=
  let g := d.agu b a
  if d.aguMode b a != 6 || g.op != 4 || !d.muWorks b || !d.aguFree b a then d
  else match (d.dq b).find? (fun e => e.tag == g.index) with
    | none => ((d.dqError b).aguSend b a g.esq 0#512).setAgu b a { esq := g.esq }
    | some e =>
      if !e.here then d
      else ((d.aguSend b a g.esq e.word).setDq b ((d.dq b).filter (fun x => x.tag != g.index))).setAgu b a { esq := g.esq }

/-- R218: an uncorrectable read is counted for its package and entered in the run log. -/
def Dev.lpxBad (d : Dev) (addr : Nat) : Dev :=
  let pk := addr / 256 % 5
  (d.bump (LPX_ERR_UNCORRECTED pk)).log 4 ([pk] ++ List.replicate 7 0 ++ leBytes 8 addr)

/-- R218: the errors that a read of device memory corrected are counted for its package. -/
def Dev.lpxFixed (d : Dev) (addr corrected : Nat) : Dev := d.when (corrected != 0) (fun d => d.bumpBy (LPX_ERR_CORRECTED (addr / 256 % 5)) corrected)

/-- FETCH_COMPLETE (R221, R222): the word arrives, zero where its read was uncorrectable, and releases a WAIT; errors corrected
on the way are counted (R218). -/
def fetchComplete (b tag : Nat) (x : LpRead) (d : Dev) : Dev :=
  match (d.dq b).find? (fun e => e.tag == tag && !e.here) with
  | none => d
  | some e =>
    let d := (d.lpxFixed e.addr x.corrected).when x.bad (fun d => (d.lpxBad e.addr).dqError b)
    let d := d.setDq b ((d.dq b).map (fun q => if q.tag = tag then { q with word := if x.bad then 0#512 else q.word, here := true } else q))
    d.each (upTo 2) (Dev.dqReply b)

/-- FETCH_COMPLETE. -/
def execFetchComplete (b tag : Nat) (x : LpRead) (s : State) : Host.Outcome State Fault Refusal :=
  s.onDev (Wf.fetchComplete b tag x) (onPower b (fetchComplete b tag x))

/-- WAIT (R221, R222): the request is taken; the entry's word is sent once it has come. -/
def wait (b : Nat) (d : Dev) : Dev :=
  let d := d.dropBadDq b
  let d := match d.dqTake b 1 with
    | none => d
    | some (a, t, d) => d.setAgu b a { op := 4, esq := t.esq, index := dqTag t }
  d.each (upTo 2) (Dev.dqReply b)

/-- WAIT. -/
def execWait (b : Nat) (s : State) : Host.Outcome State Fault Refusal := s.onDev (Wf.wait b) (wait b)

/-- R221: an AGU that holds a POST writes the data token once it is there; beyond the window nothing is written. -/
def Dev.dqPost (b : Nat) (d : Dev) (a : Nat) : Dev :=
  let g := d.agu b a
  let q := qnum b 1 (12 + a)
  if d.aguMode b a != 6 || g.op != 3 || !d.muWorks b then d
  else match d.ready? q with
    | none => d
    | some t =>
      let d := ((d.popSink q).pairCheck b q g.esq t).setAgu b a { esq := g.esq }
      match d.dqAddr b g.index with
      | none => d.dqError b
      | some addr => d.put addr (leBytes 64 t.payload.toNat)

/-- POST (R221, R222): the request is taken; its data token is written once it is there. -/
def post (b : Nat) (d : Dev) : Dev :=
  let d := d.dropBadDq b
  let d := match d.dqTake b 2 with
    | none => d
    | some (a, t, d) => d.setAgu b a { op := 3, esq := t.esq, index := dqOffset t }
  d.each (upTo 2) (Dev.dqPost b)

/-- POST. -/
def execPost (b : Nat) (s : State) : Host.Outcome State Fault Refusal := s.onDev (Wf.post b) (post b)

/-! ## FLUSH (R200) -/

/-- Take the head token of an MU input. -/
def Dev.muPop (d : Dev) (e : Bool × Nat) : Dev :=
  if e.1 then { d with fab := { d.fab with lookback := popBuf d.fab.lookback e.2 } } else d.popSink e.2

/-- R200: discard the tokens ahead of an input's FLUSH; how many. -/
def muDiscard : Nat → Bool × Nat → Dev → Dev × Nat
  | 0, _, d => (d, 0)
  | fuel + 1, e, d =>
    match d.muHead e with
    | none => (d, 0)
    | some t => if t.kind = .flush then (d, 0) else let r := muDiscard fuel e (d.muPop e); (r.1, r.2 + 1)

/-- The tokens an MU input holds. -/
def Dev.muHeld (d : Dev) (e : Bool × Nat) : Nat := if e.1 then (pgetD d.fab.lookback e.2 []).length else d.held e.2

/-- R106, R200: what an AGU has in hand goes on while its next token may come; a FLUSH in that token's place ends it. -/
def Dev.aguHolds (d : Dev) (b a : Nat) : Bool :=
  let g := d.agu b a
  let q := if g.op = 3 then qnum b 1 (12 + a) else d.aguSink b a
  if g.op = 0 then false
  else if g.op = 2 ∨ g.op = 3 then !((d.headOf q).map (fun t => t.kind == TokKind.flush)).getD false
  else true

/-- R200: FLUSH goes on once every used input holds it, on each source that an AGU uses. -/
def Dev.muForward (d : Dev) (b : Nat) : Dev :=
  let ins := d.muIns b
  let outs := (upTo 2).filter (fun a => [1, 3, 4, 5, 6].contains (d.aguMode b a))
  if ins.all (fun e => ((d.muHead e).map (fun t => t.kind == TokKind.flush)).getD false) && outs.all (d.aguFree b) then
    let esq := (((ins.head?).bind d.muHead).map Token.esq).getD 0
    let d := d.each ins Dev.muPop
    let d := d.each outs (fun d a => d.putStage b (d.aguSource b a).1 (d.aguSource b a).2 ⟨esq, .flush, 0#512⟩)
    (d.setDq b []).fsets [(BLK_MU_STATUS_FLUSHING b, 0), (BLK_MU_STATUS_FLUSHED b, 1)]
  else d

/-- MU_FLUSH (R200). A failed MU forwards FLUSH; what it consumes before is FAILED_UNIT_CONSUME's (R199). -/
def muFlush (b : Nat) (d : Dev) : Dev :=
  if !d.powered b || !d.flag (BLK_MU_STATUS_LOADED b) || !d.muFlushing b then d
  else
    let d := d.fset (BLK_MU_STATUS_FLUSHING b) 1
    if d.flag (BLK_MU_STATUS_FAILED b) then d.muForward b
    else if d.aguHolds b 0 || d.aguHolds b 1 then d
    else
      let d := d.each (upTo 2) (fun d a => d.setAgu b a { group := (d.agu b a).group })
      let d := d.each (d.muIns b) (fun d e =>
        let r := muDiscard (d.muHeld e) e d
        if r.2 = 0 then r.1 else r.1.bumpBy (BLK_MU_ERR_FLUSH_DISCARD b) r.2)
      d.muForward b

/-- MU_FLUSH. -/
def execMuFlush (b : Nat) (s : State) : Host.Outcome State Fault Refusal := s.onDev (Wf.muFlush b) (muFlush b)

/-! ## Failed units (R118, R158, R199) -/

/-- The used inputs of a unit, in the order of its FLUSH rule. -/
def Dev.unitIns (d : Dev) (u : Nat) : List (Bool × Nat) :=
  let b := unitWhere u
  match unitClass u with
  | 0 => match d.logTile b (unitIndex u) with
    | some l => (d.tileInputs ⟨b, unitIndex u⟩).map (fun k => (false, tileQ b l k))
    | none => []
  | 2 => d.muIns b
  | 1 => match d.vuPlace u with
    | some (c, v) => (d.vuUsed u c v).map (fun q => (false, q))
    | none => []
  | 7 => match d.vuPlace u with
    | some (c, v) => (d.vuUsed u c v).map (fun q => (false, q))
    | none => []
  | _ => []

/-- FAILED_UNIT_CONSUME (R118, R158, R199): the token at a used input's head is consumed, unless it is FLUSH. -/
def failedUnitConsume (u input : Nat) (d : Dev) : Dev :=
  if !d.fab.failed.contains u then d
  else match (d.unitIns u)[input]? with
    | none => d
    | some e => match d.muHead e with
      | none => d
      | some t => if t.kind = .flush then d else (d.muPop e).failedTakes u t.esq

/-- FAILED_UNIT_CONSUME. -/
def execFailedUnitConsume (unit input : Nat) (s : State) : Host.Outcome State Fault Refusal :=
  s.onDev (Wf.failedUnitConsume unit input) (failedUnitConsume unit input)

end Sys2Proof.Machine
end

