-- ==== Sys2Proof/Machine/Link.lean ====
section
/-!
DEFINITION. The host's link (chapter 10): CXL.mem (R399), snoops and protocols (R393, R394), the link's loss and return
(R418), the data port (R401 to R406), and the completion queue as the host sees it (R407, R408, R412, R413).
-/

namespace Sys2Proof.Machine

open Sys2Proof

/-! ## Regions of LPDDR5X (R219, R249) -/

/-- R249: base and size of a region in bytes. -/
def Dev.regionSpan (d : Dev) (k : Nat) : Nat × Nat :=
  (d.fget (LPX_REGION_BASE_MIB k) * 0x100000, d.fget (LPX_REGION_SIZE_MIB k) * 0x100000)

/-- R219: the KIND of the region that holds an address, 0 where none does. -/
def Dev.kindAt (d : Dev) (a : Nat) : Nat :=
  match (upTo 16).find? (fun k => d.fget (LPX_REGION_KIND k) != 0 &&
      decide ((d.regionSpan k).1 ≤ a) && decide (a < (d.regionSpan k).1 + (d.regionSpan k).2)) with
  | some k => d.fget (LPX_REGION_KIND k)
  | none => 0

/-- R249: a region of an allowed kind holds a span. -/
def Dev.inRegion (d : Dev) (kinds : List Nat) (a n : Nat) : Bool :=
  (upTo 16).any (fun k => kinds.contains (d.fget (LPX_REGION_KIND k)) && decide ((d.regionSpan k).1 ≤ a) &&
    decide (a + n ≤ (d.regionSpan k).1 + (d.regionSpan k).2))

/-- R219: host writes there are discarded: run log, service spill, firmware. -/
def Dev.protectedAt (d : Dev) (a : Nat) : Bool := [5, 6, 8].contains (d.kindAt a)

/-- R504: LPDDR5X works. -/
def Dev.lpUp (d : Dev) : Bool := d.dom 28 == dsOn || d.dom 28 == dsLow

/-! ## CXL event records (R399, R414) -/

/-- The identifier of a General Media event record, in byte order (PRESUMED: CXL 3.1). -/
def gmUuid : List Nat := [0xFB, 0xCD, 0x0A, 0x77, 0xC2, 0x60, 0x41, 0x7F, 0x85, 0xA9, 0x08, 0x8B, 0x16, 0x21, 0xEB, 0xA6]

/-- R414: the event record timestamp: the value set, counted on in ns; 0 where it was never set. -/
def Dev.eventTime (d : Dev) : Nat :=
  if d.host.mbox.timestamp = 0 then 0 else (d.host.mbox.timestamp + (d.tick - d.host.mbox.timestampTick) * 5 / 4) % 2 ^ 64

/-- A General Media event record of 128 bytes: header, then physical address, memory event descriptor (uncorrectable) and
transaction type (host read). -/
def gmRecord (handle time addr : Nat) : List Nat :=
  padTo 128 (gmUuid ++ [128, 2, 0, 0] ++ leBytes 2 handle ++ [0, 0] ++ leBytes 8 time ++ List.replicate 16 0 ++ leBytes 8 addr ++ [1, 0, 1])

/-- R399, R414: a General Media event record is made and signalled on vector 2 where the policy of its log asks for it. -/
def Dev.gmEvent (d : Dev) (addr : Nat) : Dev :=
  let m := d.host.mbox
  let t := d.eventTime
  let n := { m with eventSeq := m.eventSeq + 1 }
  let n := if m.events.length < 64 then { n with events := m.events ++ [gmRecord (m.eventSeq % 65535 + 1) t addr] }
    else { n with overflow := satAdd 16 m.overflow 1, overFirst := if m.overflow = 0 then t else m.overFirst, overLast := t }
  let d := { d with host := { d.host with mbox := n } }
  d.when (bitsOf m.intPolicy 16 2 == 1) (fun d => d.signal 2)

/-! ## CXL.mem and protocols (R393, R394, R399) -/

/-- CXL_MEM_READ (R218, R399): a line is returned, poisoned where its read was uncorrectable. -/
def cxlMemRead (addr : Nat) (x : LpRead) (d : Dev) : Dev :=
  if !d.flag GLB_STATUS_MEM_EN then d
  else
    let d := d.lpxFixed addr x.corrected
    let poison := x.bad || !d.lpUp
    let d := d.when poison (fun d => (d.lpxBad addr).gmEvent addr)
    d.emit (.readData addr (d.bytes addr 64) poison)

/-- CXL_MEM_READ. -/
def execCxlMemRead (addr : Nat) (x : LpRead) (s : State) : Host.Outcome State Fault Refusal :=
  s.onDev (Wf.cxlMemRead addr x) (cxlMemRead addr x)

/-- CXL_MEM_WRITE (R219, R399): stored, or discarded and counted in a protected region. -/
def cxlMemWrite (addr : Nat) (bytes : List Nat) (d : Dev) : Dev :=
  if !d.flag GLB_STATUS_MEM_EN then d
  else if d.protectedAt addr then d.bump LPX_STATUS_HOST_WRITE_DROP
  else if !d.lpUp then d
  else d.poke addr bytes

/-- CXL_MEM_WRITE. -/
def execCxlMemWrite (addr : Nat) (bytes : List Nat) (s : State) : Host.Outcome State Fault Refusal :=
  s.onDev (Wf.cxlMemWrite addr bytes) (cxlMemWrite addr bytes)

/-- SNOOP (R393): every snoop is answered with RspIHitI; the device caches no host line. -/
def execSnoop (addr : Nat) (s : State) : Host.Outcome State Fault Refusal := s.onDev (Wf.snoop addr) (fun d => d.emit (.snoopReply addr))

/-- HDM_COMMIT (R394): without back-invalidate, or in PCIe fallback, the decoder stays uncommitted. -/
def execHdmCommit (bi : Bool) (s : State) : Host.Outcome State Fault Refusal :=
  s.onDev (Wf.hdmCommit bi) (fun d => d.when (bi && !d.flag GLB_STATUS_FALLBACK) (fun d => d.fset GLB_STATUS_MEM_EN 1))

/-- CXL_CACHE_ENABLE (R394). -/
def execCxlCacheEnable (s : State) : Host.Outcome State Fault Refusal :=
  s.onDev Wf.cxlCacheEnable (fun d => d.when (!d.flag GLB_STATUS_FALLBACK) (fun d => d.fset GLB_STATUS_CACHE_EN 1))

/-! ## The data port (R401 to R406) -/

/-- R431: the first error since the last accepted START. -/
def Dev.dpErr (d : Dev) (code : Nat) : Dev := if d.fget DP_STATUS_ERR = 0 then d.fset DP_STATUS_ERR code else d

/-- R405: a unit that is not moved sets ERR and latches its address, the burst's first alone. -/
def Dev.dpErrAt (d : Dev) (code addr : Nat) : Dev :=
  if d.fget DP_STATUS_ERR = 0 then d.fsets [(DP_STATUS_ERR, code), (DP_ERR_ADDR_ADDR, addr)] else d

/-- R398, R405: why a unit is not moved: 1 DENIED, 2 UNMAPPED, 0 where it is moved (R202, R206, R219). -/
def Dev.dpRefuses (d : Dev) (write : Bool) (a : Nat) : Nat :=
  let blockMem := if write then (if d.runState = stIdle then 0 else 1) else if d.runState = stRunning ∨ d.runState = stQuiescing then 1 else 0
  if a < lpSize then (if write && d.protectedAt a then 1 else 0)
  else if vatBase ≤ a ∧ a < vatBase + 64 * d.vatWords then (if write then 1 else 0)
  else if blkMemBase ≤ a ∧ a < spareStoreBase then (if (a - blkMemBase) % 0x200000 < 0xA0000 then blockMem else 0)
  else if spareStoreBase ≤ a ∧ a < spareStoreBase + 0x200000 then blockMem
  else 2

/-- R398: the domain whose memory an address reaches. -/
def domainAt (a : Nat) : Nat :=
  if a < lpSize then 28
  else if blkMemBase ≤ a ∧ a < spareStoreBase then domainOf ((a - blkMemBase) / 0x200000)
  else (a - spareStoreBase) / 0x20000

/-- R66, R504: a write reaches a memory there: no reserved address of a block region, and none whose domain is off. -/
def Dev.holdsAt (d : Dev) (a : Nat) : Bool :=
  !(decide (blkMemBase ≤ a) && decide (a < spareStoreBase) && decide (0xA0000 ≤ (a - blkMemBase) % 0x200000)) &&
    (d.dom (domainAt a) == dsOn || d.dom (domainAt a) == dsLow)

/-- R401: DP_ADDR's step per unit, in units of 8 bytes. -/
def Dev.dpStep (d : Dev) : Nat := let i := d.fget DP_CTRL_INC; if i = 0 then 0 else if i = 1 then 1 else 8

/-- R401: a unit has been moved, or passed over. -/
def Dev.dpNext (d : Dev) : Dev :=
  d.fsets [(DP_ADDR_ADDR, (d.fget DP_ADDR_ADDR + d.dpStep) % 2 ^ 61), (DP_STATUS_DONE_UNITS, d.fget DP_STATUS_DONE_UNITS + 1)]

/-- The units of the burst not moved yet. -/
def Dev.dpLeft (d : Dev) : Nat := d.fget DP_CTRL_UNITS - d.fget DP_STATUS_DONE_UNITS

/-- R404, R431: the fetched units not yet read; AVAIL shows how many. -/
def Dev.setBuffer (d : Dev) (l : List (List Nat)) : Dev :=
  { d.fset DP_STATUS_AVAIL l.length with host := { d.host with dp := { buffer := l } } }
/-- R404: a read burst fetches its units in order, each as it stands. -/
def Dev.dpFetch (d : Dev) : List (List Nat) × Dev :=
  (upTo (d.fget DP_CTRL_UNITS)).foldl (fun (acc : List (List Nat) × Dev) k =>
    let d := acc.2
    let a := 8 * ((d.fget DP_ADDR_ADDR + k * d.dpStep) % 2 ^ 61)
    let e := d.dpRefuses false a
    if e = 0 then (acc.1 ++ [d.bytes a 8], d) else (acc.1 ++ [List.replicate 8 0], d.dpErrAt e a)) ([], d)

/-- R401: START of a burst with the fields of the write: refused, or begun. -/
def dpStart (v : Nat) (d : Dev) : Dev :=
  if !d.ready then d
  else
    let busy := d.flag DP_STATUS_BUSY
    let units := bitsOf v 12 10
    let inc := bitsOf v 4 2
    let d := if busy then d else d.fsets [(DP_CTRL_UNITS, units), (DP_CTRL_INC, inc), (DP_CTRL_DIR, bitsOf v 3 1)]
    if units = 0 ∨ 512 < units ∨ inc = 3 then d.dpErr 7
    else if busy then d.dpErr 6
    else
      let d := d.fsets [(DP_STATUS_BUSY, 1), (DP_STATUS_DONE, 0), (DP_STATUS_ERR, 0), (DP_ERR_ADDR_ADDR, 0), (DP_STATUS_DONE_UNITS, 0)]
      if d.flag DP_CTRL_DIR then d
      else
        let r := d.dpFetch
        r.2.setBuffer r.1

/-- DP_START. -/
def execDpStart (v : Nat) (s : State) : Host.Outcome State Fault Refusal := s.onDev (Wf.dpStart v) (dpStart v)

/-- R406: the burst ends at once; what was fetched is discarded. -/
def Dev.dpStop (d : Dev) : Dev := (d.fset DP_STATUS_BUSY 0).setBuffer []

/-- DP_ABORT (R406). -/
def execDpAbort (s : State) : Host.Outcome State Fault Refusal := s.onDev Wf.dpAbort (fun d => d.when d.ready Dev.dpStop)

/-- R402: an access the window takes. -/
def dpAccess (off size : Nat) : Bool := [8, 16, 32, 64].contains size && off % size == 0

/-- R403, R405: a unit is written, in order. -/
def Dev.dpPut (d : Dev) (bs : List Nat) : Dev :=
  let a := 8 * d.fget DP_ADDR_ADDR
  let e := d.dpRefuses true a
  let d := if e = 0 then (d.when (d.holdsAt a) (fun d => d.put a bs)) else d.dpErrAt e a
  d.dpNext

/-- The 8-byte units of a byte string. -/
def unitsOf (bs : List Nat) : List (List Nat) := (upTo (bs.length / 8)).map (fun k => (bs.drop (8 * k)).take 8)

/-- DP_WINDOW_WRITE (R402, R403): the access's units are accepted and written; past the burst's last unit they are
ignored. -/
def dpWindowWrite (off : Nat) (bytes : List Nat) (d : Dev) : Dev :=
  if !d.ready then d
  else if !dpAccess off bytes.length then d.dpErr 4
  else
    let us := unitsOf bytes
    let room := if d.flag DP_STATUS_BUSY && d.flag DP_CTRL_DIR then d.dpLeft else 0
    let d := d.each (us.take room) Dev.dpPut
    if room < us.length then d.dpErr 5 else d

/-- DP_WINDOW_WRITE. -/
def execDpWindowWrite (off : Nat) (bytes : List Nat) (s : State) : Host.Outcome State Fault Refusal :=
  s.onDev (Wf.dpWindowWrite off bytes) (dpWindowWrite off bytes)

/-- The base of the DP window in BAR0 (R396). -/
def dpWindow : Nat := 0x21000

/-- R398: an address of the vat. -/
def inVat (a : Nat) : Bool := decide (vatBase ≤ a) && decide (a < vatBase + 0x80000000)
/-- R206, R236: a service read of vat words has been repeated so many times, and so many words failed every attempt. -/
def Dev.vatRead (d : Dev) (rereads zeroed : Nat) : Dev :=
  (d.when (rereads != 0) (fun d => d.bumpBy VAT_ERR_REREAD rereads)).when (zeroed != 0) (fun d => d.bumpBy VAT_ERR_ZEROED zeroed)

/-- DP_WINDOW_READ (R206, R218, R402, R404): the next fetched units are returned, zeros past the last; poisoned where an
uncorrectable LPDDR5X error affects one of them. Units of the vat that failed every read are zeros (DEDUCED, log
entry 144). -/
def dpWindowRead (off size : Nat) (x : ServiceRead) (d : Dev) : Dev :=
  if !d.ready then d.emit (.readData (dpWindow + off) (List.replicate size 0) false)
  else if !dpAccess off size then (d.dpErr 4).emit (.readData (dpWindow + off) (List.replicate size 0) false)
  else
    let n := size / 8
    let got := d.host.dp.buffer.take n
    let firstA := 8 * d.fget DP_ADDR_ADDR
    let poison := !got.isEmpty && decide (firstA < lpSize) && (x.lp.bad || !d.lpUp)
    let lpddr := !got.isEmpty && decide (firstA < lpSize)
    let as := (upTo got.length).map (fun k => 8 * ((d.fget DP_ADDR_ADDR + k * d.dpStep) % 2 ^ 61))
    let lost (k : Nat) : Bool := x.zeroed.contains k && inVat (as.getD k 0)
    let d := d.when lpddr (fun d => d.lpxFixed firstA x.lp.corrected)
    let d := if poison then (d.lpxBad firstA).dpErr 3 else d
    let d := d.when (as.any inVat) (fun d =>
      d.vatRead x.rereads ((((upTo got.length).filter lost).map (fun k => as.getD k 0 / 64)).eraseDups).length)
    let d := d.each got (fun d _ => d.dpNext)
    let d := d.setBuffer (d.host.dp.buffer.drop n)
    let d := if got.length < n then d.dpErr 5 else d
    d.emit (.readData (dpWindow + off) (padTo size ((got.zipIdx).flatMap (fun e => if lost e.2 then List.replicate 8 0 else e.1))) poison)

/-- DP_WINDOW_READ. -/
def execDpWindowRead (off size : Nat) (x : ServiceRead) (s : State) : Host.Outcome State Fault Refusal :=
  s.onDev (Wf.dpWindowRead off size x) (dpWindowRead off size x)

/-- DP_BURST_DONE (R403): every unit of the burst has been moved. -/
def execDpBurstDone (s : State) : Host.Outcome State Fault Refusal :=
  s.onDev Wf.dpBurstDone (fun d => d.when (d.flag DP_STATUS_BUSY && d.dpLeft == 0) (fun d => d.fsets [(DP_STATUS_BUSY, 0), (DP_STATUS_DONE, 1)]))

/-! ## The link goes and returns (R394, R412, R418) -/

/-- CXL_LINK_DOWN (R406, R418): the burst ends, entries are held, and the loss is latched; the run goes on. -/
def Dev.linkLost (d : Dev) : Dev :=
  if d.host.linkDown then d
  else
    let d := d.when (d.flag DP_STATUS_BUSY) Dev.dpStop
    { d.event GLB_STATUS_LINK_DOWN_SEEN with host := { d.host with linkDown := true } }

/-- CXL_LINK_DOWN. -/
def execCxlLinkDown (s : State) : Host.Outcome State Fault Refusal := s.onDev Wf.cxlLinkDown Dev.linkLost

/-- R393: PCI function 0, the only one: its class code, processing accelerator. -/
def pciClass : Nat := 0x120000
/-- R393: the flits of a link: 256-byte standard flits in CXL mode, none in PCIe fallback. -/
def LinkMode.flitBytes (m : LinkMode) : Option Nat := if m.fallback then none else some 256

/-- CXL_LINK_UP (R393, R394, R418): the link is up; in PCIe mode CXL.cache and CXL.mem are not in force. A failed CXL domain has
no link (R504). -/
def cxlLinkUp (m : LinkMode) (d : Dev) : Dev :=
  if d.dom 29 != dsOn then d
  else
    let d := { d with host := { d.host with linkDown := false, link := m } }
    let d := d.fset GLB_STATUS_FALLBACK (b2n m.fallback)
    d.when m.fallback (fun d => d.fsets [(GLB_STATUS_CACHE_EN, 0), (GLB_STATUS_MEM_EN, 0)])

/-- CXL_LINK_UP. -/
def execCxlLinkUp (m : LinkMode) (s : State) : Host.Outcome State Fault Refusal := s.onDev (Wf.cxlLinkUp m) (cxlLinkUp m)

/-! ## The completion queue (R407, R408, R412, R413) -/

/-- R407: the address of the queue. -/
def Dev.cqAddr (d : Dev) : Nat := 64 * d.fget GLB_CQ_BASE_ADDR

/-- R407: a queue in device memory lies wholly inside a region of KIND host. -/
def Dev.cqPlaceOk (d : Dev) : Bool :=
  !d.flag GLB_CQ_BASE_LOC || d.inRegion [1] d.cqAddr (64 * d.cqSize)

/-- R424: the fields of a write of GLB_CQ_CFG but ENABLE: HOLDOFF_US to 4,000, ENTRIES_LOG2 6 to 16 while the queue is not
in use. -/
def Dev.cqConfigure (d : Dev) (v : Nat) : Dev :=
  let d := d.fset GLB_CQ_CFG_HOLDOFF_US (min 4000 (bitsOf v 16 12))
  if d.flag GLB_CQ_CFG_ENABLE then d else d.fset GLB_CQ_CFG_ENTRIES_LOG2 (max 6 (min 16 (bitsOf v 0 5)))

/-- CQ_ENABLE (R407, R424): a write of GLB_CQ_CFG with ENABLE set: the queue is enabled, or the bit stays clear. -/
def cqEnable (v : Nat) (d : Dev) : Dev :=
  let was := d.flag GLB_CQ_CFG_ENABLE
  let d := d.cqConfigure v
  if was || !d.cqPlaceOk then d
  else d.fsets [(GLB_CQ_CFG_ENABLE, 1), (GLB_CQ_HEAD_HEAD, 0), (GLB_CQ_TAIL_TAIL, 0), (GLB_CQ_TAIL_PHASE, 1)]

/-- CQ_ENABLE. -/
def execCqEnable (v : Nat) (s : State) : Host.Outcome State Fault Refusal := s.onDev (Wf.cqEnable v) (cqEnable v)

/-- CQ_HEAD_WRITE (R407): the entries up to HEAD are consumed; a write that would pass TAIL is ignored. -/
def execCqHeadWrite (v : Nat) (s : State) : Host.Outcome State Fault Refusal :=
  s.onDev (Wf.cqHeadWrite v) (fun d =>
    let n := d.cqSize
    let h := v % 2 ^ 16
    let ahead := (h + n - d.fget GLB_CQ_HEAD_HEAD) % n
    d.when (decide (h < n) && decide (ahead ≤ d.cqUsed)) (fun d => d.fset GLB_CQ_HEAD_HEAD h))

/-- CQ_STAT_CLEAR (R424). -/
def execCqStatClear (s : State) : Host.Outcome State Fault Refusal :=
  s.onDev Wf.cqStatClear (fun d => d.clearFlds [GLB_CQ_STAT_DROPPED, GLB_CQ_STAT_WRITTEN])

/-- R413: vector 0 covers every entry written. -/
def Dev.cqSignal (d : Dev) : Dev := { d.signal 0 with host := { (d.signal 0).host with unsignalled := none } }

/-- CQ_ENTRY_WRITE (R394, R407, R408, R412): the oldest entry is written where space appears: 64 bytes with PHASE and CSEQ, to host
memory by CXL.cache where it is in force. A
graph leaves flight with its entry; with no holdoff the entry is signalled as it is written. -/
def cqEntryWrite (d : Dev) : Dev :=
  match d.host.hold with
  | [] => d
  | e :: r =>
    if !d.cqOpen 0 then d
    else
      let tail := d.fget GLB_CQ_TAIL_TAIL
      let phase := d.fget GLB_CQ_TAIL_PHASE
      let bytes := e.bytes.take 1 ++ [phase] ++ leBytes 2 d.host.cseq ++ e.bytes.drop 4
      let a := d.cqAddr + 64 * tail
      let d := if d.flag GLB_CQ_BASE_LOC then d.put a bytes else d.emit (.hostWrite (d.flag GLB_STATUS_CACHE_EN) a bytes)
      let next := (tail + 1) % d.cqSize
      let d := (d.fsets [(GLB_CQ_TAIL_TAIL, next), (GLB_CQ_TAIL_PHASE, if next = 0 then 1 - phase else phase)]).bump GLB_CQ_STAT_WRITTEN
      let d := { d with host := { d.host with
        hold := r, cseq := (d.host.cseq + 1) % 2 ^ 16, unsignalled := some (d.host.unsignalled.getD d.tick) } }
      let d := match e.graph with
        | some slot => d.leaveFlight slot
        | none => d
      d.when (d.fget GLB_CQ_CFG_HOLDOFF_US == 0) Dev.cqSignal

/-- CQ_ENTRY_WRITE. -/
def execCqEntryWrite (s : State) : Host.Outcome State Fault Refusal := s.onDev Wf.cqEntryWrite cqEntryWrite

/-- CQ_INTERRUPT (R413): unsignalled entries exist: vector 0 once the queue is half full, or at the end of the holdoff. -/
def cqInterrupt (d : Dev) : Dev :=
  match d.host.unsignalled with
  | none => d
  | some t =>
    if d.host.linkDown then d
    else if d.cqSize ≤ 2 * d.cqUsed then d.cqSignal
    else (d.advTo (t + 800 * d.fget GLB_CQ_CFG_HOLDOFF_US)).cqSignal

/-- CQ_INTERRUPT. -/
def execCqInterrupt (s : State) : Host.Outcome State Fault Refusal := s.onDev Wf.cqInterrupt cqInterrupt

end Sys2Proof.Machine
end

