-- ==== Sys2Proof/Machine/Image.lean ====
section
/-!
DEFINITION. The byte layout of a Graem image (R250 to R255): the header, the section table, every section's entries, the
LPDDR5X regions an image asks for and the patches that move it onto them. What breaks the layout is refused with FORMAT.
-/

namespace Sys2Proof.Machine

open Sys2Proof

/-! ## Reading bytes -/

/-- A span of zero bytes. -/
def zeroAt (bs : List Nat) (pos n : Nat) : Bool := ((bs.drop pos).take n).all (fun b => b == 0)
/-- A value where a condition holds. -/
def given {α : Type} (c : Bool) (a : α) : Option α := if c then some a else none
/-- The entries of a fixed size; none where bytes are left over. -/
def chunks (n : Nat) (bs : List Nat) : Option (List (List Nat)) :=
  given (bs.length % n == 0) ((upTo (bs.length / n)).map (fun i => (bs.drop (n * i)).take n))
/-- No number stands twice in a list. -/
def distinct : List Nat → Bool
  | [] => true
  | a :: l => !l.contains a && distinct l
/-- Every entry of a list, read; none where one is malformed. -/
def readAll {α β : Type} (f : α → Option β) : List α → Option (List β)
  | [] => some []
  | a :: l => (f a).bind (fun b => (readAll f l).map (fun r => b :: r))
/-- Entries of varying size, read one after another to the end. -/
def readMany {α : Type} (f : List Nat → Option (α × List Nat)) : Nat → List Nat → Option (List α)
  | _, [] => some []
  | 0, _ :: _ => none
  | fuel + 1, bs => (f bs).bind (fun e => (readMany f fuel e.2).map (fun r => e.1 :: r))
/-- The entries of a fixed size, each read. -/
def readFixed {α : Type} (n : Nat) (f : List Nat → Option α) (bs : List Nat) : Option (List α) := (chunks n bs).bind (readAll f)
/-- n entries of a fixed size from a place on, where the bytes reach. -/
def readAt {α : Type} (n size pos : Nat) (f : List Nat → Option α) (bs : List Nat) : Option (List α) :=
  if pos + n * size ≤ bs.length then readFixed size f ((bs.drop pos).take (n * size)) else none

/-! ## The section table (R250, R251) -/

/-- R251: an entry of the section table. -/
structure RawSec where
  kind : Nat
  fig : Nat
  off : Nat
  len : Nat
  deriving DecidableEq, Repr, Inhabited

/-- R251: the bytes of an entry. -/
def readSec (c : List Nat) : Option RawSec := given (zeroAt c 4 4) ⟨leAt c 0 2, leAt c 2 2, leAt c 8 8, leAt c 0x10 8⟩
/-- R251: the bytes of a section. -/
def secBytes (bs : List Nat) (x : RawSec) : List Nat := (bs.drop x.off).take x.len
/-- R251: a section of this kind belongs to a figure. -/
def figureKind (k : Nat) : Bool := k == 3 || k == 4 || k == 0xD
/-- R251: the kinds of which an image has exactly one. -/
def oneKinds : List Nat := [1, 2, 5, 6, 9, 0xC]
/-- R251: the kinds of which an image, or for RELOCATION a figure, has at most one. -/
def optKinds : List Nat := [7, 8, 0xA, 0xB, 0xE, 0xF, 0x10, 0x11]
/-- R250: two sections share no byte. -/
def secsApart (a b : RawSec) : Bool := decide (a.off + a.len ≤ b.off) || decide (b.off + b.len ≤ a.off) || a.len == 0 || b.len == 0
/-- R250: the sections of a list do not overlap. -/
def allApart : List RawSec → Bool
  | [] => true
  | a :: l => l.all (secsApart a) && allApart l
/-- R250: whether the header marks the image as signed. -/
def isSigned (bs : List Nat) : Bool := bitAt (leAt bs 0xC 4) 0
/-- R250: SIGNED_LENGTH. -/
def signedLength (bs : List Nat) : Nat := leAt bs 0x18 8
/-- R250: the header's own layout, in an image of the task's length. -/
def headerOk (bs : List Nat) : Bool :=
  decide (0x80 ≤ bs.length) && (bs.take 8 == [0x47, 0x52, 0x41, 0x45, 0x4D, 0, 0, 0]) && leAt bs 8 2 == 0x0400 &&
  decide (1 ≤ leAt bs 0xA 2) && decide (leAt bs 0xA 2 ≤ 256) && decide (leAt bs 0xC 4 ≤ 1) && leAt bs 0x10 8 == bs.length &&
  (if isSigned bs then decide (signedLength bs ≤ bs.length) else signedLength bs == bs.length) &&
  decide (1 ≤ leAt bs 0x24 2) && decide (leAt bs 0x24 2 ≤ 4096) && zeroAt bs 0x29 7 && zeroAt bs 0x60 32 &&
  (leAt bs 0x24 2 != 1 || zeroAt bs 0x40 32) &&
  (upTo 8).all (fun s => bitAt (leAt bs 0x28 1) s || leAt bs (0x30 + 2 * s) 2 == 0)
/-- R250, R251: the place of a section; only a SIGNATURE may lie at or beyond SIGNED_LENGTH. -/
def secPlaced (bs : List Nat) (n : Nat) (x : RawSec) : Bool :=
  x.off % 64 == 0 && decide (0x80 + 24 * n ≤ x.off) && decide (x.off + x.len ≤ bs.length) &&
  (x.kind == 0x11 || decide (x.off + x.len ≤ signedLength bs)) && decide (1 ≤ x.kind) && decide (x.kind ≤ 0x11) &&
  (figureKind x.kind || x.fig == 0xFFFF)
/-- R251: the number of sections of a kind. -/
def countKind (l : List RawSec) (k : Nat) : Nat := (l.filter (fun x => x.kind == k)).length
/-- R250, R251: the section table. -/
def readTable (bs : List Nat) : Option (List RawSec) :=
  let n := leAt bs 0xA 2
  (readAt n 24 0x80 readSec bs).bind (fun l =>
    given (l.all (secPlaced bs n) && allApart l && oneKinds.all (fun k => countKind l k == 1) &&
      optKinds.all (fun k => decide (countKind l k ≤ 1))) l)

/-- The bytes of the one section of a kind; empty where there is none. -/
def theBytes (bs : List Nat) (l : List RawSec) (k : Nat) : List Nat := ((l.find? (fun x => x.kind == k)).map (secBytes bs)).getD []
/-- The sections of a kind that belong to a figure, in table order. -/
def figSecs (l : List RawSec) (k f : Nat) : List RawSec := l.filter (fun x => x.kind == k && x.fig == f)

/-! ## Records (R252) -/

/-- R252: a register record. -/
def readReg (c : List Nat) : Option RegRec :=
  given (decide (leAt c 0 2 < 256) && leAt c 2 2 % 8 == 0 && zeroAt c 4 4) ⟨leAt c 0 2, leAt c 2 2, leAt c 8 8⟩
/-- R190, R252: a memory record; its words lie in the image area. -/
def readMem (bs : List Nat) : Option (MemRec × List Nat) :=
  let n := leAt bs 6 2
  given (decide (8 + 64 * n ≤ bs.length) && decide (leAt bs 0 2 < 256) && zeroAt bs 2 2 && decide (leAt bs 4 2 < 7680) &&
      decide (leAt bs 4 2 + n ≤ 7680))
    (⟨leAt bs 0 2, leAt bs 4 2, (upTo n).map (fun i => leAt bs (8 + 64 * i) 64)⟩, bs.drop (8 + 64 * n))

/-! ## Whole-image sections (R251, R253) -/

/-- R251: a claim of MANIFEST. -/
def readClaim (c : List Nat) : Option BlockClaim :=
  given (decide (leAt c 0 2 < 256) && decide (leAt c 4 1 < 4) && decide (leAt c 5 1 < 2) && decide (leAt c 6 1 < 16) && leAt c 7 1 == 0)
    ⟨leAt c 0 2, leAt c 2 2, leAt c 4 1, leAt c 5 1, leAt c 6 1⟩
/-- R251: an entry of FIGURES, its sections still to be read. -/
def readFigure (c : List Nat) : Option Figure :=
  given (decide (leAt c 2 2 < 2) && decide (leAt c 4 1 < 16) && decide (1 ≤ leAt c 5 1) && decide (leAt c 5 1 ≤ 8) && zeroAt c 6 2)
    ⟨leAt c 0 2, bitAt (leAt c 2 2) 0, leAt c 4 1, leAt c 5 1, [], [], []⟩
/-- R251, R260: an entry of PORTS. -/
def readPort (c : List Nat) : Option PortEntry :=
  given (decide (leAt c 0 1 < 4) && leAt c 1 1 == 0 && decide (leAt c 6 2 ≤ 256)) ⟨leAt c 0 1, leAt c 2 2, leAt c 4 2, leAt c 6 2⟩
/-- R251: an entry of STREAMS. -/
def readStream (c : List Nat) : Option StreamEntry :=
  given (decide (leAt c 0 1 < 16) && decide (leAt c 1 1 < 16) && zeroAt c 4 4) ⟨leAt c 0 1, leAt c 1 1, leAt c 2 2⟩
/-- R309: a schedule entry as its index, its 7 bytes, and the values of its three registers. -/
def readSched (c : List Nat) : Option (List Nat) := some [leAt c 0 1, leAt c 1 7, leAt c 8 8, leAt c 0x10 8, leAt c 0x18 8]
/-- R251: an entry of WEIGHT_SLOTS. -/
def readSlot (c : List Nat) : Option SlotEntry := given (zeroAt c 2 6) ⟨leAt c 0 2, leAt c 8 8, leAt c 0x10 32⟩
/-- R253: a block and a unit of it, with a zero byte. -/
def readPair (c : List Nat) : Option (Nat × Nat) := given (leAt c 3 1 == 0) (leAt c 0 2, leAt c 2 1)
/-- R253: a block and two bytes. -/
def readTriple (c : List Nat) : Option (Nat × Nat × Nat) := some (leAt c 0 2, leAt c 2 1, leAt c 3 1)
/-- R253: a sink of a join. -/
def readSink (c : List Nat) : Option (Nat × Nat × Nat) := given (decide (leAt c 2 1 < 3)) (leAt c 0 2, leAt c 2 1, leAt c 3 1)
/-- R253: an entry of PATHS. -/
def readPath (bs : List Nat) : Option (PathEntry × List Nat) :=
  let n := leAt bs 12 2
  if bs.length < 16 || decide (1 < leAt bs 3 1) || !zeroAt bs 14 2 then none
  else (readAt n 4 16 readPair bs).map (fun l =>
    (⟨leAt bs 0 2, leAt bs 2 1, leAt bs 3 1, leAt bs 4 2, leAt bs 6 2, leAt bs 8 4, l⟩, bs.drop (16 + 4 * n)))
/-- R253: an entry of JOINS. -/
def readJoin (bs : List Nat) : Option (JoinEntry × List Nat) :=
  let n := leAt bs 16 2
  if bs.length < 20 || !zeroAt bs 18 2 then none
  else (readAt n 4 20 readSink bs).map (fun l =>
    (⟨leAt bs 0 2, leAt bs 2 2, leAt bs 4 4, leAt bs 8 4, leAt bs 12 4, l⟩, bs.drop (20 + 4 * n)))
/-- R253: an entry of STEER. -/
def readSteer (bs : List Nat) : Option (SteerEntry × List Nat) :=
  let n := leAt bs 8 4
  if bs.length < 12 || leAt bs 3 1 != 0 || leAt bs 7 1 != 0 then none
  else (readAt n 4 12 readTriple bs).map (fun l =>
    (⟨leAt bs 0 2, leAt bs 2 1, leAt bs 4 2, leAt bs 6 1, l⟩, bs.drop (12 + 4 * n)))
/-- R253: an entry of INTERVALS; only an MU has events. -/
def readInterval (c : List Nat) : Option IntervalEntry :=
  given (leAt c 6 2 == 0 || bitsOf (leAt c 0 4) 20 4 == 2) ⟨leAt c 0 4, leAt c 4 2, leAt c 6 2⟩
/-- R251, R255: an entry of REGIONS. -/
def readRegion (c : List Nat) : Option RegionReq := given ((leAt c 0 1 == 4 || leAt c 0 1 == 7) && zeroAt c 1 3) ⟨leAt c 0 1, leAt c 4 4⟩
/-- R251: an entry of SEEDS. -/
def readSeed (c : List Nat) : Option SeedTarget :=
  given (decide (leAt c 0 2 < 256) && leAt c 2 2 % 8 == 0 && zeroAt c 4 4) ⟨leAt c 0 2, leAt c 2 2, leAt c 8 8⟩

/-- R255: a patch. -/
structure Patch where
  sec : Nat
  kind : Nat
  region : Nat
  lsb : Nat
  width : Nat
  off : Nat
  deriving DecidableEq, Repr, Inhabited

/-- R255: an entry of PATCHES, which points into a section that may be patched. -/
def readPatch (secs : List RawSec) (regions : Nat) (c : List Nat) : Option Patch :=
  let x := (secs[leAt c 0 2]?).getD ⟨0, 0, 0, 0⟩
  given (figureKind x.kind && (leAt c 2 1 == 1 || leAt c 2 1 == 2) && decide (leAt c 3 1 < regions) &&
      decide (leAt c 4 1 + leAt c 5 1 ≤ 64) && zeroAt c 6 2 && decide (leAt c 8 8 + 8 ≤ x.len))
    ⟨leAt c 0 2, leAt c 2 1, leAt c 3 1, leAt c 4 1, leAt c 5 1, leAt c 8 8⟩

/-! ## A figure's sections (R251, R254) -/

/-- R254: one alternative placement, of the number it must have. -/
def readPlacement (k : Nat) (bs : List Nat) : Option (Placement × List Nat) :=
  let nb := leAt bs 2 2
  let nr := leAt bs 4 4
  let np := leAt bs 8 4
  let recs := 16 + alignUp 3 (2 * nb)
  let ups := recs + 16 * nr
  if bs.length < 16 || leAt bs 0 1 != k || leAt bs 1 1 != 0 || !zeroAt bs 12 4 then none
  else
    (readAt nr 16 recs readReg bs).bind (fun rs =>
      (readAt np 8 ups (fun c => given (zeroAt c 2 2) (leAt c 0 2, leAt c 4 4)) bs).map (fun ps =>
        (⟨k, (upTo nb).map (fun i => leAt bs (16 + 2 * i) 2), rs, ps⟩, bs.drop (ups + 8 * np))))
/-- R254: the alternative placements from number k on; none where bytes are left over. -/
def readPlacements : Nat → Nat → List Nat → Option (List Placement)
  | 0, _, bs => given (bs == []) []
  | n + 1, k, bs => (readPlacement k bs).bind (fun e => (readPlacements n (k + 1) e.2).map (fun r => e.1 :: r))
/-- The entries of several sections, joined. -/
def joinAll {α : Type} (l : List (List α)) : List α := l.flatMap id
/-- R251: a figure with its sections: at least one CONFIG, and RELOCATION where it has alternatives. -/
def fillFigure (bs : List Nat) (secs : List RawSec) (f : Figure) : Option Figure :=
  let rel := figSecs secs 0xD f.id
  if figSecs secs 3 f.id = [] ∨ 1 < rel.length then none
  else
    (readAll (fun x => readFixed 16 readReg (secBytes bs x)) (figSecs secs 3 f.id)).bind (fun cs =>
    (readAll (fun x => readMany readMem x.len (secBytes bs x)) (figSecs secs 4 f.id)).bind (fun ms =>
    (readPlacements (f.placements - 1) 1 ((rel.map (secBytes bs)).headD [])).map (fun ps =>
      { f with config := joinAll cs, muData := joinAll ms, alts := ps })))
/-- R251: the figures; each has its own number, and every figure section names one of them. -/
def readFigures (bs : List Nat) (secs : List RawSec) : Option (List Figure) :=
  (readFixed 8 readFigure (theBytes bs secs 2)).bind (fun fs =>
    let ids := fs.map Figure.id
    if !distinct ids || secs.any (fun x => figureKind x.kind && !ids.contains x.fig) then none
    else readAll (fillFigure bs secs) fs)

/-! ## The whole image -/

/-- What an image holds: its contents and its patches. -/
structure Parsed where
  image : Image
  secs : List RawSec
  patches : List Patch
  deriving DecidableEq, Repr, Inhabited

/-- R250 to R255: an image read; none where a rule of its layout is broken. The digest covers the bytes below
SIGNED_LENGTH. -/
def parseImage (bs : List Nat) : Option Parsed :=
  if !headerOk bs then none
  else
  (readTable bs).bind (fun secs =>
  let sec := theBytes bs secs
  if (sec 1).length < 2 || (sec 5).length != 512 || (sec 6).length != 64 then none
  else
  (readFixed 8 readClaim ((sec 1).drop 2)).bind (fun claims =>
  (readFigures bs secs).bind (fun figures =>
  (readFixed 8 readPort (sec 5)).bind (fun ports =>
  (readFixed 8 readStream (sec 6)).bind (fun streams =>
  (readFixed 32 readSched (sec 7)).bind (fun sched =>
  (readFixed 48 readSlot (sec 8)).bind (fun slots =>
  (readMany readPath (sec 9).length (sec 9)).bind (fun paths =>
  (readMany readJoin (sec 0xA).length (sec 0xA)).bind (fun joins =>
  (readMany readSteer (sec 0xB).length (sec 0xB)).bind (fun steers =>
  (readFixed 8 readInterval (sec 0xC)).bind (fun intervals =>
  (readFixed 8 readRegion (sec 0xF)).bind (fun regions =>
  (readFixed 16 readSeed (sec 0x10)).bind (fun seeds =>
  (readFixed 16 (readPatch secs regions.length) (sec 0xE)).map (fun patches =>
    { image := {
        digest := Config.sha3 (bs.take (signedLength bs)), period := leAt bs 0x20 2, vfloor := leAt bs 0x22 2,
        devCount := leAt bs 0x24 2, devIndex := leAt bs 0x26 2, streams := leAt bs 0x28 1,
        latency := (upTo 8).map (fun s => leAt bs (0x30 + 2 * s) 2), domains := leAt (sec 1) 0 2, claims := claims,
        figures := figures, ports := ports, streamCfg := streams, schedule := sched, slots := slots, paths := paths,
        joins := joins, steers := steers, intervals := intervals, regions := regions, seeds := seeds, signed := false },
      secs := secs, patches := patches }))))))))))))))

/-! ## Regions and patches (R219, R255) -/

/-- R219: where firmware's top 1 GiB begins, in MiB. -/
def firmwareMib : Nat := 0x13C00
/-- A span of MiB lies below firmware's and shares none with a region in use. -/
def Dev.spanFree (d : Dev) (base mib : Nat) : Bool :=
  decide (base + mib ≤ firmwareMib) && (upTo 16).all (fun k =>
    d.fget (LPX_REGION_KIND k) == 0 || decide (base + mib ≤ d.fget (LPX_REGION_BASE_MIB k)) ||
      decide (d.fget (LPX_REGION_BASE_MIB k) + d.fget (LPX_REGION_SIZE_MIB k) ≤ base))
/-- The bases at which a free span can begin: 0 and the end of every region in use. -/
def Dev.spanStarts (d : Dev) : List Nat :=
  0 :: ((upTo 16).filter (fun k => d.fget (LPX_REGION_KIND k) != 0)).map (fun k => d.fget (LPX_REGION_BASE_MIB k) + d.fget (LPX_REGION_SIZE_MIB k))
/-- The lowest base at which a region of a size fits. -/
def Dev.lowestBase (d : Dev) (mib : Nat) : Option Nat :=
  ((d.spanStarts.filter (fun b => d.spanFree b mib)).foldl (fun m b => some (match m with | none => b | some x => min x b)) none)
/-- R219: the first free entry of 3 to 15. -/
def Dev.freeRegion (d : Dev) : Option Nat := ((upTo 16).drop 3).find? (fun k => d.fget (LPX_REGION_KIND k) == 0)
/-- A region is made: its entry, and the device with it. -/
def Dev.regionAlloc (d : Dev) (kind mib : Nat) : Option (Nat × Dev) :=
  d.freeRegion.bind (fun k => (d.lowestBase mib).map (fun b =>
    (k, d.fsets [(LPX_REGION_KIND k, kind), (LPX_REGION_BASE_MIB k, b), (LPX_REGION_SIZE_MIB k, mib)])))
/-- A region is freed. -/
def Dev.regionDrop (d : Dev) (k : Nat) : Dev := d.rset (LPX_REGION k) 0#64

/-- R255: the regions an image asks for, made in order: the device, their entries, and the first request that cannot be
met, after which the rest are tried still. -/
def allocAll : List RegionReq → Nat → Dev → List (Option Nat) × Option Nat × Dev
  | [], _, d => ([], none, d)
  | r :: l, i, d =>
    match d.regionAlloc r.kind r.mib with
    | some (k, e) => let x := allocAll l (i + 1) e; (some k :: x.1, x.2.1, x.2.2)
    | none => let x := allocAll l (i + 1) d; (none :: x.1, some i, x.2.2)

/-- R255: what a patch adds: a region's base in MiB or in 64-byte units; nothing for a region that could not be made. -/
def patchAdd (bases : List (Option Nat)) (p : Patch) : Nat :=
  let mib := ((bases[p.region]?).join).getD 0
  if p.kind = 1 then mib else mib * 2 ^ 14
/-- R255: the sum of a patched field; it may not fit. -/
def patchSum (bs : List Nat) (at0 : Nat) (bases : List (Option Nat)) (p : Patch) : Nat :=
  bitsOf (leAt bs at0 8) p.lsb p.width + patchAdd bases p
/-- R255: the patches applied in order, each sum modulo its width, and the first that does not fit. -/
def patchAll (secs : List RawSec) (bases : List (Option Nat)) : List Patch → Nat → List Nat → List Nat × Option Nat
  | [], _, bs => (bs, none)
  | p :: l, i, bs =>
    let at0 := ((secs[p.sec]?).getD ⟨0, 0, 0, 0⟩).off + p.off
    let v := patchSum bs at0 bases p
    let bs' := bs.take at0 ++ leBytes 8 (setBits (leAt bs at0 8) p.lsb p.width v) ++ bs.drop (at0 + 8)
    let x := patchAll secs bases l (i + 1) bs'
    (x.1, if 2 ^ p.width ≤ v then some i else x.2)

end Sys2Proof.Machine
end

