-- ==== Sys2Proof/Machine/Steering.lean ====
section
/-!
DEFINITION. The steering units (R119 to R123, R135 to R137): pairing, the ESQ check, the default route, discards, and
FLUSH.
-/

namespace Sys2Proof.Machine

open Sys2Proof

/-- R119: the condition sink of SU u. -/
def suCondQ (b u : Nat) : Nat := qnum b 2 (28 + u)
/-- R119: the network of the SU's data. -/
def Dev.suNet (d : Dev) (b u : Nat) : Nat := d.fget (BLK_SU_CFG_NET b u)
/-- R77: data input j, as a sink index. -/
def suIn (net u j : Nat) : Nat := if net = 0 then 80 + 2 * u + j else 14 + 2 * u + j
/-- R77: data output j, as a source index. -/
def suOut (net u j : Nat) : Nat := if net = 0 then 80 + 2 * u + j else 12 + 2 * u + j
/-- The queue of data input j. -/
def Dev.suQ (d : Dev) (b u j : Nat) : Nat := qnum b (d.suNet b u) (suIn (d.suNet b u) u j)
/-- R119: tokens for output j are consumed, not sent. -/
def Dev.suDrops (d : Dev) (b u j : Nat) : Bool :=
  if j = 0 then d.flag (BLK_SU_CFG_DISCARD0 b u) else d.flag (BLK_SU_CFG_DISCARD1 b u)
/-- R119: c, the condition bit XOR INVERT. -/
def Dev.suChoice (d : Dev) (b u : Nat) (t : Token) : Nat :=
  b2n (bitAt t.payload.toNat 0 != d.flag (BLK_SU_CFG_INVERT b u))

/-- R121: the inputs a mode uses, in the order condition, data 0, data 1. -/
def Dev.suInputs (d : Dev) (b u : Nat) : List Nat :=
  let m := d.fget (BLK_SU_CFG_MODE b u)
  if m = 1 then [suCondQ b u, d.suQ b u 0]
  else if m = 2 then [suCondQ b u, d.suQ b u 0, d.suQ b u 1]
  else if m = 3 then [d.suQ b u 0, d.suQ b u 1]
  else []
/-- R121: the outputs a mode uses. -/
def Dev.suOutputs (d : Dev) (b u : Nat) : List Nat :=
  let m := d.fget (BLK_SU_CFG_MODE b u)
  if m = 2 then [0] else if m = 0 then [] else [0, 1]
/-- R121: FLUSH stands at the head of a used input. -/
def Dev.suFlushing (d : Dev) (b u : Nat) : Bool :=
  (d.suInputs b u).any (fun q => ((d.headOf q).map (fun t => t.kind == TokKind.flush)).getD false)
/-- The SU can put a token at output j: the stage is empty, or the output discards. -/
def Dev.suCan (d : Dev) (b u j : Nat) : Bool := d.suDrops b u j || d.stageEmpty b (d.suNet b u) (suOut (d.suNet b u) u j)

/-- R119: a token goes to output j: sent and counted, or consumed and counted where DISCARD is set. -/
def Dev.suSend (d : Dev) (b u j : Nat) (t : Token) : Dev :=
  if d.suDrops b u j then d.bump (BLK_SU_ERR_DISCARDED b u)
  else (d.putStage b (d.suNet b u) (suOut (d.suNet b u) u j) t).bump
    (if j = 0 then BLK_SU_COUNT_TO_OUT0 b u else BLK_SU_COUNT_TO_OUT1 b u)

/-- R120: tokens paired with unequal ESQs: a notice for each distinct ESQ, and MISMATCH counts. The suspect is the
origin of the route into the first input whose ESQ differs from the first input's (R434). -/
def Dev.suCheck (d : Dev) (b u : Nat) (ts : List (Nat × Token)) : Dev :=
  let esqs := ts.map (fun e => e.2.esq)
  match ts.find? (fun e => e.2.esq != esqs.headD 0) with
  | none => d
  | some e => (d.tagMismatch (unitId 3 b u) (d.origin (e.1 / 1024) (e.1 / 256 % 4) (e.1 % 256)) esqs).bump (BLK_SU_ERR_MISMATCH b u)

/-- R120: the ESQs differ. -/
def esqsDiffer (ts : List Token) : Bool := ts.any (fun t => t.esq != (ts.headD default).esq)

/-- STEER (R119, R120): data 0 to output c, or to DEFAULT on a mismatch. -/
def suSteer (b u : Nat) (d : Dev) : Dev :=
  if d.fget (BLK_SU_CFG_MODE b u) != 1 || d.suFlushing b u then d else
  match d.headOf (suCondQ b u), d.headOf (d.suQ b u 0) with
  | some c, some t =>
    let j := if esqsDiffer [c, t] then d.fget (BLK_SU_CFG_DEFAULT b u) else d.suChoice b u c
    if !d.suCan b u j then d
    else
      let q := d.suQ b u 0
      let d := d.suCheck b u [(suCondQ b u, c), (q, t)]
      (((d.popSink (suCondQ b u)).popSink q).suSend b u j t).busy b (20 + u) 2
  | _, _ => d

/-- MERGE with TAKE BOTH (R119, R120): data input c to output 0, or DEFAULT on a mismatch; the other is discarded. -/
def suMergeBoth (b u : Nat) (d : Dev) : Dev :=
  if d.fget (BLK_SU_CFG_MODE b u) != 2 || d.flag (BLK_SU_CFG_TAKE b u) || d.suFlushing b u then d else
  match d.headOf (suCondQ b u), d.headOf (d.suQ b u 0), d.headOf (d.suQ b u 1) with
  | some c, some t0, some t1 =>
    let k := if esqsDiffer [c, t0, t1] then d.fget (BLK_SU_CFG_DEFAULT b u) else d.suChoice b u c
    if !d.suCan b u 0 then d
    else
      let q0 := d.suQ b u 0
      let q1 := d.suQ b u 1
      let d := d.suCheck b u [(suCondQ b u, c), (q0, t0), (q1, t1)]
      let d := ((d.popSink (suCondQ b u)).popSink q0).popSink q1
      ((d.bump (BLK_SU_ERR_DISCARDED b u)).suSend b u 0 (if k = 0 then t0 else t1)).busy b (20 + u) 2
  | _, _, _ => d

/-- MERGE with TAKE SELECTED (R119, R120): the condition, then data input c only, to output 0. -/
def suMergeSelected (b u : Nat) (d : Dev) : Dev :=
  if d.fget (BLK_SU_CFG_MODE b u) != 2 || !d.flag (BLK_SU_CFG_TAKE b u) || d.suFlushing b u then d else
  match d.headOf (suCondQ b u) with
  | none => d
  | some c =>
    let q := d.suQ b u (d.suChoice b u c)
    match d.headOf q with
    | none => d
    | some t =>
      if !d.suCan b u 0 then d
      else
        let d := d.suCheck b u [(suCondQ b u, c), (q, t)]
        (((d.popSink (suCondQ b u)).popSink q).suSend b u 0 t).busy b (20 + u) 2

/-- JOIN (R119, R120): data 0 to output 0 and data 1 to output 1 together, once both stages are empty. -/
def suJoin (b u : Nat) (d : Dev) : Dev :=
  if d.fget (BLK_SU_CFG_MODE b u) != 3 || d.suFlushing b u then d else
  match d.headOf (d.suQ b u 0), d.headOf (d.suQ b u 1) with
  | some t0, some t1 =>
    let n := d.suNet b u
    if !(d.stageEmpty b n (suOut n u 0) && d.stageEmpty b n (suOut n u 1)) then d
    else
      let q0 := d.suQ b u 0
      let q1 := d.suQ b u 1
      let d := d.suCheck b u [(q0, t0), (q1, t1)]
      ((((d.popSink q0).popSink q1).suSend b u 0 t0).suSend b u 1 t1).busy b (20 + u) 2
  | _, _ => d

/-- R121: FLUSH at an SU. The FLUSH tokens stay at their heads until every used output stage is empty (DESIGN CHOICE, log
entry 137). -/
def suFlush (b u : Nat) (d : Dev) : Dev :=
  if !d.suFlushing b u then d else
  let qs := d.suInputs b u
  let d := d.each qs (fun d q =>
    let r := discardToFlush (d.held q) q d
    if r.2 = 0 then r.1 else r.1.bumpBy (BLK_SU_ERR_FLUSH_DISCARD b u) r.2)
  let outs := (d.suOutputs b u).filter (fun j => !d.suDrops b u j)
  let n := d.suNet b u
  if d.allFlush qs && outs.all (fun j => d.stageEmpty b n (suOut n u j)) then
    let esq := (((qs.head?).bind d.headOf).map Token.esq).getD 0
    (d.each qs Dev.popSink).each outs (fun d j => d.putStage b n (suOut n u j) ⟨esq, .flush, 0#512⟩)
  else d

/-- STEER. -/
def execSteer (b u : Nat) (s : State) : Host.Outcome State Fault Refusal := s.onDev (Wf.steer b u) (onPower b (suSteer b u))
/-- MERGE_BOTH. -/
def execMergeBoth (b u : Nat) (s : State) : Host.Outcome State Fault Refusal := s.onDev (Wf.mergeBoth b u) (onPower b (suMergeBoth b u))
/-- MERGE_SELECTED. -/
def execMergeSelected (b u : Nat) (s : State) : Host.Outcome State Fault Refusal :=
  s.onDev (Wf.mergeSelected b u) (onPower b (suMergeSelected b u))
/-- JOIN. -/
def execJoin (b u : Nat) (s : State) : Host.Outcome State Fault Refusal := s.onDev (Wf.join b u) (onPower b (suJoin b u))
/-- SU_FLUSH. -/
def execSuFlush (b u : Nat) (s : State) : Host.Outcome State Fault Refusal := s.onDev (Wf.suFlush b u) (onPower b (suFlush b u))

end Sys2Proof.Machine
end

