-- ==== Sys2Proof/Machine/TileCode.lean ====
section
/-!
DEFINITION. The tile program word as a code: the word of every tile instruction and the instruction of every legal
word (R107 to R110), with the legality the loader checks (R108). Issues are taken at block 0, tile 0: a word says
nothing of where it stands.
-/

namespace Sys2Proof.Machine

open Sys2Proof

/-- A bare issue under a guard. -/
def bareIssue (g : Guard) : Issue := ⟨0, 0, g, 0, []⟩

/-- R107: the guard of a word; the other guard values are reserved. -/
def guardOf (w : Nat) : Option Guard :=
  let n := bitsOf w 28 4
  if n = 0 then some ⟨false, false, 0⟩
  else if 4 ≤ n ∧ n ≤ 7 then some ⟨true, false, n - 4⟩
  else if 12 ≤ n then some ⟨true, true, n - 12⟩
  else none

/-- The conditions in opcode order. -/
def condOf (n : Nat) : Cond :=
  if n = 0 then .eq else if n = 1 then .ne else if n = 2 then .lt else if n = 3 then .ge else if n = 4 then .ltu else .geu

/-- A result where a word's zero fields are zero. -/
def legal (c : Bool) (i : Instr) : Option Instr := if c then some i else none

/-- R109: the word of a tile instruction; no other command has one. -/
def tileWord : Instr → Option Nat
  | .nop x => some (guardBits x.guard)
  | .end_ x => some (encK x.guard 0x01 0 0 0)
  | .br x t => some (encK x.guard 0x02 0 0 t)
  | .loop x k t => some (encK x.guard 0x03 k 0 t)
  | .add x rd ra rb => some (encR x.guard 0x4 rd ra rb 0)
  | .sub x rd ra rb => some (encR x.guard 0x5 rd ra rb 0)
  | .and_ x rd ra rb => some (encR x.guard 0x6 rd ra rb 0)
  | .or_ x rd ra rb => some (encR x.guard 0x7 rd ra rb 0)
  | .xor_ x rd ra rb => some (encR x.guard 0x8 rd ra rb 0)
  | .shl x rd ra rb => some (encR x.guard 0x9 rd ra rb 0)
  | .shr x rd ra rb => some (encR x.guard 0xa rd ra rb 0)
  | .sra x rd ra rb => some (encR x.guard 0xb rd ra rb 0)
  | .adds x rd ra rb => some (encR x.guard 0xc rd ra rb 0)
  | .subs x rd ra rb => some (encR x.guard 0xd rd ra rb 0)
  | .min_ x rd ra rb => some (encR x.guard 0xe rd ra rb 0)
  | .max_ x rd ra rb => some (encR x.guard 0xf rd ra rb 0)
  | .minu x rd ra rb => some (encR x.guard 0x10 rd ra rb 0)
  | .maxu x rd ra rb => some (encR x.guard 0x11 rd ra rb 0)
  | .mul x rd ra rb => some (encR x.guard 0x12 rd ra rb 0)
  | .mulu x rd ra rb => some (encR x.guard 0x13 rd ra rb 0)
  | .addi x rd ra m => some (encI x.guard 0x14 rd ra m)
  | .andi x rd ra m => some (encI x.guard 0x15 rd ra m)
  | .ori x rd ra m => some (encI x.guard 0x16 rd ra m)
  | .xori x rd ra m => some (encI x.guard 0x17 rd ra m)
  | .shli x rd ra m => some (encI x.guard 0x18 rd ra m)
  | .shri x rd ra m => some (encI x.guard 0x19 rd ra m)
  | .srai x rd ra m => some (encI x.guard 0x1a rd ra m)
  | .movi x rd m => some (encM x.guard 0x1B rd m)
  | .movhi x rd m => some (encM x.guard 0x1C rd m)
  | .extu x rd ra pos len => some (encF x.guard 0x1d rd ra pos len)
  | .exts x rd ra pos len => some (encF x.guard 0x1e rd ra pos len)
  | .ins x rd ra pos len => some (encF x.guard 0x1f rd ra pos len)
  | .popc x rd ra => some (encR x.guard 0x20 rd ra 0 0)
  | .clz x rd ra => some (encR x.guard 0x21 rd ra 0 0)
  | .sel x rd ra rb ps => some (encR x.guard 0x22 rd ra rb ps)
  | .rget x rd ra => some (encR x.guard 0x23 rd ra 0 0)
  | .rput x ra rb => some (encR x.guard 0x24 0 ra rb 0)
  | .lut x rd ra => some (encR x.guard 0x25 rd ra 0 0)
  | .luts x rd ra => some (encR x.guard 0x26 rd ra 0 0)
  | .lutw x ra rb => some (encR x.guard 0x27 0 ra rb 0)
  | .cmpCc x cc pd ra rb => some (encR x.guard (0x28 + condNum cc) pd ra rb 0)
  | .cmpiCc x cc pd ra m => some (encI x.guard (0x2E + condNum cc) pd ra m)
  | .plog x pd pa pb fn => some (encK x.guard 0x34 0 pd (pa * 2 ^ 16 + pb * 2 ^ 14 + fn))
  | .pget_ x rd => some (encM x.guard 0x35 rd 0)
  | .pput_ x ra => some (encI x.guard 0x36 0 ra 0)
  | .cldi x k m => some (encK x.guard 0x37 k 0 m)
  | .cld x k ra => some (encK x.guard 0x38 k 0 (ra * 2 ^ 14))
  | .cget x rd k => some (encM x.guard 0x39 rd (k * 2 ^ 12))
  | .cstep x k pd => some (encK x.guard 0x3A k pd 0)
  | .recv x rd port pe pd => some (encRecv x.guard rd port pe pd)
  | .send x port ra => some (encI x.guard 0x3C 0 ra (port * 2 ^ 11))
  | .sendM x port ra => some (encI x.guard 0x3C 0 ra (port * 2 ^ 11 + 2 ^ 10))
  | .sendc x ps => some (encI x.guard 0x3D 0 0 (4 * 2 ^ 11 + ps * 2 ^ 8))
  | _ => none

/-- R108, R109: the operation of a word below its guard. -/
def tileBody (x : Issue) (w : Nat) : Option Instr :=
  let op := bitsOf w 22 6
  let rd := bitsOf w 18 4
  let ra := bitsOf w 14 4
  let rb := bitsOf w 10 4
  let imm := bitsOf w 0 14
  let pd := bitsOf w 18 2
  let ck := bitsOf w 20 2
  let pos := bitsOf w 9 5
  let len := bitsOf w 4 5 + 1
  match op with
  | 0x0 => legal (bitsOf w 0 22 == 0) (.nop x)
  | 0x1 => legal (bitsOf w 0 22 == 0) (.end_ x)
  | 0x2 => legal (bitsOf w 7 15 == 0) (.br x (bitsOf w 0 7))
  | 0x3 => legal (bitsOf w 7 13 == 0) (.loop x ck (bitsOf w 0 7))
  | 0x4 => legal (bitsOf w 0 10 == 0) (.add x rd ra rb)
  | 0x5 => legal (bitsOf w 0 10 == 0) (.sub x rd ra rb)
  | 0x6 => legal (bitsOf w 0 10 == 0) (.and_ x rd ra rb)
  | 0x7 => legal (bitsOf w 0 10 == 0) (.or_ x rd ra rb)
  | 0x8 => legal (bitsOf w 0 10 == 0) (.xor_ x rd ra rb)
  | 0x9 => legal (bitsOf w 0 10 == 0) (.shl x rd ra rb)
  | 0xa => legal (bitsOf w 0 10 == 0) (.shr x rd ra rb)
  | 0xb => legal (bitsOf w 0 10 == 0) (.sra x rd ra rb)
  | 0xc => legal (bitsOf w 0 10 == 0) (.adds x rd ra rb)
  | 0xd => legal (bitsOf w 0 10 == 0) (.subs x rd ra rb)
  | 0xe => legal (bitsOf w 0 10 == 0) (.min_ x rd ra rb)
  | 0xf => legal (bitsOf w 0 10 == 0) (.max_ x rd ra rb)
  | 0x10 => legal (bitsOf w 0 10 == 0) (.minu x rd ra rb)
  | 0x11 => legal (bitsOf w 0 10 == 0) (.maxu x rd ra rb)
  | 0x12 => legal (bitsOf w 0 10 == 0) (.mul x rd ra rb)
  | 0x13 => legal (bitsOf w 0 10 == 0) (.mulu x rd ra rb)
  | 0x14 => legal (true) (.addi x rd ra imm)
  | 0x15 => legal (true) (.andi x rd ra imm)
  | 0x16 => legal (true) (.ori x rd ra imm)
  | 0x17 => legal (true) (.xori x rd ra imm)
  | 0x18 => legal (bitsOf w 5 9 == 0) (.shli x rd ra (bitsOf w 0 5))
  | 0x19 => legal (bitsOf w 5 9 == 0) (.shri x rd ra (bitsOf w 0 5))
  | 0x1a => legal (bitsOf w 5 9 == 0) (.srai x rd ra (bitsOf w 0 5))
  | 0x1b => legal (true) (.movi x rd (bitsOf w 0 18))
  | 0x1c => legal (bitsOf w 16 2 == 0) (.movhi x rd (bitsOf w 0 16))
  | 0x1d => legal (bitsOf w 0 4 == 0 && decide (pos + len ≤ 32)) (.extu x rd ra pos len)
  | 0x1e => legal (bitsOf w 0 4 == 0 && decide (pos + len ≤ 32)) (.exts x rd ra pos len)
  | 0x1f => legal (bitsOf w 0 4 == 0 && decide (pos + len ≤ 32)) (.ins x rd ra pos len)
  | 0x20 => legal (bitsOf w 0 14 == 0) (.popc x rd ra)
  | 0x21 => legal (bitsOf w 0 14 == 0) (.clz x rd ra)
  | 0x22 => legal (bitsOf w 0 8 == 0) (.sel x rd ra rb (bitsOf w 8 2))
  | 0x23 => legal (bitsOf w 0 14 == 0) (.rget x rd ra)
  | 0x24 => legal (rd == 0 && bitsOf w 0 10 == 0) (.rput x ra rb)
  | 0x25 => legal (bitsOf w 0 14 == 0) (.lut x rd ra)
  | 0x26 => legal (bitsOf w 0 14 == 0) (.luts x rd ra)
  | 0x27 => legal (rd == 0 && bitsOf w 0 10 == 0) (.lutw x ra rb)
  | 0x28 => legal (ck == 0 && bitsOf w 0 10 == 0) (.cmpCc x (condOf 0) pd ra rb)
  | 0x29 => legal (ck == 0 && bitsOf w 0 10 == 0) (.cmpCc x (condOf 1) pd ra rb)
  | 0x2a => legal (ck == 0 && bitsOf w 0 10 == 0) (.cmpCc x (condOf 2) pd ra rb)
  | 0x2b => legal (ck == 0 && bitsOf w 0 10 == 0) (.cmpCc x (condOf 3) pd ra rb)
  | 0x2c => legal (ck == 0 && bitsOf w 0 10 == 0) (.cmpCc x (condOf 4) pd ra rb)
  | 0x2d => legal (ck == 0 && bitsOf w 0 10 == 0) (.cmpCc x (condOf 5) pd ra rb)
  | 0x2e => legal (ck == 0) (.cmpiCc x (condOf 0) pd ra imm)
  | 0x2f => legal (ck == 0) (.cmpiCc x (condOf 1) pd ra imm)
  | 0x30 => legal (ck == 0) (.cmpiCc x (condOf 2) pd ra imm)
  | 0x31 => legal (ck == 0) (.cmpiCc x (condOf 3) pd ra imm)
  | 0x32 => legal (ck == 0) (.cmpiCc x (condOf 4) pd ra imm)
  | 0x33 => legal (ck == 0) (.cmpiCc x (condOf 5) pd ra imm)
  | 0x34 => legal (ck == 0 && bitsOf w 4 10 == 0) (.plog x pd (bitsOf w 16 2) (bitsOf w 14 2) (bitsOf w 0 4))
  | 0x35 => legal (bitsOf w 0 18 == 0) (.pget_ x rd)
  | 0x36 => legal (rd == 0 && imm == 0) (.pput_ x ra)
  | 0x37 => legal (bitsOf w 16 4 == 0) (.cldi x ck (bitsOf w 0 16))
  | 0x38 => legal (pd == 0 && imm == 0) (.cld x ck ra)
  | 0x39 => legal (ra == 0 && bitsOf w 0 12 == 0) (.cget x rd (bitsOf w 12 2))
  | 0x3a => legal (bitsOf w 0 18 == 0) (.cstep x ck pd)
  | 0x3b => legal (bitsOf w 0 12 == 0 && decide (bitsOf w 15 3 < 5)) (.recv x rd (bitsOf w 15 3) (bitAt w 14) (bitsOf w 12 2))
  | 0x3c => if bitAt w 10 then legal (rd == 0 && bitsOf w 0 10 == 0 && decide (bitsOf w 11 3 < 5)) (.sendM x (bitsOf w 11 3) ra)
    else legal (rd == 0 && bitsOf w 0 10 == 0 && decide (bitsOf w 11 3 < 5)) (.send x (bitsOf w 11 3) ra)
  | 0x3d => legal (bitsOf w 14 8 == 0 && bitsOf w 11 3 == 4 && !bitAt w 10 && bitsOf w 0 8 == 0) (.sendc x (bitsOf w 8 2))
  | _ => none

/-- R107, R108: the instruction of a word; none where the loader refuses the word with TILE_ILLEGAL. -/
def tileDecode (w : Nat) : Option Instr := (guardOf w).bind (fun g => tileBody (bareIssue g) w)

/-- R114: the output port an instruction sends on. -/
def sendPort : Instr → Option Nat
  | .send _ port _ => some port
  | .sendM _ port _ => some port
  | .sendc _ _ => some 4
  | _ => none

end Sys2Proof.Machine

namespace Sys2Proof

/-- The issue of a tile instruction; no other command has one. -/
def Instr.issue : Instr → Option Issue
  | .nop x => some x
  | .end_ x => some x
  | .br x _ => some x
  | .loop x _ _ => some x
  | .add x _ _ _ => some x
  | .sub x _ _ _ => some x
  | .and_ x _ _ _ => some x
  | .or_ x _ _ _ => some x
  | .xor_ x _ _ _ => some x
  | .shl x _ _ _ => some x
  | .shr x _ _ _ => some x
  | .sra x _ _ _ => some x
  | .adds x _ _ _ => some x
  | .subs x _ _ _ => some x
  | .min_ x _ _ _ => some x
  | .max_ x _ _ _ => some x
  | .minu x _ _ _ => some x
  | .maxu x _ _ _ => some x
  | .mul x _ _ _ => some x
  | .mulu x _ _ _ => some x
  | .addi x _ _ _ => some x
  | .andi x _ _ _ => some x
  | .ori x _ _ _ => some x
  | .xori x _ _ _ => some x
  | .shli x _ _ _ => some x
  | .shri x _ _ _ => some x
  | .srai x _ _ _ => some x
  | .movi x _ _ => some x
  | .movhi x _ _ => some x
  | .extu x _ _ _ _ => some x
  | .exts x _ _ _ _ => some x
  | .ins x _ _ _ _ => some x
  | .popc x _ _ => some x
  | .clz x _ _ => some x
  | .sel x _ _ _ _ => some x
  | .rget x _ _ => some x
  | .rput x _ _ => some x
  | .lut x _ _ => some x
  | .luts x _ _ => some x
  | .lutw x _ _ => some x
  | .cmpCc x _ _ _ _ => some x
  | .cmpiCc x _ _ _ _ => some x
  | .plog x _ _ _ _ => some x
  | .pget_ x _ => some x
  | .pput_ x _ => some x
  | .cldi x _ _ => some x
  | .cld x _ _ => some x
  | .cget x _ _ => some x
  | .cstep x _ _ => some x
  | .recv x _ _ _ _ => some x
  | .send x _ _ => some x
  | .sendM x _ _ => some x
  | .sendc x _ => some x
  | _ => none

/-- R104, R107: a tile instruction that neither transfers control, ends the firing nor uses a port. -/
def Instr.movesOn : Instr → Bool
  | .end_ _ => false
  | .br _ _ => false
  | .loop _ _ _ => false
  | .recv _ _ _ _ _ => false
  | .send _ _ _ => false
  | .sendM _ _ _ => false
  | .sendc _ _ => false
  | i => i.issue.isSome

end Sys2Proof
end

