-- ==== Sys2Proof/Machine/Check.lean ====
section
/-!
DEFINITION. The loader's checks of a configuration (R260): routes, forks, domains, pools, joins, tile programs, ready
order, steered regions, VU programs, fan-in, MU regions, look-back windows, decoupling queues, register targets and
initiation intervals. A configuration is judged as a trial device that holds its register records under the logical tile
and own VU numbers the image names (R252), so that the functions of the fabric read it as they read the loaded device.
-/

namespace Sys2Proof.Machine

open Sys2Proof

/-! ## Records and combinations of placements (R252, R254, R572) -/

/-- R254: the register records of a figure in a placement. -/
def Figure.records (f : Figure) (k : Nat) : List RegRec := if k = 0 then f.config else ((f.alts[k - 1]?).map Placement.records).getD []
/-- The records of every figure, each in its placement of a choice. -/
def Image.recs (im : Image) (choice : List Nat) : List RegRec := (im.figures.zip choice).flatMap (fun e => e.1.records e.2)
/-- R572: placement 0 of every figure. -/
def Image.base (im : Image) : List Nat := im.figures.map (fun _ => 0)
/-- R572: the combinations checked at LOAD besides the chosen one. -/
def Image.combos (im : Image) : List (List Nat) :=
  im.base :: (im.figures.zipIdx).flatMap (fun e => (upTo (e.1.placements - 1)).map (fun k => im.base.set e.2 (k + 1)))

/-- A trial device: registers that hold a list of records, and nothing else. -/
def trialOf (rs : List RegRec) : Dev := { regs := rs.foldl (fun m r => pput (blk r.block + r.off) (BitVec.ofNat 64 r.value) m) [] }

/-- R97: the sink a record configures, as (network, index). -/
def RegRec.sink? (r : RegRec) : Option (Nat × Nat) :=
  if 0x800 ≤ r.off ∧ r.off < 0x800 + 8 * 92 then some (0, (r.off - 0x800) / 8)
  else if 0xC00 ≤ r.off ∧ r.off < 0xC00 + 8 * 23 then some (1, (r.off - 0xC00) / 8)
  else if 0xE00 ≤ r.off ∧ r.off < 0xE00 + 8 * 32 then some (2, (r.off - 0xE00) / 8)
  else none
/-- R64, R65, R253: the unit a record configures, a tile by its logical number. -/
def RegRec.unit? (r : RegRec) : Option Nat :=
  if 0x1000 ≤ r.off ∧ r.off < 0x1100 then some (unitId 3 r.block ((r.off - 0x1000) / 0x40))
  else if 0x2000 ≤ r.off ∧ r.off < 0xA000 then some (unitId 0 r.block ((r.off - 0x2000) / 0x800))
  else if 0xC000 ≤ r.off ∧ r.off < 0xE000 then some (unitId 1 r.block ((r.off - 0xC000) / 0x1000))
  else if 0xE000 ≤ r.off ∧ r.off < 0xF000 then some (unitId 2 r.block 0)
  else none
/-- The units that records configure, each once. -/
def recUnits (rs : List RegRec) : List Nat := (rs.filterMap RegRec.unit?).eraseDups
/-- The queue numbers of the valid sinks among records, each once. -/
def recSinks (rs : List RegRec) : List Nat :=
  ((rs.filter (fun r => bitAt r.value 0)).filterMap (fun r => (r.sink?).map (fun e => qnum r.block e.1 e.2))).eraseDups
/-- The blocks that records configure, ascending. -/
def blocksOf (rs : List RegRec) : List Nat := (upTo 256).filter (fun b => rs.any (fun r => r.block == b))
/-- R437: the unit that names a sink of a queue number. -/
def sinkUnit (q : Nat) : Nat := sinkId (q / 1024) (q / 256 % 4) (q % 256)

/-- What a failed check reports: its code of R260, a unit and an index (R282). -/
abbrev LoadErr := Nat × Nat × Nat
/-- A failed check that names a unit. -/
def errUnit (code u : Nat) : LoadErr := (code, u, 0)
/-- A failed check that names a path, a join, a steered region or a figure. -/
def errIndex (code i : Nat) : LoadErr := (code, 0, i)
/-- A check that names the first unit of a list for which it fails. -/
def firstUnit (code : Nat) (l : List Nat) (bad : Nat → Bool) : Option LoadErr := (l.find? bad).map (errUnit code)

/-! ## The graph of routes (R75, R77) -/

/-- R77: what a sink feeds, a tile by its logical number; the egress point of an east-edge block for vector sink 22. -/
def fedUnit (q : Nat) : Nat :=
  let b := q / 1024
  let net := q / 256 % 4
  let i := q % 256
  if net = 0 then
    if i < 80 then unitId 0 b ((i - 16) / 4) else if i < 88 then unitId 3 b ((i - 80) / 2)
    else if i < 90 then unitId 2 b 0 else unitId 1 b (i - 90)
  else if net = 1 then
    if i < 10 then unitId 1 b (i - 8) else if i < 12 then unitId 1 b (i - 10) else if i < 14 then unitId 2 b 0
    else if i < 22 then unitId 3 b ((i - 14) / 2) else egressId (b / 16)
  else if i < 28 then unitId 0 b (i - 12) else unitId 3 b (i - 28)
/-- R77: the sources of a unit, as queue numbers. -/
def unitSources (u : Nat) : List Nat :=
  let b := unitWhere u
  let i := unitIndex u
  match unitClass u with
  | 0 => (upTo 4).map (fun k => qnum b 0 (16 + 4 * i + k)) ++ [qnum b 2 (12 + i)]
  | 1 => [qnum b 1 (8 + i), qnum b 0 (90 + i)]
  | 2 => [qnum b 0 88, qnum b 0 89, qnum b 1 10, qnum b 1 11]
  | 3 => [qnum b 0 (80 + 2 * i), qnum b 0 (81 + 2 * i), qnum b 1 (12 + 2 * i), qnum b 1 (13 + 2 * i)]
  | _ => []
/-- The sources that a token at a sink may lead to: those of the unit it feeds; of an MU, those of the sink's AGU. -/
def sinkSources (q : Nat) : List Nat :=
  let b := q / 1024
  let i := q % 256
  if unitClass (fedUnit q) = 2 then
    let a := if q / 256 % 4 = 0 then i - 88 else i - 12
    [qnum b 0 (88 + a), qnum b 1 (10 + a)]
  else unitSources (fedUnit q)

/-- R78: the sinks that a source feeds, as queue numbers. -/
def Dev.fedBy (d : Dev) (q : Nat) : List Nat := (d.feeds (q / 1024) (q / 256 % 4) (q % 256)).map (qnum (q / 1024) (q / 256 % 4))
/-- R75: the mesh source of the neighbour behind a mesh sink. -/
def meshNext (q : Nat) : Option Nat :=
  let net := q / 256 % 4
  let i := q % 256
  (neighbour (q / 1024) (i / vcCount net)).map (fun n => qnum n net (opposite (i / vcCount net) * vcCount net + i % vcCount net))
/-- A mesh sink. -/
def meshSink (q : Nat) : Bool := isMesh (q / 256 % 4) (q % 256)
/-- The sinks one step on from a sink: of the neighbour, or of what the sink feeds. -/
def Dev.onward (d : Dev) (outs : Nat → List Nat) (q : Nat) : List Nat :=
  if meshSink q then ((meshNext q).map d.fedBy).getD [] else (outs q).flatMap d.fedBy
/-- What can be reached in steps from a list, each once. -/
def closure (next : Nat → List Nat) : Nat → List Nat → List Nat → List Nat
  | 0, _, seen => seen
  | _ + 1, [], seen => seen
  | fuel + 1, q :: todo, seen =>
    if seen.contains q then closure next fuel todo seen
    else closure next fuel (todo ++ (next q).filter (fun x => !seen.contains x && !todo.contains x)) (q :: seen)
/-- The sinks that tokens of a list of sources can reach, through every unit on the way. -/
def Dev.reached (d : Dev) (sources : List Nat) : List Nat :=
  closure (d.onward (fun q => unitSources (fedUnit q))) 0x20000 (sources.flatMap d.fedBy) []
/-- R223: tokens of a list of sources can reach a rind egress point. -/
def Dev.reachesEgress (d : Dev) (sources : List Nat) : Bool := (d.reached sources).any (fun q => unitClass (fedUnit q) == 9 && !meshSink q)

/-- The source, not a mesh source, at the start of the route into a sink. -/
def Dev.routeStart (d : Dev) : Nat → Nat → Option Nat
  | 0, _ => none
  | fuel + 1, q =>
    let b := q / 1024
    let net := q / 256 % 4
    let j := d.fget (BLK_SW_SRC b net (q % 256))
    if !d.flag (BLK_SW_VALID b net (q % 256)) then none
    else if isMesh net j then
      match meshFeed b net j with
      | some (n, k) => d.routeStart fuel (qnum n net k)
      | none => none
    else some (qnum b net j)
/-- The source at the start of the route into a sink. -/
def Dev.start? (d : Dev) (q : Nat) : Option Nat := d.routeStart 4096 q
/-- R77: the unit of a source that is not a mesh source, a tile by its logical number. -/
def Dev.startUnit (d : Dev) (q : Nat) : Nat := d.sourceUnit (q / 1024) (q / 256 % 4) (q % 256)

/-! ## Routes (R78, R79, R97) -/

/-- R97, ROUTE_SOURCE: a valid sink that does not exist, or names a source that does not exist in its block. -/
def checkSources (d : Dev) (qs : List Nat) : Option LoadErr :=
  (qs.find? (fun q => !(sinkExists (q / 1024) (q / 256 % 4) (q % 256) &&
    sourceExists (q / 1024) (q / 256 % 4) (d.fget (BLK_SW_SRC (q / 1024) (q / 256 % 4) (q % 256)))))).map (fun q => errUnit 8 (sinkUnit q))
/-- R78, FORK_LIMIT: a source that feeds more than 4 sinks; the report names one of them. -/
def checkForks (d : Dev) (qs : List Nat) : Option LoadErr :=
  (qs.find? (fun q => decide (4 < (d.feeds (q / 1024) (q / 256 % 4) (d.fget (BLK_SW_SRC (q / 1024) (q / 256 % 4) (q % 256)))).length))).map
    (fun q => errUnit 9 (sinkUnit q))
/-- R251, DOMAIN_CLAIM: a route or a unit in a domain not claimed. -/
def checkDomains (domains : Nat) (rs : List RegRec) : Option LoadErr :=
  firstUnit 0xA ((recSinks rs).map sinkUnit ++ recUnits rs) (fun u => !bitAt domains (domainOf (unitWhere u)))
/-- R79: the pool of a network. -/
def poolSize (net : Nat) : Nat := if net = 0 then 512 else if net = 1 then 96 else 256
/-- R79: the slots that the sinks of a block and network use. -/
def Dev.poolUse (d : Dev) (qs : List Nat) (b net : Nat) : Nat :=
  ((qs.filter (fun q => q / 1024 == b && q / 256 % 4 == net)).map (fun q => d.fget (BLK_SW_DEPTH b net (q % 256)))).sum
/-- R79, POOL: the queue depths of a block and network exceed its pool; the report names one of its sinks. -/
def checkPools (d : Dev) (rs : List RegRec) : Option LoadErr :=
  let qs := recSinks rs
  (qs.find? (fun q => decide (poolSize (q / 256 % 4) < d.poolUse qs (q / 1024) (q / 256 % 4)))).map (fun q => errUnit 0xB (sinkUnit q))

/-! ## Joins (R80, R253) -/

/-- The pairs of inputs on which a unit fires, as queue numbers of its sinks. -/
def Dev.firePairs (d : Dev) (u : Nat) : List (List Nat) :=
  let b := unitWhere u
  let i := unitIndex u
  match unitClass u with
  | 0 => ((upTo 4).filter (fun f => bitAt (d.fget (BLK_TILE_CFG_DESC_VALID b i)) f)).map (fun f =>
      (onesOf 5 (d.fget (BLK_TILE_FIRE_IN_MASK b i f))).map (tileQ b i))
  | 1 => [(onesOf 3 (d.fget (BLK_VU_CFG_IN_USED (vuWin b i)))).map (fun k => ([qnum b 1 (8 + i), qnum b 1 (10 + i), qnum b 0 (90 + i)]).getD k 0)]
  | 2 => (upTo 2).map (fun a => if d.aguMode b a = 6 then [qnum b 0 (88 + a), qnum b 1 (12 + a)] else [])
  | 3 => [d.suInputs b i]
  | _ => []
/-- The inputs of units that a branch of a fork reaches: on through the sinks that each unit input's tokens lead to. -/
def Dev.branchReach (d : Dev) (q : Nat) : List Nat := closure (d.onward sinkSources) 0x20000 [q] []
/-- R80: two branches of one fork reach two inputs of a unit that fires on both. -/
def Dev.joins (d : Dev) (forks : List (List (List Nat))) (u : Nat) : Bool :=
  (d.firePairs u).any (fun ins => forks.any (fun brs =>
    (brs.zipIdx).any (fun x => (brs.zipIdx).any (fun y => x.2 != y.2 &&
      ins.any (fun p => x.1.contains p && ins.any (fun r => r != p && y.1.contains r))))))
/-- R78: the forks of a configuration, each as what its branches reach. -/
def Dev.forks (d : Dev) (qs : List Nat) : List (List (List Nat)) :=
  ((qs.map (fun q => qnum (q / 1024) (q / 256 % 4) (d.fget (BLK_SW_SRC (q / 1024) (q / 256 % 4) (q % 256))))).eraseDups.map d.fedBy).filterMap
    (fun l => if 1 < l.length then some (l.map d.branchReach) else none)
/-- R64, R253: the unit of a join. -/
def JoinEntry.at (e : JoinEntry) : Nat := unitId (bitsOf e.unit 12 4) e.block (bitsOf e.unit 0 12)
/-- R254: where a figure's block lies in one of its placements. -/
def Figure.block (f : Figure) (k b : Nat) : Nat :=
  if k = 0 then b
  else (((blocksOf f.config).zip (((f.alts[k - 1]?).map Placement.blocks).getD [])).find? (fun e => e.1 == b)).elim b Prod.snd
/-- R254: where a combination moves a place that placement 0 names: the block, under the first figure whose records in
placement 0 hold it. -/
def Image.movedBlock (im : Image) (choice : List Nat) (b : Nat) (holds : RegRec → Bool) : Nat :=
  ((im.figures.zip choice).find? (fun e => e.1.config.any (fun r => r.block == b && holds r))).elim b (fun e => e.1.block e.2 b)
/-- R254: a unit of placement 0 where a combination has it. -/
def Image.movedUnit (im : Image) (choice : List Nat) (u : Nat) : Nat :=
  unitId (unitClass u) (im.movedBlock choice (unitWhere u) (fun r => r.unit? == some u)) (unitIndex u)
/-- R80: a join's sinks in a combination. -/
def Image.joinSinks (im : Image) (choice : List Nat) (e : JoinEntry) : List Nat :=
  e.sinks.map (fun x => qnum (im.movedBlock choice x.1 (fun r => r.sink? == some (x.2.1, x.2.2))) x.2.1 x.2.2)
/-- R80: the capacity of a branch: DEPTH + 1 over the listed sinks that the configuration has. -/
def Dev.capacity (d : Dev) (qs : List Nat) : Nat :=
  ((qs.filter (fun q => d.flag (BLK_SW_VALID (q / 1024) (q / 256 % 4) (q % 256)))).map
    (fun q => d.fget (BLK_SW_DEPTH (q / 1024) (q / 256 % 4) (q % 256)) + 1)).sum
/-- R80: needed, at a worst-case turn time; an interval of 0 needs more than any capacity. -/
def JoinEntry.needed (e : JoinEntry) (t : Nat) : Option Nat :=
  if e.interval = 0 then none else some (ceilDiv ((e.tLong - e.tShort) * t) e.interval + 1)
/-- R80, QUEUE_BALANCE: a declared join whose branch cannot hold what it must, its sinks where the combination has them. -/
def checkBalance (im : Image) (t : Nat) (choice : List Nat) (d : Dev) : Option LoadErr :=
  ((im.joins.zipIdx).find? (fun e => match e.1.needed t with
    | none => true
    | some n => decide (d.capacity (im.joinSinks choice e.1) < n))).map (fun e => (0xC, im.movedUnit choice e.1.at, e.2))
/-- R80, R253, QUEUE_BALANCE: a join of the configuration that the image does not declare. -/
def checkJoins (im : Image) (d : Dev) : Option LoadErr :=
  let rs := im.recs im.base
  let forks := d.forks (recSinks rs)
  firstUnit 0xC (recUnits rs) (fun u => d.joins forks u && !im.joins.any (fun e => e.at == u))

/-! ## Tiles (R100, R102, R108, R114) -/

/-- R133: a word of a tile's instruction memory in a trial device. -/
def Dev.tileImem (d : Dev) (u : Nat) : List Nat := (upTo 128).map (d.imem ⟨unitWhere u, unitIndex u⟩)
/-- R100, R108, R110, R114, TILE_ILLEGAL: a tile whose descriptors, words or sends are not allowed. -/
def Dev.tileBad (d : Dev) (u : Nat) : Bool :=
  let b := unitWhere u
  let i := unitIndex u
  (upTo 4).any (fun f => bitAt (d.fget (BLK_TILE_CFG_DESC_VALID b i)) f &&
    (d.fget (BLK_TILE_FIRE_IN_MASK b i f) == 0 || d.fget (BLK_TILE_FIRE_MAX_INSTR b i f) == 0 || decide (64 < d.fget (BLK_TILE_FIRE_MAX_INSTR b i f)))) ||
  (d.tileImem u).any (fun w => match tileDecode w with
    | none => true
    | some x => match sendPort x with
      | none => false
      | some p => !bitAt (d.fget (BLK_TILE_CFG_OUT_USED b i)) p)
/-- The tiles of a list of units. -/
def ofClass (c : Nat) (us : List Nat) : List Nat := us.filter (fun u => unitClass u == c)
/-- TILE_ILLEGAL. -/
def checkTiles (d : Dev) (us : List Nat) : Option LoadErr := firstUnit 0xD (ofClass 0 us) d.tileBad
/-- R102, ORDER_MODE: ready order outside a T2-order figure. -/
def checkOrder (t2 : Bool) (d : Dev) (us : List Nat) : Option LoadErr :=
  firstUnit 0xE (ofClass 0 us) (fun u => !t2 && d.flag (BLK_TILE_CFG_READY_ORDER (unitWhere u) (unitIndex u)))

/-! ## Steered regions (R123) -/

/-- R253: a steered region in a combination: its STEER, its MERGE SELECTED and its units. -/
structure Region where
  steer : Nat
  merge : Nat
  units : List Nat

/-- R253, R572: an entry's region where a combination has it. -/
def SteerEntry.region (e : SteerEntry) (im : Image) (choice : List Nat) : Region :=
  { steer := im.movedUnit choice (unitId 3 e.steerBlock e.steerSu), merge := im.movedUnit choice (unitId 3 e.mergeBlock e.mergeSu)
    units := e.units.map (fun x => im.movedUnit choice (unitId x.2.1 x.1 x.2.2)) }
/-- R123: the source of an SU's condition. -/
def Dev.condStart (d : Dev) (u : Nat) : Option Nat := d.start? (suCondQ (unitWhere u) (unitIndex u))
/-- R119: the mode of an SU. -/
def Dev.suMode (d : Dev) (u : Nat) : Nat := d.fget (BLK_SU_CFG_MODE (unitWhere u) (unitIndex u))
/-- R123: a unit is a MERGE SELECTED whose condition is forked from the source of a STEER's condition. -/
def Dev.mergesFor (d : Dev) (steer u : Nat) : Bool :=
  unitClass u == 3 && d.suMode u == 2 && d.flag (BLK_SU_CFG_TAKE (unitWhere u) (unitIndex u)) && (d.condStart steer).isSome &&
    d.condStart u == d.condStart steer
/-- R123: a route from `src` into the sink q breaks the region's rules: it enters from outside, or leaves towards an egress
point other than through such a MERGE SELECTED. -/
def Dev.routeBreaks (d : Dev) (e : Region) (q src : Nat) : Bool :=
  let tgt := fedUnit q
  let inside := e.units.contains src || src == e.steer
  (e.units.contains tgt && !inside) ||
  (inside && !e.units.contains tgt && !d.mergesFor e.steer tgt && (unitClass tgt == 9 || d.reachesEgress (unitSources tgt)))
/-- R123: a region breaks one of the rules. -/
def Dev.steerBad (d : Dev) (qs : List Nat) (e : Region) : Bool :=
  d.suMode e.steer != 1 || !d.mergesFor e.steer e.merge ||
  qs.any (fun q => !meshSink q && (match d.start? q with
    | none => false
    | some s => d.routeBreaks e q (d.startUnit s)))
/-- R123, R253, R572, STEER_REGION: a declared region that breaks a rule where the combination has it. -/
def checkSteer (im : Image) (choice : List Nat) (d : Dev) : Option LoadErr :=
  let qs := recSinks (im.recs choice)
  ((im.steers.zipIdx).find? (fun e => d.steerBad qs (e.1.region im choice))).map (fun e => errIndex 0xF e.2)
/-- R123, R253, STEER_REGION: a STEER that no entry names. -/
def checkSteered (im : Image) (d : Dev) : Option LoadErr :=
  firstUnit 0xF (ofClass 3 (recUnits (im.recs im.base)))
    (fun u => d.fget (BLK_SU_CFG_MODE (unitWhere u) (unitIndex u)) == 1 && !im.steers.any (fun e => unitId 3 e.steerBlock e.steerSu == u))

/-! ## VU programs (R143, R153, R183, R188) -/

/-- R149, R153: the words of a VU's program, to its first LAST; none where no word has it. -/
def Dev.vuWords (d : Dev) (w : Nat) : Option (List Nat) :=
  let l := (upTo 64).map (fun j => d.fget (BLK_VU_UCODE_WORD w j))
  (l.findIdx? (fun x => bitAt x 63)).map (fun n => l.take (n + 1))
/-- The steps of a VU's program. -/
def Dev.vuProgram (d : Dev) (w : Nat) : List VuStep := ((d.vuWords w).getD []).map vuStep
/-- R149: a word with a reserved value or a bit that must be zero. -/
def wordReserved (n : Nat) : Bool :=
  let s := vuStep n
  s.accInit == 3 || s.rowIn == 3 || s.endAcc == 3 || s.ew == 3 || decide (5 ≤ s.act) || decide (6 ≤ s.outFmt) || bitsOf n 0 7 != 0
/-- R150: the step produces an output. -/
def VuStep.outputs (s : VuStep) : Bool := s.outFmt != 0 || s.red != 0
/-- R153: the step takes a token. -/
def VuStep.takes (s : VuStep) : Bool := s.rowIn == 1 || s.chainAdd || s.ew != 0
/-- R153: the fields that a step which ends no accumulation leaves zero. -/
def VuStep.bare (s : VuStep) : Bool :=
  !s.chainAdd && s.ew == 0 && !s.had && s.rsSel == 0 && s.act == 0 && s.outFmt == 0 && s.red == 0 && s.slot == 0 && !s.fixed
/-- R153: weight words per row. -/
def VuStep.wordStep (s : VuStep) : Nat := if s.int4 then 4 else 8
/-- R153: the rules on one step by itself. -/
def VuStep.fine (s : VuStep) : Bool :=
  (s.endAcc != 0 || s.bare) && (s.rowIn != 0 || s.repeats == 0) &&
  decide (s.wBase + s.repeats * s.wordStep + (s.wordStep - 1) ≤ 127) && decide (s.bAddr + s.repeats ≤ 127)
/-- What stands between two steps: whether an accumulation is open and what its last row has (0 no row, 1 a row without a
scale, 2 with one), the held row in the same numbers, and whether the step before looped its row. -/
structure VuWalk where
  opened : Bool := false
  row : Nat := 0
  held : Nat := 0
  looped : Bool := false
/-- The last row of the accumulation after a step's rows. -/
def VuWalk.rowAfter (x : VuWalk) (s : VuStep) : Nat :=
  if s.rowIn = 1 then (if s.scaleIn then 2 else 1) else if s.rowIn = 2 then x.held else if x.opened then x.row else 0
/-- R153: the rules on a step after those before it. -/
def VuWalk.fine (x : VuWalk) (s : VuStep) : Bool :=
  ((s.accInit != 0) == !x.opened) && (s.rowIn != 2 || x.held != 0) && (!x.looped || s.rowIn == 2) &&
  (s.endAcc == 0 || !s.scaleIn || x.rowAfter s == 2)
/-- What stands after a step. -/
def VuWalk.after (x : VuWalk) (s : VuStep) : VuWalk :=
  let held := if s.rowIn = 1 then (if s.scaleIn then 2 else 1) else x.held
  { opened := s.endAcc == 0, row := x.rowAfter s, held := if s.outFmt = 5 then 2 else held, looped := s.outFmt == 5 }
/-- R153: the rules along the program; the last step ends an accumulation and does not loop. -/
def vuWalk : VuWalk → List VuStep → Bool
  | x, [] => !x.opened && !x.looped
  | x, s :: l => x.fine s && vuWalk (x.after s) l
/-- R153: no step before the first that takes a token sends anything, and one takes a token. -/
def vuPaced (l : List VuStep) : Bool := l.any VuStep.takes && (l.takeWhile (fun s => !s.takes)).all (fun s => !s.outputs)
/-- R188: the S2 slots and the slots that steps name. -/
def Dev.slotsBad (d : Dev) (w : Nat) (l : List VuStep) : Bool :=
  l.any (fun s => ((s.outFmt == 1 || s.outFmt == 5) && d.fget (BLK_VU_S2_OUT_ZP w s.slot) == 255) ||
    (s.fixed && d.fget (BLK_VU_S2_FIXED_Q w s.slot) == 0)) ||
  (upTo 4).any (fun k =>
    let e := s2Exp (d.fget (BLK_VU_S2_S2_IMAGE w k))
    decide (d.fget (BLK_VU_S2_LIM_E2_MAX w k) < d.fget (BLK_VU_S2_LIM_E2_MIN w k)) ||
      decide (e < d.fget (BLK_VU_S2_LIM_E2_MIN w k)) || decide (d.fget (BLK_VU_S2_LIM_E2_MAX w k) < e))
/-- R153: the inputs a program takes, in the bits of IN_USED. -/
def inputsTaken (l : List VuStep) : List Nat :=
  (if l.any (fun s => s.rowIn == 1) then [0] else []) ++ (if l.any (fun s => s.chainAdd || s.ew != 0) then [1] else []) ++
    (if l.any (fun s => s.rowIn == 1 && s.scaleIn) then [2] else [])
/-- R153: the outputs a program sends, in the bits of OUT_USED. -/
def outputsSent (scaleOut : Bool) (l : List VuStep) : List Nat :=
  (if l.any (fun s => decide (1 ≤ s.outFmt) && decide (s.outFmt ≤ 4)) then [0] else []) ++
    (if l.any (fun s => s.red != 0 || (scaleOut && s.outFmt == 1)) then [1] else [])
/-- R153: a program's inputs and outputs are named in BLK_VU_CFG, and every one named has its route. -/
def Dev.vuRouted (d : Dev) (u : Nat) (l : List VuStep) : Bool :=
  let b := unitWhere u
  let v := unitIndex u
  let w := vuWin b v
  let ins := [(1, 8 + v), (1, 10 + v), (0, 90 + v)]
  let outs := [(1, 8 + v), (0, 90 + v)]
  (inputsTaken l).all (fun k => bitAt (d.fget (BLK_VU_CFG_IN_USED w)) k) &&
  (outputsSent (d.flag (BLK_VU_CFG_SCALE_OUT w)) l).all (fun k => bitAt (d.fget (BLK_VU_CFG_OUT_USED w)) k) &&
  (onesOf 3 (d.fget (BLK_VU_CFG_IN_USED w))).all (fun k => d.flag (BLK_SW_VALID b (ins.getD k (0, 0)).1 (ins.getD k (0, 0)).2)) &&
  (onesOf 2 (d.fget (BLK_VU_CFG_OUT_USED w))).all (fun k => d.feeds b (outs.getD k (0, 0)).1 (outs.getD k (0, 0)).2 != [])
/-- R153, R188: a VU's program or slots are not allowed. -/
def Dev.vuBad (d : Dev) (u : Nat) : Bool :=
  let w := vuWin (unitWhere u) (unitIndex u)
  let l := d.vuProgram w
  (d.vuWords w).isNone || ((d.vuWords w).getD []).any wordReserved || !l.all VuStep.fine || !vuWalk {} l || !vuPaced l || d.slotsBad w l ||
    !d.vuRouted u l

/-- R143: an accumulation of a program: the rows it takes, whether a bias starts it, what its ending step asks for, and the
chain tokens it takes for EW and the vector tokens it sends. -/
structure AccInfo where
  rows : Nat
  bias : Bool
  chain : Bool
  scale : Bool
  acc32 : Bool
  ew : Nat
  sent : Nat
/-- R150: the accumulations of a program from a step on, in order; `rows` and `bias` are those of the open one. -/
def accsOf : Nat → Bool → List VuStep → List AccInfo
  | _, _, [] => []
  | rows, bias, s :: l =>
    let bias := if s.accInit = 0 then bias else s.accInit == 2
    let one := if s.rowIn = 0 then 0 else 1
    let info (n : Nat) : AccInfo := ⟨n, bias, s.chainAdd, s.scaleIn, s.outFmt == 4, if s.ew = 0 then 0 else 2,
      if s.outFmt = 5 then 0 else s.outTurns - 1⟩
    if s.endAcc = 0 then accsOf (rows + one * (s.repeats + 1)) bias l
    else if s.endAcc = 1 then info (rows + one) :: (List.replicate s.repeats (info one) ++ accsOf 0 false l)
    else info (rows + one * (s.repeats + 1)) :: accsOf 0 false l
/-- The accumulations of a VU. -/
def Dev.accs (d : Dev) (u : Nat) : List AccInfo := accsOf 0 false (d.vuProgram (vuWin (unitWhere u) (unitIndex u)))
/-- The data inputs of an SU that lead to one of its outputs (R119). -/
def Dev.suThrough (d : Dev) (q : Nat) : List Nat :=
  let b := q / 1024
  let u := (q % 256 - (if q / 256 % 4 = 0 then 80 else 12)) / 2
  let j := (q % 256) % 2
  let m := d.fget (BLK_SU_CFG_MODE b u)
  if m = 1 then [d.suQ b u 0] else if m = 2 then [d.suQ b u 0, d.suQ b u 1] else if m = 3 then [d.suQ b u j] else []
/-- The VUs whose vector output reaches a sink, through SUs and MUs, and whether token by token: what an MU has stored may come
back in any order. -/
def Dev.vuBehind (d : Dev) : Nat → Nat → List (Nat × Bool)
  | 0, _ => []
  | fuel + 1, q =>
    match d.start? q with
    | none => []
    | some s =>
      let u := d.startUnit s
      if unitClass u = 1 then [(u, true)]
      else if unitClass u = 2 then ([12, 13].flatMap (fun i => d.vuBehind fuel (qnum (unitWhere u) 1 i))).map (fun e => (e.1, false))
      else if unitClass u = 3 then (d.suThrough s).flatMap (d.vuBehind fuel) else []
/-- R143: a fan-in and a number of biases; the larger of each over a list. -/
def mostCarried (l : List (Nat × Nat)) : Nat × Nat := ((l.map Prod.fst).foldl max 0, (l.map Prod.snd).foldl max 0)
/-- R151: the chain tokens that a list of accumulations takes in a cycle. -/
def chainTaken (l : List AccInfo) : Nat := (l.map (fun a => (if a.chain then 4 else 0) + a.ew)).sum
/-- R143: what each vector token of a cycle of VU u carries: fan-in and biases, those chained into its accumulation included; and
what is chained into each of its accumulations. -/
def Dev.carried (d : Dev) : Nat → Nat → List (Nat × Nat) × List (Nat × Nat)
  | 0, _ => ([], [])
  | fuel + 1, u =>
    let accs := d.accs u
    let up := (d.vuBehind 64 (qnum (unitWhere u) 1 (10 + unitIndex u))).map (fun e => ((d.carried fuel e.1).1, e.2))
    let chained := (accs.zipIdx).map (fun e =>
      if !e.1.chain then (0, 0)
      else mostCarried (up.map (fun t =>
        if t.2 && t.1.length == chainTaken accs then t.1.getD (chainTaken (accs.take e.2)) (0, 0) else mostCarried t.1)))
    ((accs.zip chained).flatMap (fun e => List.replicate e.1.sent
      (if e.1.acc32 then (64 * e.1.rows + e.2.1, b2n e.1.bias + e.2.2) else (0, 0))), chained)
/-- R143: the accumulations of a VU, each with what is chained into it. -/
def Dev.chainedInto (d : Dev) (u : Nat) : List (AccInfo × Nat × Nat) := (d.accs u).zip (d.carried 512 u).2
/-- R183: a bias is chained into an accumulation that rescales with a scale. -/
def Dev.biasBad (d : Dev) (u : Nat) : Bool := (d.chainedInto u).any (fun a => a.1.scale && decide (0 < a.2.2))
/-- VU_ILLEGAL (R153, R183, R188). -/
def checkVus (d : Dev) (us : List Nat) : Option LoadErr := firstUnit 0x10 (ofClass 1 us) (fun u => d.vuBad u || d.biasBad u)
/-- R143, FANIN_LIMIT: a fan-in above 4,096 or more than one bias, over the whole chain. -/
def checkFanin (d : Dev) (us : List Nat) : Option LoadErr :=
  firstUnit 0x11 (ofClass 1 us) (fun u => (d.chainedInto u).any (fun a =>
    decide (4096 < 64 * a.1.rows + a.2.1) || decide (1 < b2n a.1.bias + a.2.2)))

/-! ## MUs (R192, R196, R207, R232) -/

/-- R193: the AGU works on a region of the bank. -/
def Dev.aguBank (d : Dev) (b a : Nat) : Bool := decide (1 ≤ d.aguMode b a) && decide (d.aguMode b a ≤ 4)
/-- R193: the first word beyond an AGU's region. -/
def Dev.aguEnd (d : Dev) (b a : Nat) : Nat :=
  let e := d.fget (BLK_MU_AGU_ADDR_BASE b a) + d.fget (BLK_MU_AGU_CFG_WRAP b a)
  if d.aguVec b a then e else ceilDiv e 16
/-- R193: the first word of an AGU's region. -/
def Dev.aguFirst (d : Dev) (b a : Nat) : Nat :=
  let e := d.fget (BLK_MU_AGU_ADDR_BASE b a)
  if d.aguVec b a then e else e / 16
/-- R196: an AGU breaks a rule. -/
def Dev.aguBad (d : Dev) (b a : Nat) : Bool :=
  let m := d.aguMode b a
  let wrap := d.fget (BLK_MU_AGU_CFG_WRAP b a)
  m == 7 || (m == 4 && d.aguVec b a) || (m == 5 && !d.aguVec b a) ||
  (d.aguBank b a && (wrap == 0 || decide (wrap ≤ (d.aguStride b a).natAbs) || decide (7680 < d.aguEnd b a))) ||
  (m == 6 && decide (1024 < d.fget (BLK_MU_DQ_SIZE_MIB b)))
/-- MU_ILLEGAL (R196). -/
def checkMus (d : Dev) (us : List Nat) : Option LoadErr :=
  firstUnit 0x12 (ofClass 2 us) (fun u => (upTo 2).any (d.aguBad (unitWhere u)))
/-- R196, MU_OVERLAP: the regions of both AGUs share a word, and one of them writes. -/
def checkOverlap (d : Dev) (us : List Nat) : Option LoadErr :=
  firstUnit 0x13 (ofClass 2 us) (fun u =>
    let b := unitWhere u
    d.aguBank b 0 && d.aguBank b 1 && ((upTo 2).any (fun a => decide (2 ≤ d.aguMode b a))) &&
      decide (d.aguFirst b 0 < d.aguEnd b 1) && decide (d.aguFirst b 1 < d.aguEnd b 0))

/-- R207: a look-back window of a configuration: its MU, port, LAG and COUNT. -/
structure LbWindow where
  unit : Nat
  port : Nat
  lag : Nat
  count : Nat
/-- R207: the look-back windows of a configuration. -/
def Dev.lbWindows (d : Dev) (us : List Nat) : List LbWindow :=
  (ofClass 2 us).flatMap (fun u => ((upTo 2).filter (fun a => d.aguMode (unitWhere u) a == 5)).map (fun a =>
    ⟨u, d.fget (BLK_MU_AGU_LB_PORT (unitWhere u) a), d.fget (BLK_MU_AGU_LB_LAG (unitWhere u) a), d.fget (BLK_MU_AGU_LB_COUNT (unitWhere u) a) + 1⟩))
/-- R210, LOOKBACK_RATE: the first window that is one too many, is too long, or takes the sum past its limit. -/
def checkRate (period : Nat) (ws : List LbWindow) : Option LoadErr :=
  ((ws.zipIdx).find? (fun e => decide (64 ≤ e.2) || decide (period < e.1.count) ||
    decide (3000 * period < ((ws.take (e.2 + 1)).map (fun w => 64 * w.count)).sum))).map (fun e => errUnit 0x14 e.1.unit)
/-- R204: the ring of one of N INPUT ports, in words, on a vat of so many. -/
def ringWords (vat n : Nat) : Nat := if n = 0 then 0 else vat / n
/-- R204: a port's depth in frames. -/
def ringDepth (vat n payload : Nat) : Nat := if payload = 0 then 0 else ringWords vat n / ceilDiv payload 64
/-- R210: (D_p − LAG) × P is less than 400 ns, which is 320 ticks. -/
def depthBad (period depth lag : Nat) : Bool := decide (depth * period < lag * period + 320)
/-- R210, LOOKBACK_DEPTH: a window's port has too shallow a ring; a port with no payload yet is left to ARM. -/
def checkDepth (im : Image) (vat : Nat) (payload : Nat → Nat) (ws : List LbWindow) : Option LoadErr :=
  let n := (im.ports.filter (fun p => p.role == roleInput)).length
  (ws.find? (fun w => payload w.port != 0 && depthBad im.period (ringDepth vat n (payload w.port)) w.lag)).map (fun w => errUnit 0x15 w.unit)
/-- R223, DQ_ON_PATH: a WAIT reply can reach an egress point. -/
def checkDq (d : Dev) (us : List Nat) : Option LoadErr :=
  firstUnit 0x16 (ofClass 2 us) (fun u => (upTo 2).any (fun a => d.aguMode (unitWhere u) a == 6 && d.reachesEgress [qnum (unitWhere u) 1 (10 + a)]))

/-! ## Ports and the schedule (R260, R309) -/

/-- R63, R64: the injection point of a port. -/
def injectionUnit (p : Nat) : Nat := unitId 8 (portBlock p) (portSource p - 20)
/-- PORT_ROLE: an injection window or a look-back window of a port that is not INPUT. -/
def checkRoles (im : Image) (ws : List LbWindow) : Option LoadErr :=
  let bad (p : Nat) : Bool := ((im.ports[p]?).map PortEntry.role).getD 0 != roleInput
  (((im.ports.zipIdx).find? (fun e => e.1.winCount != 0 && bad e.2)).map (fun e => errUnit 0x17 (injectionUnit e.2))).orElse (fun _ =>
    (ws.find? (fun w => bad w.port)).map (fun w => errUnit 0x17 w.unit))
/-- PORT_ROLE: a mask source named outside a west-edge block. -/
def checkMask (d : Dev) (qs : List Nat) : Option LoadErr :=
  (qs.find? (fun q => q / 256 % 4 == 2 && d.fget (BLK_SW_SRC (q / 1024) 2 (q % 256)) == 28 && q / 1024 % 16 != 0)).map (fun q => errUnit 0x17 (sinkUnit q))
/-- R309: an entry of the schedule is malformed. -/
def schedBad (e : List Nat) : Bool :=
  let ctrl := e.getD 4 0
  decide (128 ≤ e.getD 0 0) || e.getD 1 0 != 0 || bitsOf ctrl 6 2 != 0 || !bitAt ctrl 4 || bitsOf ctrl 16 16 != 0 ||
  !entryOk (bitsOf ctrl 8 4) (bitsOf ctrl 32 32) (e.getD 3 0) || decide (2 ^ 40 ≤ e.getD 3 0) || decide (2 ^ 47 ≤ e.getD 2 0)
/-- SCHEDULE (R309): a malformed entry, or an index that repeats; R282 has no place for its number. -/
def checkSched (l : List (List Nat)) : Option LoadErr :=
  ((l.zipIdx).find? (fun e => schedBad e.1 || (l.take e.2).any (fun x => x.getD 0 0 == e.1.getD 0 0))).map (fun _ => (0x18, 0, 0))

/-! ## Register targets (R119, R252) -/

/-- R252: a record names a register it may not, or sets a field that must be zero. -/
def recBad (r : RegRec) : Bool :=
  let v := r.value
  let t := (r.off - 0x2000) % 0x800
  let w := r.off % 0x1000
  if (r.sink?).isSome then false
  else if 0x1000 ≤ r.off ∧ r.off < 0x1100 then r.off % 0x40 != 0
  else if 0x2000 ≤ r.off ∧ r.off < 0xA000 then
    if t = 0x30 then v != bitsOf v 32 4 * 2 ^ 32
    else !(decide (t < 0x30) || (decide (0x80 ≤ t) && decide (t ≤ 0x100)) || decide (0x400 ≤ t))
  else if 0xC000 ≤ r.off ∧ r.off < 0xE000 then
    if 0x40 ≤ w ∧ w < 0x60 then bitsOf v 48 16 != 0
    else if 0x60 ≤ w ∧ w < 0x80 then bitsOf v 32 16 != 0 || bitsOf v 24 4 != 0
    else !(w == 0 || (decide (0x100 ≤ w) && decide (w < 0x300)) || decide (0x400 ≤ w))
  else !(decide (0xE008 ≤ r.off) && decide (r.off ≤ 0xE038))
/-- R252: a target stands twice in a list of records. -/
def targetTwice (rs : List RegRec) : Bool := !distinct (rs.map (fun r => r.block * 0x10000 + r.off))
/-- TARGET (R252): a figure whose records break the rule in one of its placements. -/
def checkTargets (im : Image) : Option LoadErr :=
  ((im.figures.zipIdx).find? (fun e => (upTo e.1.placements).any (fun k => (e.1.records k).any recBad || targetTwice (e.1.records k)))).map
    (fun e => errIndex 0x1B e.1.id)
/-- R119: an SU in a way that its mode or network does not allow. -/
def Dev.suBad (d : Dev) (u : Nat) : Bool :=
  let b := unitWhere u
  let i := unitIndex u
  let ins := d.suInputs b i
  let outs := d.suOutputs b i
  let net := d.suNet b i
  d.flag (BLK_SW_VALID b 2 (28 + i)) != ins.contains (suCondQ b i) ||
  (upTo 2).any (fun j =>
    (d.flag (BLK_SW_VALID b net (suIn net i j)) != ins.contains (d.suQ b i j)) || d.flag (BLK_SW_VALID b (1 - net) (suIn (1 - net) i j)) ||
    (!outs.contains j && d.feeds b net (suOut net i j) != []) || d.feeds b (1 - net) (suOut (1 - net) i j) != [])
/-- TARGET (R119). -/
def checkSus (d : Dev) (rs : List RegRec) : Option LoadErr :=
  firstUnit 0x1B ((blocksOf rs).flatMap (fun b => (upTo 4).map (unitId 3 b))) d.suBad

/-! ## Initiation intervals (R263) -/

/-- R109: the turns of an instruction word. -/
def wordTurns (w : Nat) : Nat := if [0x02, 0x03, 0x12, 0x13, 0x25, 0x26, 0x27].contains (bitsOf w 22 6) then 2 else 1
/-- R115, R263: the interval of a tile. -/
def Dev.tileInterval (d : Dev) (u : Nat) : Nat :=
  let b := unitWhere u
  let i := unitIndex u
  let m := (((upTo 4).filter (fun f => bitAt (d.fget (BLK_TILE_CFG_DESC_VALID b i)) f)).map (fun f => d.fget (BLK_TILE_FIRE_MAX_INSTR b i f))).foldl max 0
  2 + m * ((d.tileImem u).map wordTurns).foldl max 1
/-- R154: from stage 3's start until a LOOP row is available. -/
def VuStep.loopTurns (s : VuStep) : Nat := 3 + if s.fixed then 2 else 8
/-- The number of accumulations a step ends. -/
def VuStep.ended (s : VuStep) : Nat := if s.endAcc = 0 then 0 else if s.endAcc = 1 then s.repeats + 1 else 1
/-- R155: the busy turns of the three stages over a cycle. -/
def vuBusyTurns (l : List VuStep) : List Nat :=
  [(l.map (fun s => (s.repeats + 1) * s.rowTurns + s.ended * s.endTurns)).sum, (l.map (fun s => s.ended * s.midTurns)).sum,
   (l.map (fun s => s.ended * s.outTurns)).sum]
/-- R155: when stages 0 and 1, stage 2 and stage 3 are free, and when the LOOP row is available. -/
structure VuTimes where
  first : Nat := 0
  mid : Nat := 0
  out : Nat := 0
  loop : Nat := 0
/-- R155: one repetition of a step passes through the stages; a stage passes an accumulation on when the next is free. -/
def VuTimes.repeat1 (t : VuTimes) (s : VuStep) (r : Nat) : VuTimes :=
  let at0 := (if s.rowIn = 2 then max t.first t.loop else t.first) + s.rowTurns
  let t := if s.rowIn = 1 then { t with loop := 0 } else t
  if s.ends r then
    let mid := max (at0 + s.endTurns) t.mid
    let out := max (mid + s.midTurns) t.out
    { first := mid, mid := out, out := out + s.outTurns, loop := if s.outFmt = 5 then out + s.loopTurns else t.loop }
  else { t with first := at0 }
/-- R155: one cycle of a program. -/
def VuTimes.cycle (t : VuTimes) (l : List VuStep) : VuTimes :=
  l.foldl (fun t s => (upTo (s.repeats + 1)).foldl (fun t r => t.repeat1 s r) t) t
/-- R155: the spacing of successive cycles, after enough of them for it to settle. -/
def vuSpacing (l : List VuStep) : Nat :=
  let t := (upTo 8).foldl (fun t _ => t.cycle l) ({} : VuTimes)
  (t.cycle l).first - t.first
/-- R155, R263: the interval of a VU. -/
def Dev.vuInterval (d : Dev) (u : Nat) : Nat :=
  let l := d.vuProgram (vuWin (unitWhere u) (unitIndex u))
  if l.any (fun s => s.outFmt == 5) then vuSpacing l else (vuBusyTurns l).foldl max 0
/-- R193, R263: the accesses of one event of an AGU. -/
def Dev.aguAccesses (d : Dev) (b a : Nat) : Nat :=
  let m := d.aguMode b a
  if m = 1 ∨ m = 2 then d.aguCount b a else if m = 3 then d.aguCount b a + 1 else if m = 4 then 2 else 0
/-- R197, R263: the interval of an MU with the events its entry states; 0 events is read as 1. -/
def Dev.muInterval (d : Dev) (u events : Nat) : Nat :=
  2 * ((upTo 2).map (fun a => max 1 (bitsOf events (8 * a) 8) * d.aguAccesses (unitWhere u) a)).sum
/-- R63, R64: the injection points that the image uses, each with the tokens of its window. -/
def Image.injections (im : Image) : List (Nat × Nat) :=
  ((im.ports.zipIdx).filter (fun e => e.1.winCount != 0)).map (fun e => (injectionUnit e.2, e.1.winCount))
/-- R263: the interval of a unit with the events its entry states; an injection point takes a turn for each token. -/
def Image.interval (im : Image) (d : Dev) (u events : Nat) : Nat :=
  match unitClass u with
  | 0 => d.tileInterval u
  | 1 => d.vuInterval u
  | 2 => d.muInterval u events
  | 3 => 2
  | _ => ((im.injections.find? (fun e => e.1 == u)).map Prod.snd).getD 0
/-- R263: the units that must have an entry. -/
def Image.timed (im : Image) : List Nat := recUnits (im.recs im.base) ++ im.injections.map Prod.fst
/-- R263, INTERVAL. -/
def checkIntervals (im : Image) (t : Nat) (d : Dev) : Option LoadErr :=
  ((im.intervals.find? (fun e => !im.timed.contains e.unit || decide (im.period * 1250 < e.turns * t) ||
      decide (e.turns < im.interval d e.unit e.events))).map (fun e => errUnit 0x1C e.unit)).orElse (fun _ =>
    firstUnit 0x1C im.timed (fun u => (im.intervals.filter (fun e => e.unit == u)).length != 1))

end Sys2Proof.Machine
end

