-- ==== Sys2Proof/Machine/Bank.lean ====
section
/-!
DEFINITION. Weight banks (R256 to R258): the layout of a bank, the library index, and the install of a bank into the weight
stores that serve its targets.
-/

namespace Sys2Proof.Machine

open Sys2Proof

/-! ## A bank (R256) -/

/-- R256: a target of a bank. -/
structure BankTarget where
  block : Nat
  vu : Nat
  half : Nat
  first : Nat
  count : Nat
  deriving DecidableEq, Repr, Inhabited

/-- R256: a target's bytes; its words lie within its half. -/
def readTarget (c : List Nat) : Option BankTarget :=
  given (decide (leAt c 0 2 < 256) && decide (leAt c 2 1 < 2) && decide (leAt c 3 1 < 2) && decide (leAt c 4 1 < 128) &&
      decide (1 ≤ leAt c 5 1) && decide (leAt c 4 1 + leAt c 5 1 ≤ 128) && zeroAt c 6 2)
    ⟨leAt c 0 2, leAt c 2 1, leAt c 3 1, leAt c 4 1, leAt c 5 1⟩
/-- R256: the number of targets of a bank. -/
def Dev.bankCount (d : Dev) (a : Nat) : Nat := d.leMem (a + 0x18) 2
/-- R256: LENGTH of a bank. -/
def Dev.bankLength (d : Dev) (a : Nat) : Nat := d.leMem (a + 0x10) 8
/-- R256: the targets of a bank; none where one breaks its limits. -/
def Dev.bankTargets (d : Dev) (a : Nat) : Option (List BankTarget) := readFixed 8 readTarget (d.bytes (a + 64) (8 * d.bankCount a))
/-- The words of a list of targets. -/
def targetWords (l : List BankTarget) : Nat := (l.map BankTarget.count).sum
/-- R256: the header, the targets and the length are well formed. -/
def Dev.bankOk (d : Dev) (a : Nat) : Bool :=
  (d.bytes a 8 == [0x57, 0x42, 0x4E, 0x4B, 0, 0, 0, 0]) && zeroAt (d.bytes (a + 0x1A) 38) 0 38 &&
  (match d.bankTargets a with
   | none => false
   | some l => d.bankLength a == 64 + 8 * d.bankCount a + 256 * targetWords l)
/-- R256: the digest of a bank as it stands in memory. -/
def Dev.bankDigest (d : Dev) (a len : Nat) : Nat := Config.sha3 (d.bytes a len)
/-- R256: its layout digest: TARGETS and the target list. -/
def Dev.layoutDigest (d : Dev) (a : Nat) : Nat := Config.sha3 (d.bytes (a + 0x18) 2 ++ d.bytes (a + 64) (8 * d.bankCount a))

/-! ## The library (R257) -/

/-- R257: the entry of a bank in the library index. -/
def Dev.bank? (d : Dev) (id : Nat) : Option BankEntry := d.rce.library.find? (fun e => e.bank == id)
/-- R257: a registered bank fits a slot. -/
def Dev.bankFits (d : Dev) (id layout : Nat) : Bool :=
  match d.bank? id with
  | some e => e.layout == layout
  | none => false

/-! ## The range of biases (R143) -/

/-- R142, R150: the bias words that a program starts accumulations from. -/
def biasWords (l : List VuStep) : List Nat :=
  (l.filter (fun s => s.accInit == 2)).flatMap (fun s =>
    (upTo (if s.endAcc = 1 then s.repeats + 1 else 1)).map (fun r => s.bAddr + if s.wAdv then r else 0))
/-- R256: the addresses of a word of half 0 of a VU in a bank's data, which begins at `a`. -/
def wordsAt (b v w : Nat) : List BankTarget → Nat → List Nat
  | [], _ => []
  | t :: l, a =>
    (if t.block = b ∧ t.vu = v ∧ t.half = 0 ∧ t.first ≤ w ∧ w < t.first + t.count then [a + 256 * (w - t.first)] else []) ++
      wordsAt b v w l (a + 256 * t.count)
/-- R143: a word at an address holds a bias outside −2³⁰ to 2³⁰. -/
def Dev.biasOut (d : Dev) (a : Nat) : Bool :=
  (upTo 64).any (fun o => decide (sx 32 (d.leMem (a + 4 * o) 4) < -(2 ^ 30)) || decide (2 ^ 30 < sx 32 (d.leMem (a + 4 * o) 4)))
/-- R143, FANIN_LIMIT: the default bank of a slot gives a VU, named as in placement 0, a bias out of range. -/
def Dev.checkBias (d : Dev) (im : Image) (t : Dev) : Option LoadErr :=
  let banks := im.slots.filterMap (fun e => d.bank? e.bank)
  firstUnit 0x11 (ofClass 1 (recUnits (im.recs im.base))) (fun u =>
    (biasWords (t.vuProgram (vuWin (unitWhere u) (unitIndex u)))).any (fun w => banks.any (fun e =>
      (wordsAt (unitWhere u) (unitIndex u) w ((d.bankTargets e.addr).getD []) (e.addr + 64 + 8 * d.bankCount e.addr)).any d.biasOut)))

/-! ## Installing (R256 to R258) -/

/-- R84, R256: where a block of placement 0 and a VU of it lie now: the block in the figure's placement, and the physical
unit that serves the VU there. -/
def Dev.targetUnit (d : Dev) (im : Image) (b v : Nat) : Nat :=
  d.physVu (im.movedBlock d.rce.placed b (fun r => r.unit? == some (unitId 1 b v))) v
/-- R142: the device address of the first word of a target in a VU's weight store. -/
def targetAddr (u : Nat) (t : BankTarget) : Nat := vuStore u + 0x8000 * t.half + 0x100 * t.first
/-- R258: a weight store's words written are mended; the parity locations of a weight store are its words, 128 a half. -/
def Dev.putWords (d : Dev) (u : Nat) (t : BankTarget) (bs : List Nat) : Dev :=
  (d.poke (targetAddr u t) bs).mend u ((upTo t.count).map (fun k => 128 * t.half + t.first + k))
/-- R256, R258: the targets of a bank written in order, the data of each behind that of the one before. -/
def putTargets (im : Image) : List BankTarget → Nat → Dev → Dev
  | [], _, d => d
  | t :: l, a, d => putTargets im l (a + 256 * t.count) (d.putWords (d.targetUnit im t.block t.vu) t (d.bytes a (256 * t.count)))
/-- The weight stores that a bank's targets name. -/
def Dev.targetStores (d : Dev) (im : Image) (l : List BankTarget) : List Nat := (l.map (fun t => d.targetUnit im t.block t.vu)).eraseDups
/-- R257, R258: a bank is installed: its words are written; where its digest has changed since it was registered the
install fails and the stores hold nothing that may be used. -/
def Dev.installBank (d : Dev) (im : Image) (e : BankEntry) : Dev × Bool :=
  let l := (d.bankTargets e.addr).getD []
  let stores := d.targetStores im l
  let ok := d.bankDigest e.addr e.length == e.digest
  let w := putTargets im l (e.addr + 64 + 8 * d.bankCount e.addr) d
  let kept := w.fab.unset.filter (fun u => !stores.contains u)
  ({ w with fab := { w.fab with unset := if ok then kept else kept ++ stores } }, ok)

end Sys2Proof.Machine
end

