-- ==== Sys2Proof/Machine/Place.lean ====
section
/-!
DEFINITION. Placing figures (R261, R262, R572): the units and spares a placement takes, the arrival check, the choice of
placements, and the loading of records into the units that serve them.
-/

namespace Sys2Proof.Machine

open Sys2Proof

/-! ## Characterisation (R6, R73, R262) -/

/-- R6, R73: the table of stepping B0 at a point: between 3.0 and 1.5 G turns a second, in ps. -/
def turnB0 (grade mv : Nat) : Nat := 334 + Config.turnFree 2 grade mv % 333
/-- R6, R262, R283: the worst-case turn time of a stepping and grade at a set point, in ps: A1 is slower than B0 at every
point; no point outside 600 to 850 mV, or between the multiples of 10. -/
def turnPs (stepping grade mv : Nat) : Nat :=
  if mv < 600 ∨ 850 < mv ∨ mv % 10 ≠ 0 then 0
  else if stepping = 1 then turnB0 grade mv + 1 + Config.turnFree 1 grade mv % (667 - turnB0 grade mv)
  else turnB0 grade mv
/-- R262: the worst-case turn time of this device. -/
def Dev.turnAt (d : Dev) (mv : Nat) : Nat := turnPs (d.fget GLB_ID_STEPPING) (d.fget GLB_ID_GRADE) mv

/-! ## Plans (R261) -/

/-- The units of a placement, each with the physical unit that serves it. -/
abbrev Plan := List (Nat × Nat)
/-- What figures already placed use: physical units, sinks, and queue slots by 4 × block + network. -/
structure Taken where
  units : List Nat := []
  sinks : List Nat := []
  pools : PMap Nat := []

/-- R83, R84, R261: the sound unit that serves a unit of a placement: itself, or a free spare where it has failed. -/
def Dev.serve (d : Dev) (taken : List Nat) (u : Nat) : Option Nat :=
  let free (p : Nat) : Bool := !d.fab.failed.contains p && !taken.contains p
  let b := unitWhere u
  if !d.fab.failed.contains u then given (!taken.contains u) u
  else if unitClass u = 0 then given (free (tileId b 16)) (tileId b 16)
  else if unitClass u = 1 then [unitId 7 (domainOf b) 0, unitId 7 (domainOf b) 1].find? free
  else none
/-- R261: a plan for the units of a list, in order, or the unit that cannot be served. -/
def Dev.serveAll (d : Dev) : List Nat → List Nat → Nat ⊕ Plan
  | _, [] => .inr []
  | taken, u :: l =>
    match d.serve taken u with
    | none => .inl u
    | some p =>
      match d.serveAll (p :: taken) l with
      | .inl x => .inl x
      | .inr r => .inr ((u, p) :: r)
/-- R89, R261: the block's domain is powered and its memories have marched. -/
def Dev.blockUp (d : Dev) (b : Nat) : Bool := bitAt (d.fget FAB_STATUS_DOMAIN_UP) (domainOf b)
/-- R79: the slots that records take, by block and network. -/
def poolsOf (rs : List RegRec) : PMap Nat :=
  (recSinks rs).foldl (fun m q => padj (4 * (q / 1024) + q / 256 % 4) 0
    (fun n => n + (trialOf rs).fget (BLK_SW_DEPTH (q / 1024) (q / 256 % 4) (q % 256))) m) []
/-- R79, R261: slots that figures already placed leave too few of. -/
def poolsClash (tk : Taken) (rs : List RegRec) : Bool :=
  (poolsOf rs).any (fun e => pgetD tk.pools e.1 0 != 0 && decide (poolSize (e.1 % 4) < pgetD tk.pools e.1 0 + e.2))
/-- R261: the first two conditions on a placement's records: a plan, or the unit at fault (0 for queue slots). -/
def Dev.plan (d : Dev) (tk : Taken) (rs : List RegRec) : Nat ⊕ Plan :=
  let qs := recSinks rs
  let us := recUnits rs
  match (us ++ qs.map sinkUnit).find? (fun u => !d.blockUp (unitWhere u)) with
  | some u => .inl u
  | none =>
    match qs.find? (fun q => d.fab.failed.contains (sinkUnit q) || tk.sinks.contains q) with
    | some q => .inl (sinkUnit q)
    | none => if poolsClash tk rs then .inl 0 else d.serveAll tk.units us
/-- What is in use once a placement has been taken. -/
def Taken.add (tk : Taken) (rs : List RegRec) (p : Plan) : Taken :=
  { units := tk.units ++ p.map Prod.snd, sinks := tk.sinks ++ recSinks rs,
    pools := (poolsOf rs).foldl (fun m e => padj e.1 0 (fun n => n + e.2) m) tk.pools }

/-! ## Arrival (R254, R261, R262) -/

/-- R261: a figure's placement serves a VU, named as in placement 0, with a spare. -/
def Figure.spared (f : Figure) (k : Nat) (p : Plan) (b v : Nat) : Bool :=
  f.config.any (fun r => r.unit? == some (unitId 1 b v)) &&
    p.any (fun e => e.1 == unitId 1 (f.block k b) v && unitClass e.2 == 7)
/-- R254: the update that a figure's placement gives a path. -/
def Figure.update (f : Figure) (k path : Nat) : Option Nat :=
  if k = 0 then none else ((f.alts[k - 1]?).bind (fun a => (a.paths.find? (fun e => e.1 == path)).map Prod.snd))
/-- R254, R261: the turns of a path in a combination, its VUs on spares counted; figures without a plan use their own
units. -/
def Image.turns (im : Image) (choice : List Nat) (plans : List Plan) (p : PathEntry) : Nat :=
  let moved := (im.figures.zip choice).map (fun e => match e.1.update e.2 p.path with
    | none => (0 : Int)
    | some t => (t : Int) - p.turns)
  let spares := ((im.figures.zip choice).zip plans).map (fun e => 8 * (p.vus.filter (fun x => e.1.1.spared e.1.2 e.2 x.1 x.2)).length)
  ((p.turns : Int) + moved.sum).toNat + spares.sum
/-- R208: LB_TIME(j) of the window a path starts from, in ticks. -/
def Image.lbTime (im : Image) (choice : List Nat) (p : PathEntry) : Nat :=
  let b := p.ref / 2
  let t := trialOf (im.recs choice)
  let m := im.movedBlock choice b (fun r => r.unit? == some (unitId 2 b 0))
  18 + p.lastToken + if t.fget (BLK_MU_AGU_LB_LAG m (p.ref % 2)) = 0 then t.fget (BLK_MU_AGU_LB_OFFSET m (p.ref % 2)) else 0
/-- R262: the predicted arrival of a path, in ps. -/
def Image.predicted (im : Image) (t : Nat) (choice : List Nat) (plans : List Plan) (p : PathEntry) : Nat :=
  if p.start = 0 then im.turns choice plans p * t + 27500
  else im.lbTime choice p * 1250 + im.turns choice plans p * t + 20000
/-- R262: a stream's limit, in ps. -/
def Image.limit (im : Image) (margin s : Nat) : Nat := im.latency.getD s 0 * 1250 * (100 - margin) / 100
/-- R261: a path passes through a figure's placement. -/
def PathEntry.through (p : PathEntry) (f : Figure) (k : Nat) : Bool :=
  p.vus.any (fun x => (f.records k).any (fun r => r.block == x.1)) || f.alts.any (fun a => a.paths.any (fun e => e.1 == p.path))
/-- R261: a path is checked with a figure: it passes through it, or through none. -/
def Image.checkedWith (im : Image) (choice : List Nat) (p : PathEntry) (f : Figure) (k : Nat) : Bool :=
  p.through f k || !(im.figures.zip choice).any (fun e => p.through e.1 e.2)
/-- R261, R262: the first path through a figure that fails. -/
def Image.lateAt (im : Image) (t margin : Nat) (choice : List Nat) (plans : List Plan) (f : Figure) (k : Nat) : Option Nat :=
  (im.paths.find? (fun p => im.checkedWith choice p f k && decide (im.limit margin p.stream < im.predicted t choice plans p))).map PathEntry.path
/-- R285: the largest predicted arrival of a stream and its limit. -/
def Image.arrival (im : Image) (t margin : Nat) (choice : List Nat) (plans : List Plan) (s : Nat) : Nat × Nat :=
  let l := (im.paths.filter (fun p => p.stream == s)).map (im.predicted t choice plans)
  if l = [] then (0, 0) else (l.foldl max 0, im.limit margin s)
/-- R285: RCE_ARRIVAL of every stream. -/
def Dev.showArrival (d : Dev) (im : Image) (choice : List Nat) (plans : List Plan) : Dev :=
  d.each (upTo 8) (fun d s =>
    let a := im.arrival (d.turnAt im.vfloor) (d.fget RCE_LOAD_CFG_MARGIN_PCT) choice plans s
    d.fsets [(RCE_ARRIVAL_PREDICTED_PS s, a.1), (RCE_ARRIVAL_LIMIT_PS s, a.2)])

/-! ## The choice of placements (R261) -/

/-- How far a choice has come: the placement of every figure (those still to come in the one they stand in), the plans so
far, what is taken, and the first path that no placement of its figure could meet, with that figure's place. -/
structure Placing where
  choice : List Nat
  plans : List Plan
  taken : Taken
  late : Option (Nat × Nat) := none

/-- What a figure's search among its placements gives: a placement and plan that meet all conditions; else the first that
meets the first two with the path it is late on; else the unit at fault on the first. -/
inductive Found where
  | good (k : Nat) (p : Plan)
  | late (k : Nat) (p : Plan) (path : Nat)
  | fault (u : Nat)

/-- R261: the placements of a figure tried in order. `fits` is what a combination must meet besides. -/
def Dev.tryPlaces (d : Dev) (im : Image) (fits : List Nat → Bool) (x : Placing) (i : Nat) (f : Figure) : List Nat → Found → Found
  | [], best => best
  | k :: ks, best =>
    let choice := x.choice.set i k
    match d.plan x.taken (f.records k) with
    | .inl u => d.tryPlaces im fits x i f ks (match best with
        | .fault 0 => .fault u
        | b => b)
    | .inr p =>
      if !fits choice then d.tryPlaces im fits x i f ks best
      else
        match im.lateAt (d.turnAt im.vfloor) (d.fget RCE_LOAD_CFG_MARGIN_PCT) choice (x.plans.set i p) f k with
        | none => .good k p
        | some path => d.tryPlaces im fits x i f ks (match best with
            | .late k' p' q => .late k' p' q
            | _ => .late k p path)
/-- R64, R83, R84: the physical unit that serves a unit in the placements chosen, or a unit that none of them names. -/
def Placing.physical (x : Placing) (u : Nat) : Nat := ((x.plans.flatten.find? (fun e => e.1 == u)).map Prod.snd).getD u
/-- A figure takes a placement. -/
def Placing.take (x : Placing) (i : Nat) (f : Figure) (k : Nat) (p : Plan) : Placing :=
  { x with choice := x.choice.set i k, plans := x.plans.set i p, taken := x.taken.add (f.records k) p }
/-- R261: figures placed in order, each with the placements it may try; the figure and unit at fault where one has none. -/
def Dev.placeAll (d : Dev) (im : Image) (fits : List Nat → Bool) : List (Nat × Figure × List Nat) → Placing → LoadErr ⊕ Placing
  | [], x => .inr x
  | (i, f, ks) :: l, x =>
    match d.tryPlaces im fits x i f ks (.fault 0) with
    | .good k p => d.placeAll im fits l (x.take i f k p)
    | .late k p path => d.placeAll im fits l { x.take i f k p with late := x.late.orElse (fun _ => some (path, i)) }
    | .fault u => .inl (7, u, f.id)
/-- R4, R262: the first path of an image without a figure that fails; R261 checks paths with figures only, so that this check
is the model's (DESIGN CHOICE, log entry 141). -/
def Dev.lateAlone (d : Dev) (im : Image) : Option (Nat × Nat) :=
  if im.figures = [] then
    (im.paths.find? (fun p => decide (im.limit (d.fget RCE_LOAD_CFG_MARGIN_PCT) p.stream < im.predicted (d.turnAt im.vfloor) [] [] p))).map
      (fun p => (p.path, 0))
  else none
/-- R261: every figure placed, each trying its placements in ascending order. -/
def Dev.place (d : Dev) (im : Image) : LoadErr ⊕ Placing :=
  d.placeAll im (fun _ => true) ((im.figures.zipIdx).map (fun e => (e.2, e.1, upTo e.1.placements)))
    { choice := im.base, plans := im.figures.map (fun _ => []), taken := {}, late := d.lateAlone im }

/-! ## The checks of a combination (R572) -/

/-- A check made on the first of several combinations that fails it. -/
def overCombos (cs : List (List Nat)) (f : List Nat → Option LoadErr) : Option LoadErr := cs.findSome? f
/-- R572: the checks that depend on more than one figure, on one combination. -/
def Image.comboErr (im : Image) (t : Nat) (choice : List Nat) : Option LoadErr :=
  let rs := im.recs choice
  let d := trialOf rs
  let qs := recSinks rs
  let us := recUnits rs
  [checkSources d qs, checkForks d qs, checkDomains im.domains rs, checkPools d rs, checkBalance im t choice d, checkSteer im choice d,
    firstUnit 0x10 (ofClass 1 us) d.biasBad, checkFanin d us, checkOverlap d us, checkRate im.period (d.lbWindows us), checkDq d us].findSome? id

/-! ## Records into units (R83, R84, R252) -/

/-- R252: the defined bits of a register that a record may name. -/
def recMask (off : Nat) : Nat :=
  let t := (off - 0x2000) % 0x800
  let w := off % 0x1000
  if off < 0x1000 then 0x3FFF
  else if off < 0x1100 then 0xFF
  else if off < 0xA000 then
    if t = 0 then 0xFFC else if t < 0x28 then 0x7F7F1F else if t = 0x30 then 0xF00000000
    else if 0x80 ≤ t ∧ t < 0x100 then 0xFFFFFFFF else 2 ^ 64 - 1
  else if off < 0xE000 then
    if w = 0 then 0xFC else if 0x40 ≤ w ∧ w < 0x60 then 0xFFFFFFFFFFFF else if 0x60 ≤ w ∧ w < 0x80 then 0xF3F3F
    else if 0x400 ≤ w ∧ w < 0x800 then 0x003FFFFF003FFFFF else 2 ^ 64 - 1
  else if off = 0xE038 then 0xFFFFFFF
  else if (off - 0xE008) % 0x18 = 0 then 0x3FFFFFFFFFF003F
  else if (off - 0xE008) % 0x18 = 8 then 0x1FFFF0001FFFF
  else 0xFFFFFFFFBF
/-- The physical unit that a plan gives a unit. -/
def Plan.unit (p : Plan) (u : Nat) : Nat := ((p.find? (fun e => e.1 == u)).map Prod.snd).getD u
/-- R83, R84: the BAR0 offset of a record's register in the physical unit that serves it. -/
def RegRec.place (r : RegRec) (p : Plan) : Nat :=
  match r.unit? with
  | none => blk r.block + r.off
  | some u =>
    let x := p.unit u
    if unitClass u = 0 then blk r.block + 0x2000 + 0x800 * unitIndex x + (r.off - 0x2000) % 0x800
    else if unitClass u = 1 then vuWindow x + r.off % 0x1000
    else blk r.block + r.off
/-- R252: a record is written: its own fields, and nothing else of the register. -/
def Dev.putRec (d : Dev) (p : Plan) (r : RegRec) : Dev :=
  let off := r.place p
  let m := recMask r.off
  let old := (d.rget off).toNat
  d.rset off (BitVec.ofNat 64 ((old ^^^ (old &&& m)) ||| (r.value &&& m)))
/-- A unit shows LOADED (R125, R162, R228). -/
def Dev.showLoaded (d : Dev) (u : Nat) (v : Bool) : Dev :=
  match unitClass u with
  | 0 => d.fset (BLK_TILE_CFG_LOADED (unitWhere u) (unitIndex u)) (b2n v)
  | 1 => d.fset (BLK_VU_CFG_LOADED (vuWindow u)) (b2n v)
  | 7 => d.fset (BLK_VU_CFG_LOADED (vuWindow u)) (b2n v)
  | 2 => d.fset (BLK_MU_STATUS_LOADED (unitWhere u)) (b2n v)
  | _ => d
/-- R83, R84: a unit of a plan that a spare serves is connected to it. -/
def Dev.connect (d : Dev) (e : Nat × Nat) : Dev :=
  let b := unitWhere e.1
  if e.1 = e.2 then d
  else if unitClass e.1 = 0 then d.fsets [(BLK_TILE_SPARE_ENABLE b, 1), (BLK_TILE_SPARE_TARGET b, unitIndex e.1)]
  else d.fset (if unitIndex e.1 = 0 then BLK_VU_MAP_VU0_SEL b else BLK_VU_MAP_VU1_SEL b) (unitIndex e.2 + 1)
/-- A figure's records are loaded into the units of its plan. -/
def Dev.putFigure (d : Dev) (rs : List RegRec) (p : Plan) : Dev :=
  let d := d.each p Dev.connect
  let d := d.each rs (fun d r => d.putRec p r)
  d.each p (fun d e => (if unitClass e.2 = 0 then d.setBad e.2 [] else d).showLoaded e.2 true)

/-- R96: BLK_POOL shows the slots that the loaded sinks use. -/
def Dev.showPools (d : Dev) : Dev :=
  d.each (upTo 256) (fun d b => d.fsets ((upTo 3).map (fun net =>
    ((if net = 0 then BLK_POOL_SCALAR_USED b else if net = 1 then BLK_POOL_VECTOR_USED b else BLK_POOL_CONTROL_USED b),
      ((upTo (sinkCount net)).map (fun i => if d.flag (BLK_SW_VALID b net i) then d.fget (BLK_SW_DEPTH b net i) else 0)).sum))))
/-- R92: the spares of every domain. -/
def Dev.showSpares (d : Dev) : Dev := d.each (upTo 16) Dev.showSpare
/-- R505: the streams with a path through a domain: a sink in it leads to the stream's egress point. -/
def Dev.streamsThrough (d : Dev) (qs : List Nat) (k : Nat) : Nat :=
  let ends := ((qs.filter (fun q => domainOf (q / 1024) == k)).flatMap (fun q => closure (d.onward (fun x => unitSources (fedUnit x))) 0x20000 [q] [])).eraseDups
  ((upTo 8).map (fun s => if d.flag (RIND_STREAM_CFG_ENABLED s) && ends.contains (qnum (16 * d.fget (RIND_STREAM_CFG_EGRESS_POINT s) + 15) 1 22) then 2 ^ s else 0)).sum
/-- R505: AVC_STREAMS of every fabric domain, from a combination's records. -/
def Dev.showStreams (d : Dev) (rs : List RegRec) : Dev :=
  let t := (trialOf rs).each (upTo 8) (fun t s => t.rset (RIND_STREAM_CFG s) (d.rget (RIND_STREAM_CFG s)))
  d.each (upTo 16) (fun d k => d.fset (PWR_DOMAIN_STAT_AVC_STREAMS k) (t.streamsThrough (recSinks rs) k))

end Sys2Proof.Machine
end

