-- ==== Sys2Proof/Machine/Loader.lean ====
section
/-!
DEFINITION. The loader (R259, R260): the checks in ascending code order, the configuration a successful load leaves, and
UNLOAD. What two or more rules of R260 share is checked once, over the combinations of placements that R572 names.
-/

namespace Sys2Proof.Machine

open Sys2Proof

/-! ## Signatures (R544, R556) -/

/-- R544: both signatures verify over the same message. -/
def bothVerify (edPk mlPk msg edSig mlSig : List Nat) : Bool := Config.edVerify edPk msg edSig && Config.mlVerify mlPk msg mlSig
/-- Bytes of a byte string. -/
def cut (bs : List Nat) (pos n : Nat) : List Nat := (bs.drop pos).take n
/-- The keys are those of the enrolled owner. -/
def Dev.ownerKeys (d : Dev) (edPk mlPk : List Nat) : Bool :=
  d.owner.enrolled && Config.sha3 edPk == d.owner.edDigest && Config.sha3 mlPk == d.owner.mlDigest
/-- R556: the signature section is well formed: its place, length, magic, format and zero bytes. -/
def signatureFormed (bs : List Nat) (x : RawSec) : Bool :=
  let g := secBytes bs x
  x.off == signedLength bs && x.len == 5373 && (g.take 4 == [0x47, 0x53, 0x49, 0x47]) && leAt g 4 2 == 1 && zeroAt g 6 10
/-- R556: the owner's signature of an image whose digest is given. -/
def Dev.imageSigned (d : Dev) (bs : List Nat) (secs : List RawSec) (digest : Nat) : Bool :=
  match secs.find? (fun x => x.kind == 0x11) with
  | none => false
  | some x =>
    let g := secBytes bs x
    isSigned bs && signatureFormed bs x && d.ownerKeys (cut g 0x10 32) (cut g 0x30 1952) &&
      bothVerify (cut g 0x10 32) (cut g 0x30 1952) (sigMessage "EVX-T4 IMAGE" digest) (cut g 0x7D0 64) (cut g 0x810 3309)

/-! ## The checks (R260) -/

/-- R260: a declared stream's latency, egress point and path. -/
def Image.streamBad (im : Image) (s : Nat) : Bool :=
  let l := im.latency.getD s 0
  let e (t : Nat) : Nat := ((im.streamCfg[t]?).map StreamEntry.egress).getD 0
  decide (l < 80) || decide (4000 < l) || !im.paths.any (fun p => p.stream == s) ||
    (upTo s).any (fun t => bitAt im.streams t && e t == e s)
/-- R64: the egress point of a stream. -/
def Image.egressUnit (im : Image) (s : Nat) : Nat := egressId (((im.streamCfg[s]?).map StreamEntry.egress).getD 0)
/-- Codes 3 to 6 of R260. -/
def Image.headErr (im : Image) (index : Nat) : Option LoadErr :=
  if im.devIndex ≠ index ∨ im.devCount ≤ im.devIndex then some (3, 0, 0)
  else if im.period < 5 ∨ 8000 < im.period then some (4, 0, 0)
  else
    match (onesOf 8 im.streams).find? im.streamBad with
    | some s => some (errUnit 5 (im.egressUnit s))
    | none => if im.vfloor < 600 ∨ 850 < im.vfloor ∨ im.vfloor % 10 ≠ 0 then some (6, 0, 0) else none

/-- A check of a configuration's trial device, sinks and units, over combinations of placements. -/
def overViews (im : Image) (cs : List (List Nat)) (f : Dev → List Nat → List Nat → Option LoadErr) : Option LoadErr :=
  overCombos cs (fun c => let rs := im.recs c; f (trialOf rs) (recSinks rs) (recUnits rs))
/-- The records of every combination. -/
def overRecs (im : Image) (cs : List (List Nat)) (f : List RegRec → Option LoadErr) : Option LoadErr := overCombos cs (fun c => f (im.recs c))
/-- R102: ORDER_MODE over every placement of every figure. -/
def Image.orderErr (im : Image) : Option LoadErr :=
  im.figures.findSome? (fun f => (upTo f.placements).findSome? (fun k => checkOrder f.t2 (trialOf (f.records k)) (recUnits (f.records k))))
/-- R257: WEIGHT_BANK: a slot's default bank is not registered, or its layout digest differs. -/
def Dev.slotErr (d : Dev) (im : Image) : Option LoadErr :=
  (im.slots.find? (fun e => !d.bankFits e.bank e.layout)).map (fun _ => (0x1A, 0, 0))
/-- Codes 8 to 0x1C of R260, in order, over the combinations of R572; `mem` is MEMORY, found while the regions were made. -/
def Dev.bodyErr (d : Dev) (im : Image) (cs : List (List Nat)) (mem : Option LoadErr) : Option LoadErr :=
  let t := d.turnAt im.vfloor
  let base := trialOf (im.recs im.base)
  [overViews im cs (fun e qs _ => checkSources e qs), overViews im cs (fun e qs _ => checkForks e qs),
    overRecs im cs (checkDomains im.domains), overRecs im cs (fun rs => checkPools (trialOf rs) rs),
    overCombos cs (fun c => checkBalance im t c (trialOf (im.recs c))), checkJoins im base,
    overViews im cs (fun e _ us => checkTiles e us), im.orderErr,
    overCombos cs (fun c => checkSteer im c (trialOf (im.recs c))), checkSteered im base,
    overViews im cs (fun e _ us => checkVus e us), overViews im cs (fun e _ us => checkFanin e us), d.checkBias im base,
    overViews im cs (fun e _ us => checkMus e us), overViews im cs (fun e _ us => checkOverlap e us),
    overViews im cs (fun e _ us => checkRate im.period (e.lbWindows us)),
    overViews im cs (fun e _ us => checkDepth im d.vatWords (fun p => d.fget (PL_CFG_PAYLOAD_BYTES p)) (e.lbWindows us)),
    overViews im cs (fun e _ us => checkDq e us),
    overViews im cs (fun e _ us => checkRoles im (e.lbWindows us)), overViews im cs (fun e qs _ => checkMask e qs),
    checkSched im.schedule, mem, d.slotErr im, checkTargets im, overRecs im cs (fun rs => checkSus (trialOf rs) rs),
    checkIntervals im t base].findSome? id

/-- What the checks of a load give: the code, unit and index of the first that fails, or the image to load with the
placements chosen, its region entries and the device that holds its regions. -/
inductive Checked where
  | refused (e : LoadErr)
  | good (im : Image) (x : Placing) (regions : List Nat) (d : Dev)

/-- R255: the regions are made and the patches applied; MEMORY is kept for its own place. -/
def Dev.patched (d : Dev) (bs : List Nat) (p : Parsed) : List Nat × Option LoadErr × List Nat × Dev :=
  let a := allocAll p.image.regions 0 d
  let w := patchAll p.secs (a.1.map (fun k => k.map (fun k => a.2.2.fget (LPX_REGION_BASE_MIB k)))) p.patches 0 bs
  (w.1, (a.2.1.orElse (fun _ => w.2)).map (fun _ => (0x19, 0, 0)), a.1.filterMap id, a.2.2)
/-- R259, R260: the checks in ascending code order on an image whose layout and patches have been read. -/
def Dev.checkImage (d : Dev) (im : Image) (index : Nat) (mem : Option LoadErr) (regions : List Nat) : Checked :=
  match im.headErr index with
  | some e => .refused e
  | none =>
    match d.place im with
    | .inl e => .refused e
    | .inr x =>
      match (d.bodyErr im (im.combos ++ [x.choice]) mem).orElse (fun _ => x.late.map (fun e => errIndex 0x1D e.1)) with
      | some e => .refused (e.1, x.physical e.2.1, e.2.2)
      | none => .good im x regions d
/-- R255, R259, R260: an image's bytes checked. A refused load keeps no region: the device it leaves is the one before. -/
def Dev.loadCheck (d : Dev) (bs : List Nat) (index : Nat) : Checked :=
  match parseImage bs with
  | none => .refused (1, 0, 0)
  | some p =>
    let w := d.patched bs p
    match parseImage w.1 with
    | none => .refused (1, 0, 0)
    | some q =>
      if d.owner.requireSigned && !d.imageSigned bs p.secs p.image.digest then .refused (2, 0, 0)
      else w.2.2.2.checkImage { q.image with digest := p.image.digest, signed := d.owner.requireSigned } index w.2.1 w.2.2.1

/-! ## What LOAD and UNLOAD clear -/

/-- Every listed register keeps the bits of a mask and takes its reset value in the others. -/
def Dev.keepBits (d : Dev) (keep : Nat → Nat) : Dev :=
  { d with regs := d.regs.filterMap (fun e =>
      let k := BitVec.ofNat 64 (keep e.1)
      let v := (e.2 &&& k) ||| (regReset e.1 &&& ~~~k)
      if v = regReset e.1 then none else some (e.1, v)) }
/-- The block-window offset of a register of a block, or of a spare VU's window as that of VU 0; none elsewhere. -/
def fabOffset (off : Nat) : Option Nat :=
  if 0xC0000 ≤ off ∧ off < 0xE0000 then some (0xC000 + off % 0x1000)
  else if 0x1000000 ≤ off ∧ off < 0x2000000 then some (off % 0x10000)
  else none
/-- What a unit keeps when its configuration goes: its identity, failure, repairs and retention. -/
def markBits (w : Nat) : Nat :=
  if w = 0 then 2 ^ 64 - 1
  else if 0x2000 ≤ w ∧ w < 0xA800 then (if (w - 0x2000) % 0x800 = 0x30 then 2 else 0)
  else if 0xC000 ≤ w ∧ w < 0xE000 then (if w % 0x1000 = 8 then 4 else 0)
  else if w = 0xE000 then 0x3F12
  else 0
/-- The counters of a block's units. -/
def countBits (w : Nat) : Nat :=
  if 0x1000 ≤ w ∧ w < 0x1100 then (if w % 0x40 = 0 then 0 else 2 ^ 64 - 1)
  else if 0x2000 ≤ w ∧ w < 0xA800 then
    (let t := (w - 0x2000) % 0x800; if 0x38 ≤ t ∧ t < 0x50 then 2 ^ 64 - 1 else 0)
  else if 0xC000 ≤ w ∧ w < 0xE000 then
    (let v := w % 0x1000
     if (0x10 ≤ v ∧ v < 0x20) ∨ (0x80 ≤ v ∧ v < 0x100) then 2 ^ 64 - 1
     else if 0x40 ≤ v ∧ v < 0x60 then 0xFFFF000000000000
     else if 0x60 ≤ v ∧ v < 0x80 then 0xFFFF00000000 else 0)
  else if 0xE040 ≤ w then 2 ^ 64 - 1
  else 0
/-- UNLOAD: configuration and unit state go, counters stay. -/
def keepAtUnload (off : Nat) : Nat :=
  match fabOffset off with
  | some w => markBits w ||| countBits w
  | none => 2 ^ 64 - 1
/-- LOAD: what an image leaves goes, and with it the counters of the fabric (R125 to R134, R162, R228, R478) and of the
voltage controllers (R520). -/
def keepAtLoad (off : Nat) : Nat :=
  match fabOffset off with
  | some w => markBits w
  | none =>
    if 0x83100 ≤ off ∧ off < 0x83300 then 0
    else if PWR_AVC_STAT 0 ≤ off ∧ off < PWR_AVC_STAT 16 then 0xFFFF
    else 2 ^ 64 - 1

/-- R309: the image's schedule entries are removed. -/
def Dev.dropSched (d : Dev) : Dev := { d with tu := { d.tu with sched := d.tu.sched.filter (fun e => decide (128 ≤ e.1)) } }
/-- R309: the image's schedule entries are installed. -/
def Dev.putSched (d : Dev) (l : List (List Nat)) : Dev :=
  d.dropSched.each l (fun d e => d.setSch (e.getD 0 0) (entryOf (e.getD 2 0) (e.getD 3 0) (e.getD 4 0)))
/-- R502, R506, R519: the claimed domains and their floor. -/
def Dev.putClaims (d : Dev) (domains vfloor : Nat) : Dev :=
  (d.each (upTo 16) (fun d k => d.fsets [(PWR_DOMAIN_STAT_CLAIMED k, b2n (bitAt domains k)),
    (PWR_DOMAIN_STAT_FLOOR_MV k, if bitAt domains k then vfloor else 600)])).trimVolts

/-! ## A successful load (R259) -/

/-- R259: RIND_STREAM_CFG and RIND_STREAM_LAT of a stream; `HIST_SHIFT` is not carried. -/
def Dev.putStream (d : Dev) (im : Image) (s : Nat) : Dev :=
  let e := (im.streamCfg[s]?).getD default
  d.fsets [(RIND_STREAM_CFG_ENABLED s, b2n (bitAt im.streams s)), (RIND_STREAM_CFG_EGRESS_POINT s, e.egress),
    (RIND_STREAM_CFG_POLICY s, bitsOf e.flags 0 2), (RIND_STREAM_CFG_LATE_CAPTURE s, bitsOf e.flags 2 1),
    (RIND_STREAM_CFG_TO_CURD s, bitsOf e.flags 3 1), (RIND_STREAM_CFG_HORIZON_TICKS s, e.horizon),
    (RIND_STREAM_LAT_L_TICKS s, im.latency.getD s 0)]
/-- R52, R259, R376: a port's alignment delay and role. -/
def Dev.putPort (d : Dev) (e : PortEntry × Nat) : Dev :=
  d.fsets [(RIND_PORT_ALIGN_DELAY_TICKS e.2, min e.1.delay 1600), (PL_CFG_ROLE e.2, e.1.role)]
/-- R485: the egress points of the enabled streams. -/
def Dev.egressMask (d : Dev) : Nat := d.enabledStreams.foldl (fun m s => m ||| 2 ^ d.fget (RIND_STREAM_CFG_EGRESS_POINT s)) 0
/-- The registers outside the fabric that an image sets. -/
def Dev.putRind (d : Dev) (im : Image) : Dev :=
  let d := d.fset RIND_FRAME_PERIOD_PERIOD_TICKS im.period
  let d := (d.each (upTo 8) (fun d s => d.putStream im s)).each im.ports.zipIdx Dev.putPort
  d.fset FAB_FLUSH_STATUS_EGRESS_EXPECTED d.egressMask
/-- The fabric as an image in a placement configures it, with what the registers show of it. -/
def Dev.putFabric (d : Dev) (im : Image) (choice : List Nat) (plans : List Plan) : Dev :=
  let d := d.each ((im.figures.zip choice).zip plans) (fun d e => d.putFigure (e.1.1.records e.1.2) e.2)
  (((d.showPools).showSpares).showStreams (im.recs choice)).showArrival im choice plans
/-- R259: the device a successful load leaves, its regions made. -/
def Dev.loaded (d : Dev) (im : Image) (x : Placing) (regions : List Nat) : Dev :=
  let d := (d.keepBits keepAtLoad).putRind im
  let d := ((d.putFabric im x.choice x.plans).putSched im.schedule).putClaims im.domains im.vfloor
  let d := { d with rce := { d.rce with
    image := some im, placed := x.choice, regions := regions, installed := [], seeds := [], regDigest := 0 } }
  (d.fsets [(FAB_STATUS_CFG_LOCKED, 1), (RCE_STATUS_CAPACITY_LOST, 0)]).setRun stLoaded

/-! ## The tasks LOAD and UNLOAD -/

/-- R282: RCE_LOAD_RESULT. -/
def Dev.loadResult (d : Dev) (e : LoadErr) : Dev :=
  d.fsets [(RCE_LOAD_RESULT_CODE, e.1), (RCE_LOAD_RESULT_UNIT, e.2.1), (RCE_LOAD_RESULT_INDEX, e.2.2)]
/-- A task fails with a code of R260. -/
def Dev.failWith (d : Dev) (slot idx : Nat) (e : LoadErr) : Dev := (d.loadResult e).finish slot idx tsFailed e.1
/-- Bytes lie in LPDDR5X. -/
def inLpddr (a n : Nat) : Bool := decide (a + n ≤ lpSize)
/-- LOAD (R259, R276). -/
def load (slot idx : Nat) (d : Dev) : Dev :=
  let a := d.taskArg slot idx 0 8
  let n := d.taskArg slot idx 8 8
  if !d.taskBegins slot idx 1 then d
  else if d.runState ≠ stIdle then d.finish slot idx tsWrongState 0
  else if !inLpddr a n then d.finish slot idx tsBadArgument 0
  else
    match d.loadCheck (d.bytes a n) (d.taskArg slot idx 0x10 2) with
    | .refused e => d.failWith slot idx e
    | .good im x regions e => ((e.loaded im x regions).loadResult (0, 0, 0)).finish slot idx tsDone 0
/-- LOAD: the loader takes the image of the task at this place. -/
def execLoad (slot idx : Nat) (s : State) : Host.Outcome State Fault Refusal := s.onDev (Wf.load slot idx) (load slot idx)

/-- R265, R309: the device without an image. RIND_STREAM_LAT of every stream reads 0 (DESIGN CHOICE, log entry 142). -/
def Dev.unloaded (d : Dev) : Dev :=
  let d := d.each d.rce.regions Dev.regionDrop
  let d := ((d.keepBits keepAtUnload).dropSched).each (upTo 8) (fun d s =>
    d.fsets [(RIND_STREAM_CFG_ENABLED s, 0), (RIND_STREAM_CFG_EGRESS_POINT s, 0), (RIND_STREAM_LAT_L_TICKS s, 0),
      (RIND_STREAM_LAT_EFFECTIVE_HORIZON s, 0)])
  let d := (d.each (upTo 16) (fun d k => d.fset (PWR_DOMAIN_STAT_AVC_STREAMS k) 0)).putClaims 0 600
  let d := { d with rce := { d.rce with
    image := none, placed := [], regions := [], installed := [], seeds := [], regDigest := 0 } }
  (d.showSpares.fsets [(RIND_FRAME_PERIOD_PERIOD_TICKS, 0), (FAB_FLUSH_STATUS_EGRESS_EXPECTED, 0),
    (FAB_FLUSH_STATUS_EGRESS_FLUSHED, 0), (FAB_STATUS_CFG_LOCKED, 0)]).setRun stIdle
/-- UNLOAD (R265, R276). -/
def unload (slot idx : Nat) (d : Dev) : Dev :=
  if !d.taskBegins slot idx 2 then d
  else if d.runState ≠ stLoaded ∧ d.runState ≠ stDrained then d.finish slot idx tsWrongState 0
  else d.unloaded.finish slot idx tsDone 0
/-- UNLOAD: the image of the device is removed. -/
def execUnload (slot idx : Nat) (s : State) : Host.Outcome State Fault Refusal := s.onDev (Wf.unload slot idx) (unload slot idx)

/-! ## The registers of the loader (R281, R283) -/

/-- LOAD_CFG_WRITE (R281): MARGIN_PCT, at most 50. -/
def loadCfgWrite (v : Nat) (d : Dev) : Dev := if d.ready then d.fset RCE_LOAD_CFG_MARGIN_PCT (min 50 (bitsOf v 0 6)) else d
/-- LOAD_CFG_WRITE (R281). -/
def execLoadCfgWrite (v : Nat) (s : State) : Host.Outcome State Fault Refusal := s.onDev (Wf.loadCfgWrite v) (loadCfgWrite v)
/-- CHAR_QUERY_WRITE (R283). -/
def charQueryWrite (v : Nat) (d : Dev) : Dev :=
  if d.ready then d.fsets [(RCE_CHAR_QUERY_VFLOOR_MV, bitsOf v 0 16), (RCE_CHAR_QUERY_TWC_PS, d.turnAt (bitsOf v 0 16))] else d
/-- CHAR_QUERY_WRITE (R283): the worst-case turn time that R262 would use at a voltage. -/
def execCharQueryWrite (v : Nat) (s : State) : Host.Outcome State Fault Refusal := s.onDev (Wf.charQueryWrite v) (charQueryWrite v)

end Sys2Proof.Machine
end

