-- ==== Sys2Proof/Machine/Identity.lean ====
section
/-!
DEFINITION. The firmware image and the ROM's check of it (R545 to R547), the vendor certificate (R552), and what SEC_ shows of
firmware and owners (R561 to R567).
-/

namespace Sys2Proof.Machine

open Sys2Proof

/-! ## The firmware image (R545, R546) -/

/-- R546: the bytes of the firmware image before its body. -/
def fwHeaderSize : Nat := 0x1540
/-- R550: the longest image. -/
def fwMax : Nat := 0x2000000
/-- R546: BODY_LENGTH. -/
def fwBodyLength (bs : List Nat) : Nat := leAt bs 0x18 8
/-- R563: SVN. -/
def fwSvn (bs : List Nat) : Nat := leAt bs 0xC 4
/-- R546: RAISE_MIN_SVN. -/
def fwRaises (bs : List Nat) : Bool := bitAt (leAt bs 0x20 4) 0
/-- R546: the image that begins a byte string: header and body. -/
def fwImage (bs : List Nat) : List Nat := bs.take (fwHeaderSize + fwBodyLength bs)
/-- R545: the firmware digest: header bytes 0x000 to 0x7DF and the body. -/
def fwDigest (bs : List Nat) : Nat := Config.sha3 (bs.take 0x7E0 ++ (fwImage bs).drop fwHeaderSize)
/-- R546: the header's magic, format, length, flags and zero bytes; the whole image is there. -/
def fwHeaderOk (bs : List Nat) : Bool :=
  bs.take 8 == [0x4D, 0x4F, 0x4C, 0x57, 0x46, 0x57, 0, 0] && leAt bs 8 2 == 1 && zeroAt bs 0xA 2 &&
    decide (1 ≤ fwBodyLength bs) && decide (fwBodyLength bs ≤ 33548992) && decide (fwHeaderSize + fwBodyLength bs ≤ bs.length) &&
    decide (leAt bs 0x20 4 < 2) && zeroAt bs 0x24 28 && zeroAt bs 0x150D 51
/-- R545: the message that the vendor's signatures of firmware cover. -/
def fwMessage (bs : List Nat) : List Nat := sigMessage "EVX-T4 FIRMWARE" (fwDigest bs)
/-- R543, R545: the check of a firmware image against a least SVN: 0 where it passes, else the `BOOT_ERR` of the first test it
fails. -/
def fwCheck (bs : List Nat) (minSvn : Nat) : Nat :=
  if !fwHeaderOk bs then 2
  else if !Config.edVerify Config.vendorEdPk (fwMessage bs) (cut bs 0x7E0 64) then 3
  else if !(Config.sha3 (cut bs 0x40 1952) == Config.vendorMlDigest && Config.mlVerify (cut bs 0x40 1952) (fwMessage bs) (cut bs 0x820 3309)) then 4
  else if fwSvn bs < minSvn then 5
  else 0
/-- R548: the firmware area of flash. -/
def Dev.flashImage (d : Dev) : List Nat :=
  let head := memBytes d.flash 0 fwHeaderSize
  head ++ memBytes d.flash fwHeaderSize (min (fwBodyLength head) (fwMax - fwHeaderSize))
/-- R543, R550: the ROM's check of flash; an image whose programming did not end has an old body under a new header. -/
def Dev.romCheck (d : Dev) : Nat := if d.boot.torn then 3 else fwCheck d.flashImage d.owner.minSvn
/-- A digest shown in four registers (R564, R567). -/
def Dev.putDigest (d : Dev) (f : Nat → Fld) (v : Nat) : Dev := d.each (upTo 4) (fun d k => d.fset (f k) (bitsOf v (64 * k) 64))
/-- R542, R563, R564: the verified firmware runs. -/
def Dev.showFirmware (d : Dev) : Dev :=
  let bs := d.flashImage
  ((d.fsets [(SEC_STATUS_FW_VERIFIED, 1), (SEC_FW_SVN, fwSvn bs)]).rset GLB_FW_VERSION (BitVec.ofNat 64 (leAt bs 0x10 8))).putDigest
    SEC_FW_DIGEST_DIGEST (fwDigest bs)

/-! ## The certificate (R552) -/

/-- R548, R552: the vendor certificate, at the start of the identity area. -/
def Dev.certificate (d : Dev) : List Nat := memBytes d.flash 0x2000000 5421
/-- R552: the certificate's magic, format, length and zero bytes. -/
def certFormed (c : List Nat) : Bool :=
  c.take 4 == [0x45, 0x56, 0x58, 0x43] && leAt c 4 2 == 1 && zeroAt c 6 2 && zeroAt c 0x12 14
/-- R552: the certificate check. -/
def Dev.certOk (d : Dev) : Bool :=
  let c := d.certificate
  certFormed c && leAt c 8 8 == d.fget GLB_SERIAL_SERIAL && leAt c 0x10 1 == d.fget GLB_ID_STEPPING && leAt c 0x11 1 == d.fget GLB_ID_GRADE &&
    cut c 0x40 32 == Config.devEdPk && cut c 0x60 1952 == Config.devMlPk &&
    bothVerify Config.vendorEdPk Config.vendorMlPk (sigMessage "EVX-T4 CERTIFICATE" (Config.sha3 (c.take 0x800))) (cut c 0x800 64) (cut c 0x840 3309)
/-- R552: the digest of the device record that the certificate gives. -/
def Dev.certRecord (d : Dev) : Nat := leAt d.certificate 0x20 32

/-! ## Owners (R554, R555, R557) -/

/-- R561, R563, R565 to R567: the owner records are shown. -/
def Dev.showOwner (d : Dev) : Dev :=
  (d.fsets [(SEC_STATUS_OWNER_ENROLLED, b2n d.owner.enrolled), (SEC_STATUS_REQUIRE_SIGNED, b2n d.owner.requireSigned),
    (SEC_FW_MIN_SVN, d.owner.minSvn), (SEC_OWNER_SEQ_POLICY_SEQ, d.owner.policySeq), (SEC_OWNER_SEQ_ENROL_SEQ, d.owner.enrolSeq),
    (SEC_OWNER_MIN_MIN_FW_SVN, d.owner.minFwSvn)]).putDigest SEC_OWNER_DIGEST_DIGEST d.ownerDigest

end Sys2Proof.Machine
end

