-- ==== Sys2Proof/Machine/Stamp.lean ====
section
/-!
DEFINITION. The stamp stage (R16 to R23, R71, R81, R82, R205, R207, R353): eligible frames, boundaries, the input CRC,
the vat write, injection and look-back, epoch and segment openings at a boundary, and FLUSH.
-/

namespace Sys2Proof.Machine

open Sys2Proof

/-! ## Alignment (R19) -/

/-- R19: the oldest frame whose alignment delay runs becomes eligible; of three eligible frames the oldest is discarded. -/
def Dev.ripen (d : Dev) (p : Nat) : Dev :=
  match pgetD d.rind.waiting p [] with
  | [] => d
  | f :: r =>
    let l := pgetD d.rind.align p [] ++ [f]
    let d := { d with rind := { d.rind with
      waiting := pput p r d.rind.waiting
      align := pput p (if 2 < l.length then l.tail else l) d.rind.align } }
    d.when (decide (2 < l.length)) (fun d => d.bump (RIND_PORT_STAT_EXCESS_COUNT p))

/-- FRAME_ELIGIBLE (R19): a port's alignment delay expires. -/
def frameEligible (p : Nat) (d : Dev) : Dev :=
  match pgetD d.rind.waiting p [] with
  | [] => d
  | f :: _ => (d.advTo f.tick).ripen p

/-- R19: a frame whose delay has expired by the tick of a boundary, or expires in it, is eligible at that boundary. -/
def Dev.ripenDue (d : Dev) : Dev :=
  d.each d.rind.waiting (fun d e => d.each (e.2.takeWhile (fun f => decide (f.tick ≤ d.tick))) (fun d _ => d.ripen e.1))

/-- FRAME_ELIGIBLE. -/
def execFrameEligible (p : Nat) (s : State) : Host.Outcome State Fault Refusal := s.onDev (Wf.frameEligible p) (frameEligible p)

/-! ## Sequence and presence (R20, R353) -/

/-- R353: the signed 16-bit difference of two sequence numbers. -/
def seqDiff (a b : Nat) : Int := sx 16 (wrapTo 16 ((a : Int) - (b : Int)))

/-- R353: `NEXT` of a port. -/
def Dev.setNext (d : Dev) (p n : Nat) : Dev := d.fsets [(PL_SEQ_NEXT p, n % 65536), (PL_SEQ_SEQ_VALID p, 1)]

/-- The eligible frames of a port. -/
def Dev.setAlign (d : Dev) (p : Nat) (l : List AlignedFrame) : Dev := { d with rind := { d.rind with align := pput p l d.rind.align } }

/-- R19, R353: what a port contributes at a boundary: its payload, if it is present. Late frames are discarded, the
sequence is checked, and the margin of a frame taken is measured. Frames before NEXT are discarded whatever SEQ_VALID holds, as
R353's first step has it. -/
def Dev.takeFrame (d : Dev) (p : Nat) : Option (List Nat) × Dev :=
  let l := pgetD d.rind.align p []
  let isLate : AlignedFrame → Bool := fun f => decide (seqDiff f.seq (d.fget (PL_SEQ_NEXT p)) < 0)
  let n := (l.filter isLate).length
  let rest := l.filter (fun f => !isLate f)
  let d := (d.setAlign p rest).when (n != 0) (fun d => d.bumpBy (PL_RX_CNT_LATE_FRAMES p) n)
  match rest with
  | [] => (none, d.when (d.flag (PL_SEQ_SEQ_VALID p)) (fun d => d.setNext p (d.fget (PL_SEQ_NEXT p) + 1)))
  | f :: r =>
    let d := d.setAlign p r
    if d.flag (PL_SEQ_SEQ_VALID p) && decide (0 < seqDiff f.seq (d.fget (PL_SEQ_NEXT p))) then
      (none, (d.setNext p (f.seq + 1)).violation p 5 f.seq true)
    else
      let m := d.tick - f.tick
      let d := d.fset (PL_SEQ_LAST_SEQ p) f.seq
      (some f.payload, (d.when (decide (m < d.fget (RIND_PORT_STAT_MARGIN_MIN p))) (fun d => d.fset (RIND_PORT_STAT_MARGIN_MIN p) m)).setNext p (f.seq + 1))

/-- R20, R351, R369: a port at a boundary: one that is not ACTIVE, or whose frames do not fit, is absent with what it
holds; absence is counted. -/
def Dev.takePort (d : Dev) (p : Nat) : Option (List Nat) × Dev :=
  let d := if d.pstate p != psActive || d.flag (PL_STATUS_PAYLOAD_TOO_LONG p) then
      { d.setAlign p [] with rind := { (d.setAlign p []).rind with waiting := pput p [] d.rind.waiting } } else d
  let r := d.takeFrame p
  (r.1, r.2.when r.1.isNone (fun d => d.bump (RIND_PORT_STAT_ABSENT_COUNT p)))

/-- The INPUT ports in ascending order. -/
def Dev.inputPorts (d : Dev) : List Nat := (upTo 64).filter (fun p => d.role p == roleInput)

/-- What every INPUT port contributes: its number, whether it is present, and its payload of `PAYLOAD_BYTES`. -/
def Dev.takePorts : List Nat → Dev → List (Nat × Bool × List Nat) × Dev
  | [], d => ([], d)
  | p :: r, d =>
    let t := d.takePort p
    let rest := Dev.takePorts r t.2
    ((p, t.1.isSome, padTo (d.fget (PL_CFG_PAYLOAD_BYTES p)) (t.1.getD [])) :: rest.1, rest.2)

/-- R23: the input CRC over the payloads in ascending port number. -/
def inputCrc (l : List (Nat × Bool × List Nat)) : Nat :=
  l.foldl (fun c e => crcBytes 64 0x42F0E1EBA9EA3693 c e.2.2) (2 ^ 64 - 1) ^^^ (2 ^ 64 - 1)

/-- R20: the present mask. -/
def presentMask (l : List (Nat × Bool × List Nat)) : Nat := (l.map (fun e => if e.2.1 then 2 ^ e.1 else 0)).sum

/-! ## The vat (R204, R205, R207) -/

/-- R204: the device address of a port's slot for a frame. -/
def Dev.slotAddr (d : Dev) (p m : Nat) : Nat :=
  let s := d.fget (VAT_RING_SLOT_WORDS p)
  vatBase + 64 * (d.fget (VAT_RING_RING_INDEX p) * d.fget VAT_STATUS_RING_WORDS + s * (m % max 1 (d.fget (VAT_RING_DEPTH_FRAMES p))))

/-- R205: a port's frame is written into its ring, padded to the slot. -/
def Dev.vatWrite (d : Dev) (n : Nat) (e : Nat × Bool × List Nat) : Dev :=
  if d.flag VAT_STATUS_RINGS_VALID && d.flag (VAT_RING_INPUT e.1) then
    d.poke (d.slotAddr e.1 n) (padTo (64 * d.fget (VAT_RING_SLOT_WORDS e.1)) e.2.2)
  else d

/-- R207: the AGUs that name a look-back window. -/
def Dev.windows (d : Dev) : List (Nat × Nat) :=
  ((upTo 256).flatMap (fun b => [(b, 0), (b, 1)])).filter (fun e =>
    d.flag (BLK_MU_STATUS_LOADED e.1) && d.fget (BLK_MU_AGU_CFG_MODE e.1 e.2) == 5)

/-- R207: the units of a window. -/
def Dev.windowCount (d : Dev) (b a : Nat) : Nat := d.fget (BLK_MU_AGU_LB_COUNT b a) + 1

/-- R209: a window's buffer has room for this frame behind what it holds and what is still to come. -/
def Dev.windowRoom (d : Dev) (e : Nat × Nat) : Bool :=
  let a := 2 * e.1 + e.2
  let due := (d.fab.lbDue.filter (fun x : Nat × Nat × Nat × Nat => x.1 == a && x.2.2.2 == 0)).length
  decide ((pgetD d.fab.lookback a []).length + (due + 1) * d.windowCount e.1 e.2 ≤ 256)

/-- R207: unit k of a window for frame n, zeros beyond the slot and before frame 0. -/
def Dev.windowUnit (d : Dev) (b a n k : Nat) : Nat :=
  let p := d.fget (BLK_MU_AGU_LB_PORT b a)
  let lag := d.fget (BLK_MU_AGU_LB_LAG b a)
  let u := d.fget (BLK_MU_AGU_LB_OFFSET b a) + k
  if n < lag ∨ d.fget (VAT_RING_SLOT_WORDS p) ≤ u ∨ !d.flag (VAT_RING_INPUT p) then 0
  else d.leMem (d.slotAddr p (n - lag) + 64 * u) 64

/-- R205, R206: the locus of the bank group a slot's unit lies in. -/
def Dev.unitLocus (d : Dev) (p m u : Nat) : Nat :=
  let g := d.groupOfWord ((d.slotAddr p m - vatBase) / 64 + u)
  0xF00000 + g % 64 * 0x1000 + g / 64

/-- LOOKBACK_DELIVERY (R207, R209): the vat delivers the window of the oldest frame due to an AGU; a unit whose read
failed is zero, after a VAT_PARITY notice. After a segment's last token the delivery is FLUSH (R200). -/
def lookbackDelivery (b a : Nat) (bad : List Nat) (rereads : Nat) (d : Dev) : Dev :=
  let i := 2 * b + a
  match d.fab.lbDue.find? (fun x : Nat × Nat × Nat × Nat => x.1 == i) with
  | none => d
  | some (_, n, esq, fl) =>
    let d := { d with fab := { d.fab with lbDue := d.fab.lbDue.eraseP (fun x : Nat × Nat × Nat × Nat => x.1 == i) } }
    let put : List Token → Dev → Dev := fun ts d =>
      { d with fab := { d.fab with lookback := pput i (pgetD d.fab.lookback i [] ++ ts) d.fab.lookback } }
    if fl = 1 then put [⟨esq, .flush, 0#512⟩] d
    else
      let ks := upTo (d.windowCount b a)
      let lost := ks.filter (fun k => bad.contains k)
      let toks := ks.map (fun k => (⟨esq, .data, if bad.contains k then 0#512 else BitVec.ofNat 512 (d.windowUnit b a n k)⟩ : Token))
      let p := d.fget (BLK_MU_AGU_LB_PORT b a)
      let d := d.when (rereads != 0) (fun d => d.bumpBy VAT_ERR_REREAD rereads)
      let d := d.each lost (fun d k =>
        let u := d.unitLocus p (n - d.fget (BLK_MU_AGU_LB_LAG b a)) (d.fget (BLK_MU_AGU_LB_OFFSET b a) + k)
        (d.bump VAT_ERR_ZEROED).notice 0xB u u esq)
      put toks d

/-- LOOKBACK_DELIVERY. -/
def execLookbackDelivery (b a : Nat) (bad : List Nat) (rereads : Nat) (s : State) : Host.Outcome State Fault Refusal :=
  s.onDev (Wf.lookbackDelivery b a bad rereads) (lookbackDelivery b a bad rereads)

/-! ## Injection (R21, R81, R82) -/

/-- R81: a port's injection window, as (offset, count); a count of 0 is none. -/
def Dev.injection (d : Dev) (p : Nat) : Nat × Nat :=
  match (d.rce.image.bind (fun g => g.ports[p]?)) with
  | some e => (e.winOff, e.winCount)
  | none => (0, 0)

/-- The ports that inject. -/
def Dev.injecting (d : Dev) : List Nat := d.inputPorts.filter (fun p => (d.injection p).2 != 0)

/-- R21, R82, R209: every ingress buffer and every look-back buffer has room. -/
def Dev.canInject (d : Dev) : Bool :=
  d.injecting.all (fun p => decide ((pgetD d.fab.ingress p []).length + (d.injection p).2 ≤ 512)) && d.windows.all d.windowRoom

/-- R81: the tokens of a port's window: byte j of a token is PAYLOAD[8j+7:8j]. -/
def windowTokens (off count esq : Nat) (payload : List Nat) : List Token :=
  (upTo count).map (fun k => ⟨esq, .data, BitVec.ofNat 512 (leAt payload (64 * (off + k)) 64)⟩)

/-- R82: the west-edge blocks whose control table names the mask source. -/
def Dev.maskBlocks (d : Dev) : List Nat := ((upTo 16).map (fun y => 16 * y)).filter (fun b => d.feeds b 2 28 != [])

/-- Tokens join a port's ingress buffer. -/
def Dev.toIngress (d : Dev) (p : Nat) (ts : List Token) : Dev :=
  { d with fab := { d.fab with ingress := pput p (pgetD d.fab.ingress p [] ++ ts) d.fab.ingress } }

/-- Tokens join a block's mask buffer, which has no bound (DESIGN CHOICE, log entry 132: R82 bounds the vector tokens alone). -/
def Dev.toMask (d : Dev) (b : Nat) (ts : List Token) : Dev :=
  { d with fab := { d.fab with maskBuf := pput b (pgetD d.fab.maskBuf b [] ++ ts) d.fab.maskBuf } }

/-- R20: the four MARK tokens of a present mask. -/
def maskTokens (esq mask : Nat) : List Token := (upTo 4).map (fun k => ⟨esq, .mark, BitVec.ofNat 512 (bitsOf mask (16 * k) 16)⟩)

/-- R21, R81, R82, R207: the frame enters the fabric. -/
def Dev.inject (d : Dev) (n esq mask : Nat) (l : List (Nat × Bool × List Nat)) : Dev :=
  let d := d.each l (fun d (e : Nat × Bool × List Nat) => if (d.injection e.1).2 = 0 then d
    else d.toIngress e.1 (windowTokens (d.injection e.1).1 (d.injection e.1).2 esq e.2.2))
  let d := d.each d.maskBlocks (fun d b => d.toMask b (maskTokens esq mask))
  { d with fab := { d.fab with lbDue := d.fab.lbDue ++ d.windows.map (fun e : Nat × Nat => (2 * e.1 + e.2, n, esq, 0)) } }

/-- R71, R200: FLUSH on every injection point with a window, every mask route and every look-back delivery. A buffer that is
full takes it beyond its 512 tokens (DESIGN CHOICE, log entry 131: R82 gives the 512 for a frame's tokens). -/
def Dev.sendFlush (d : Dev) (esq : Nat) : Dev :=
  let t : Token := ⟨esq, .flush, 0#512⟩
  let d := d.each d.injecting (fun d p => d.toIngress p [t])
  let d := d.each d.maskBlocks (fun d b => d.toMask b [t])
  let d := { d with
    fab := { d.fab with lbDue := d.fab.lbDue ++ d.windows.map (fun e : Nat × Nat => (2 * e.1 + e.2, 0, esq, 1)) }
    rce := { d.rce with flushSent := true } }
  d.when (d.egressExpected == 0) (fun d => d.fset FAB_STATUS_FLUSHED 1)

/-! ## Opening a segment (R71, R268, R409, R485) -/

/-- R71, R436, R485: FLUSHED and the units' marks of it are cleared, and no sink has accepted a token since. -/
def Dev.clearFlushed (d : Dev) : Dev :=
  let d := { d with fab := { d.fab with lastEsq := [], readyOrder := [], portLost := [] } }
  let d := d.fsets [(FAB_STATUS_FLUSHED, 0), (FAB_FLUSH_STATUS_EGRESS_FLUSHED, 0)]
  let d := d.each (upTo 256) (fun d b =>
    let d := d.each ((upTo 17).filter (fun t => d.flag (BLK_TILE_STATE_FLUSHED b t))) (fun d t => d.fset (BLK_TILE_STATE_FLUSHED b t) 0)
    let d := d.when (d.flag (BLK_MU_STATUS_FLUSHED b)) (fun d => d.fset (BLK_MU_STATUS_FLUSHED b) 0)
    d.each ([vuWin b 0, vuWin b 1].filter (fun w => d.flag (BLK_VU_STATE_FLUSHED w))) (fun d w => d.fset (BLK_VU_STATE_FLUSHED w) 0))
  d.each (((upTo 32).map spareWin).filter (fun w => d.flag (BLK_VU_STATE_FLUSHED w))) (fun d w => d.fset (BLK_VU_STATE_FLUSHED w) 0)

/-- R160, R268: a VU stands at step 0 with no held row and no evidence; it keeps S2, counts and failure marks. -/
def vuAnew (x : VuPos) : VuPos := { parityRun := x.parityRun }

/-- R268: every VU restarts at step 0. -/
def Dev.vusRestart (d : Dev) : Dev := d.each d.fab.vus (fun d e => d.setVu e.1 (vuAnew e.2))

/-- R271, R410, R460: a new segment begins with frame n, an install's `RUN_CTX` with it; the one before ends and may be
summarised. -/
def Dev.beginSegment (d : Dev) (n : Nat) : Dev :=
  let d := match d.rce.pendingCtx with
    | none => d
    | some c => (({ d with rce := { d.rce with pendingCtx := none } }).fsets [(RCE_RUN_CTX_RUN_CTX, c), (RCE_RUN_CTX_PENDING, 0)]).register true n
  let num := satAdd 32 (d.fget RCE_STATUS_SEGMENTS) 1
  let d := d.fset RCE_STATUS_SEGMENTS num
  let seg : Segment := ⟨num, d.fget RCE_RUN_CTX_RUN_CTX, n, 0, [0, 0, 0, 0, 0], 0, 0, 0, false⟩
  { d with rind := { d.rind with segments := d.rind.segments.map (fun g : Segment => { g with ended := true }) ++ [seg] } }.settle

/-- R268: the new segment opens at this boundary. -/
def Dev.openSegment (d : Dev) (n : Nat) : Dev :=
  let d := (d.clearFlushed.vusRestart.setRun stRunning).beginSegment n
  let d := { d with rce := { d.rce with broken := false, flushSent := false, closedTick := none } }
  d.finishAll .segmentOpen tsDone 0

/-- R268: nothing holds the break, it is reached, and no weight store holds a failed install. -/
def Dev.mayOpen (d : Dev) : Bool :=
  d.runState == stBreak && d.rce.broken && !d.rce.fwHold && !d.rce.timeoutHold && decide (d.rce.taskHolds = 0) &&
    decide (d.rce.scanHolds = 0) && d.fab.unset == []

/-- R99: ledger entries that name the first frame of the new segment take it. -/
def Dev.fillAwaiting (d : Dev) (esq : Nat) : Dev :=
  let st := d.stamp esq
  d.each d.led.awaiting (fun d i => { d with led := { d.led with entries := d.led.entries.modify i (fun e =>
    { e with firstEsq := esq, lastEsq := esq, stamp := st.time % 2 ^ 48, epoch := st.epoch }) } })

/-! ## Stamping (R18, R21 to R23) -/

/-- R306: the schedule's actions that act on this boundary: they fired in an earlier tick. A capture is charged to the
frame's entry. -/
def Dev.boundaryActs (d : Dev) : List Nat × Dev :=
  let due := d.tu.acts.filter (fun a : Nat × Nat × Nat × Nat => decide (a.1 < d.tick))
  let d := { d with tu := { d.tu with acts := d.tu.acts.filter (fun a : Nat × Nat × Nat × Nat => !decide (a.1 < d.tick)) } }
  let d := d.each due (fun d a =>
    if a.2.1 = 5 then d.toQuiesce 5
    else if a.2.1 = 6 then { d with rind := { d.rind with schedClosed := true } }
    else if a.2.1 = 7 then { d with rind := { d.rind with schedClosed := false } }
    else d)
  ((due.filter (fun a => a.2.1 == 8)).map (fun a => a.2.2.2 * 16 + a.2.2.1 % 16), d)

/-- R22: inputs are closed. -/
def Dev.inputsClosed (d : Dev) : Bool :=
  d.flag RIND_CTRL_CLOSE_INPUTS || d.rind.schedClosed || d.runState == stBreak || d.runState == stQuiescing || d.rce.timeoutHold

/-- R21, R22, R71, R267: what becomes of the stamped frame: injected, closed out, or dead time; at the first boundary
closed for a break or a drain FLUSH is sent, under the ESQ of this frame, the first not injected (DEDUCED, log entry 17). -/
def Dev.placeFrame (d : Dev) (n esq mask : Nat) (l : List (Nat × Bool × List Nat)) : Dev :=
  if d.inputsClosed then
    let d := d.bump RIND_DROP_COUNT_CLOSED_FRAMES
    if (d.runState = stBreak ∨ d.runState = stQuiescing) ∧ !d.rce.flushSent then
      ({ d with rce := { d.rce with closedTick := some d.tick } }).sendFlush esq
    else d
  else if d.canInject then
    (d.inject n esq mask l).setStamp esq { d.stamp esq with injected := true }
  else d.bump RIND_DROP_COUNT_DEAD_TIME

/-- The boundary of frame n falls in this tick: frames are taken, the frame is stamped, written to the vat and placed. -/
def Dev.stampFrame (d : Dev) (n : Nat) (mark : Option (Nat × Nat)) (caps : List Nat) (opened : Bool) : Dev :=
  let esq := n % 4096
  let r := Dev.takePorts d.inputPorts d.ripenDue
  let d := r.2
  let mask := presentMask r.1
  let st : Stamp := {
    valid := true, frame := n, time := d.ns, tick := d.tick, epoch := d.epoch, present := mask, crc := inputCrc r.1,
    runCtx := d.fget RCE_RUN_CTX_RUN_CTX, mark := mark, capture := caps }
  let d := (d.setStamp esq st).fsets [(RIND_FRAME_NUMBER_VALID, 1), (RIND_FRAME_NUMBER_FRAME_NUMBER, n)]
  let d := { d with
    rind := { d.rind with lastBoundary := d.tick, segments := d.rind.segments.map (fun g : Segment => if g.ended then g else { g with frames := g.frames + 1 }) }
    led := { d.led with index := pdel esq d.led.index } }
  let d := if opened then { d.fillAwaiting esq with led := { (d.fillAwaiting esq).led with awaiting := [] } } else d
  (d.each r.1 (fun d e => d.vatWrite n e)).placeFrame n esq mask r.1

/-! ## Boundaries (R17, R300) -/

/-- R16: P in ticks. -/
def Dev.period (d : Dev) : Nat := d.fget RIND_FRAME_PERIOD_PERIOD_TICKS
/-- R17: the nominal time of boundary n, in quarters of a ns: the anchor plus (n − anchor frame) × P × 1.25 ns. -/
def Dev.nominalQ (d : Dev) (n : Nat) : Nat := 4 * d.rind.anchor + (n - d.rind.anchorFrame) * (5 * d.period)
/-- R17: the tick of boundary n: the first with time at or after its nominal time, and not closer to the one before than
the servo allows. -/
def Dev.boundaryTick (d : Dev) (n : Nat) : Nat :=
  max (d.tick + ceilDiv (d.nominalQ n * 2 ^ 30 - d.time) (max 1 d.inc)) (d.rind.lastBoundary + d.period - ceilDiv d.period 2000)

/-- FRAME_BOUNDARY (R17, R300): the next boundary of the run. The anchor an opening sets is whole nanoseconds (DESIGN CHOICE,
log entry 133: R17 does not say whether the fraction is kept). -/
def frameBoundary (d : Dev) : Dev :=
  if !d.flag RIND_STATUS_SEQ_RUNNING || d.rind.lost then d
  else
    let n := d.fget RIND_FRAME_NUMBER_FRAME_NUMBER + 1
    let due := d.tu.openings.find? (d.openingDue (d.nominalQ n / 4))
    let old := d.epoch
    let d := match due with
      | none => d.advTo (d.boundaryTick n)
      | some o =>
        let d := (d.advTo (d.rind.lastBoundary + d.period)).openEpoch o
        { d with rind := { d.rind with anchor := d.ns, anchorFrame := n } }
    let acts := d.boundaryActs
    let opens := acts.2.mayOpen
    let d := if opens then acts.2.openSegment n else acts.2
    d.stampFrame n (due.map (fun _ => (old, d.epoch))) acts.1 opens

/-- FRAME_BOUNDARY. -/
def execFrameBoundary (s : State) : Host.Outcome State Fault Refusal := s.onDev Wf.frameBoundary frameBoundary

/-- R306, R265: boundary 0 of the run falls in this tick. -/
def Dev.boundaryZero (d : Dev) : Dev :=
  let d := (d.clearFlushed.setRun stRunning).fset RIND_STATUS_SEQ_RUNNING 1
  let d := { d with rind := { d.rind with anchorFrame := 0, slackSince := none }, rce := { d.rce with flushSent := false, resetDone := false, closedTick := none } }
  let acts := (d.beginSegment 0).boundaryActs
  (acts.2.stampFrame 0 none acts.1 true).finishAll .boundary0 tsDone 0

end Sys2Proof.Machine
end

