-- ==== Sys2Proof/Machine/Curd.lean ====
section
/-!
DEFINITION. The curd engine (R211 to R217, R573): its queue, the copy of a capture out of the vat slot by slot to the
store and the READOUT ports, and its register commands (R237 to R244).
-/

namespace Sys2Proof.Machine

open Sys2Proof

/-! ## A capture's parts (R212, R216) -/

/-- The frames a capture covers. -/
def CurdCap.frames (c : CurdCap) : Nat := c.last + 1 - c.first
/-- The slots it copies. -/
def CurdCap.slots (c : CurdCap) : Nat := c.frames * c.ports.length
/-- R204: S_p of a port, in bytes. -/
def Dev.slotBytes (d : Dev) (p : Nat) : Nat := 64 * d.fget (VAT_RING_SLOT_WORDS p)
/-- The bytes of one frame's slots. -/
def Dev.frameBytes (d : Dev) (c : CurdCap) : Nat := (c.ports.map d.slotBytes).sum
/-- R216: LENGTH in 64-byte units: header, data, loss bitmap. -/
def Dev.capLength (d : Dev) (c : CurdCap) : Nat := 1 + c.frames * d.frameBytes c / 64 + ceilDiv c.frames 512

/-- R216: the loss bitmap. -/
def CurdCap.bitmap (c : CurdCap) : List Nat :=
  leBytes (64 * ceilDiv c.frames 512) ((c.lost.map (fun i => 2 ^ i)).sum)

/-- R216: the header. -/
def Dev.capHeader (d : Dev) (c : CurdCap) : List Nat :=
  leBytes 64 ((c.ports.map (fun p => 2 ^ p)).sum * 2 ^ 448 + c.frame * 2 ^ 384 + d.capLength c % 2 ^ 32 * 2 ^ 352 + c.runCtx * 2 ^ 320
    + c.time % 2 ^ 48 * 2 ^ 272 + c.epoch * 2 ^ 256 + c.esq * 2 ^ 244 + c.kind * 2 ^ 241 + c.rule * 2 ^ 237 + c.accept * 2 ^ 221
    + (c.frame - c.first) * 2 ^ 207 + (c.last - c.frame) * 2 ^ 193 + c.lost.length * 2 ^ 178 + b2n c.trunc * 2 ^ 177 + 1)

/-! ## The store (R215) -/

/-- The store's size in 64-byte units. -/
def Dev.storeUnits (d : Dev) : Nat := 64 * d.fget VAT_CURD_AREA_SIZE_4K
/-- R215: the ring has room for a length with one unit to spare. -/
def Dev.storeRoom (d : Dev) (len : Nat) : Bool :=
  let n := d.storeUnits
  decide (len + 1 + (d.fget VAT_CURD_PTR_WR + n - d.fget VAT_CURD_PTR_RD) % max 1 n ≤ n)

/-- R215: bytes are written into the ring from WR on, wrapping at its end; WR then advances over them. -/
def Dev.storePut (d : Dev) (bs : List Nat) : Dev :=
  let n := 64 * d.storeUnits
  let base := 0x1000 * d.fget VAT_CURD_AREA_BASE_4K
  let wr := 64 * d.fget VAT_CURD_PTR_WR
  let d := (d.put (base + wr) (bs.take (n - wr))).put base (bs.drop (n - wr))
  d.fset VAT_CURD_PTR_WR ((wr + bs.length) % max 1 n / 64)

/-! ## The queue (R213) -/

/-- The capture being copied changes. -/
def Dev.setHead (d : Dev) (c : CurdCap) : Dev := { d with curd := { d.curd with queue := d.curd.queue.set 0 c } }

/-- R213: a capture is dropped, into the run log. -/
def Dev.curdDrop (d : Dev) (c : CurdCap) : Dev := d.log 3 (leBytes 8 c.frame ++ [c.rule, 0, 0, 0, 0, 0, 0, 0])

/-- CURD_RECORD (R211, R213): the engine takes the next record's capture: it joins the queue, or is dropped. -/
def curdRecord (d : Dev) : Dev :=
  match d.curd.coming with
  | [] => d
  | c :: r =>
    let d := { d with curd := { d.curd with coming := r } }
    if d.curd.queue.length < 1024 then { d with curd := { d.curd with queue := d.curd.queue ++ [c] } }
    else ((d.bump VAT_CURD_STAT_QUEUE_FULL).curdDrop c).alert 14 0 c.esq 0xFF c.frame c.frames

/-- CURD_RECORD. -/
def execCurdRecord (s : State) : Host.Outcome State Fault Refusal := s.onDev Wf.curdRecord curdRecord

/-! ## The copy (R214, R215, R359) -/

/-- R215, R359: a copy begins: its store copy where the ring has room, and its capture on each port that is ACTIVE. -/
def Dev.capBegins (d : Dev) (c : CurdCap) : Dev :=
  let room := d.storeRoom (d.capLength c)
  let d := d.when (c.toStore && !room) (fun d => d.bump VAT_CURD_STAT_STORE_FULL)
  let up := c.dests.filter (fun p => d.pstate p == psActive)
  let d := d.each (c.dests.filter (fun p => d.pstate p != psActive)) (fun d p => d.bump (PL_TX_CNT_CAPTURES_LOST p))
  let d := d.each up (fun d p => d.setPort p { d.port p with caps := (d.port p).caps ++ [{ bytes := [], blocks := 0, begun := false, ended := false }] })
  d.setHead { c with dests := up, started := true, store := c.toStore && room && d.lpUp }

/-- The head capture once its copy has begun. -/
def Dev.headBegun (d : Dev) : Dev :=
  match d.curd.queue with
  | [] => d
  | c :: _ => if c.started then d else d.capBegins c

/-- R359: bytes pass to every port that carries the capture; `done` marks the last. -/
def Dev.capSend (d : Dev) (c : CurdCap) (bs : List Nat) (done : Bool) : Dev :=
  d.each c.dests (fun d p => d.setPort p { d.port p with caps := (d.port p).caps.map (fun x =>
    if x.ended then x else { x with bytes := x.bytes ++ bs, ended := done }) })

/-- R214: the staging buffer of 1 MiB can hold a slot: what the slowest port has not yet sent stays in it. -/
def Dev.staged (d : Dev) (c : CurdCap) (n : Nat) : Bool :=
  c.dests.all (fun p => decide ((((d.port p).caps.map (fun x => x.bytes.length)).sum) + n ≤ 0x100000))

/-- R205: the tick by which a slot of a frame has been written, where its boundary has come. -/
def Dev.slotWritten (d : Dev) (m p : Nat) : Option Nat :=
  let st := d.stamp (m % 4096)
  if d.fget RIND_FRAME_NUMBER_FRAME_NUMBER < m then none
  else if st.valid && st.frame == m then some (st.tick + 6 + d.fget (VAT_RING_SLOT_WORDS p))
  else some d.tick

/-- R214: the latest boundary is too near the slot's overwrite. -/
def Dev.slotLate (d : Dev) (m p : Nat) : Bool :=
  decide (m + d.fget (VAT_RING_DEPTH_FRAMES p) ≤ d.fget RIND_FRAME_NUMBER_FRAME_NUMBER + 1)

/-- R214: the last slot of a frame has been copied: a frame with a lost slot is lost and all its slots are zeros. -/
def Dev.frameCopied (d : Dev) (c : CurdCap) (i : Nat) : Dev :=
  let bytes := if c.partBad then List.replicate (d.frameBytes c) 0 else c.part
  let c := { c with
    data := if c.store then c.data ++ [bytes] else c.data
    lost := if c.partBad then c.lost ++ [i] else c.lost, part := [], partBad := false }
  (d.when (c.lost.contains i) (fun d => d.bump VAT_CURD_STAT_LOST_FRAMES)).setHead c

/-- CURD_SLOT_READ (R206, R213, R214): the next slot of the capture being copied is read, or found lost; of a frame
already lost the slots that remain are zeros. Units in `bad` fail every read; `rereads` counts all re-reads. -/
def curdSlotRead (bad : List Nat) (rereads : Nat) (d : Dev) : Dev :=
  let d := d.headBegun
  match d.curd.queue with
  | [] => d
  | c :: _ =>
    let k := c.ports.length
    if c.slots ≤ c.cur then d
    else
      let m := c.first + c.cur / k
      let p := c.ports.getD (c.cur % k) 0
      let n := d.slotBytes p
      match d.slotWritten m p with
      | none => d
      | some t =>
        if !d.staged c n then d
        else
          let d := d.advTo t
          let late := c.partBad || d.slotLate m p
          let zeroed := (upTo (n / 64)).filter (fun u => bad.contains u)
          let d := if late then d else (d.when (rereads != 0) (fun d => d.bumpBy VAT_ERR_REREAD rereads)).when (!zeroed.isEmpty)
            (fun d => d.bumpBy VAT_ERR_ZEROED zeroed.length)
          let lost := late || !zeroed.isEmpty
          let bytes := if lost then List.replicate n 0 else d.bytes (d.slotAddr p m) n
          let c := { c with cur := c.cur + 1, part := c.part ++ bytes, partBad := lost }
          let d := (d.setHead c).capSend c bytes false
          if c.cur % k = 0 then d.frameCopied c (m - c.first) else d

/-- CURD_SLOT_READ. -/
def execCurdSlotRead (bad : List Nat) (rereads : Nat) (s : State) : Host.Outcome State Fault Refusal :=
  s.onDev (Wf.curdSlotRead bad rereads) (curdSlotRead bad rereads)

/-- R215, R359: all slots are copied: bitmap and header are made; the store copy becomes visible as WR advances, and the
ports get the bytes in their own order. -/
def Dev.capEnds (d : Dev) (c : CurdCap) : Dev :=
  let d := d.when c.store (fun d => d.storePut (d.capHeader c ++ c.data.flatten ++ c.bitmap))
  (d.capSend c (c.bitmap ++ d.capHeader c) true).setHead { c with ended := true, data := [] }

/-- R213: the capture's copies to every destination are complete. -/
def Dev.capDone (d : Dev) (c : CurdCap) : Dev :=
  let d := { d with curd := { d.curd with queue := d.curd.queue.tail } }
  (d.bump VAT_CURD_COUNT_CAPTURES).when (!c.lost.isEmpty) (fun d => d.alert 14 0 c.esq 0xFF c.frame c.lost.length)

/-- CURD_CAPTURE_COMPLETE (R213, R215, R217): the copies of the capture at the head end: once all its slots have been read
its bitmap and header are made; once its ports have sent it, it leaves the queue. -/
def curdCaptureComplete (d : Dev) : Dev :=
  let d := d.headBegun
  match d.curd.queue with
  | [] => d
  | c :: _ =>
    if c.cur < c.slots ∨ d.fget RIND_FRAME_NUMBER_FRAME_NUMBER < c.last then d
    else
      let d := if c.ended then d else d.capEnds c
      if c.dests.all (fun p => (d.port p).caps.isEmpty) then d.capDone c else d

/-- CURD_CAPTURE_COMPLETE. -/
def execCurdCaptureComplete (s : State) : Host.Outcome State Fault Refusal := s.onDev Wf.curdCaptureComplete curdCaptureComplete

/-- R573: ARM ends the engine's work of the run before: queued captures are dropped, the one being copied is lost on its
ports. -/
def Dev.curdEnds (d : Dev) : Dev :=
  let l := d.curd.queue ++ d.curd.coming
  let d := d.each (l.filter (fun c => !c.started)) Dev.curdDrop
  let d := d.each (l.filter CurdCap.started) (fun d c => d.each c.dests (fun d p => d.loseCaptures p (d.port p).caps.length))
  { d with curd := {} }

/-! ## Register commands (R212, R215, R237 to R239) -/

/-- R212: PRE_FRAMES and POST_FRAMES of a rule are clamped to 64 µs. -/
def Dev.clampRule (d : Dev) (r : Nat) : Dev :=
  let k := d.curdClamp
  let pre := d.fget (VAT_CURD_RULE_PRE_FRAMES r)
  let post := d.fget (VAT_CURD_RULE_POST_FRAMES r)
  if pre ≤ k ∧ post ≤ k then d
  else d.fsets [(VAT_CURD_RULE_PRE_FRAMES r, min pre k), (VAT_CURD_RULE_POST_FRAMES r, min post k), (VAT_CURD_RULE_CLAMPED r, 1)]

/-- CURD_RULE_WRITE (R212, R244). -/
def curdRuleWrite (r v : Nat) (d : Dev) : Dev :=
  (d.fsets [(VAT_CURD_RULE_POST_FRAMES r, bitsOf v 38 14), (VAT_CURD_RULE_PRE_FRAMES r, bitsOf v 24 14), (VAT_CURD_RULE_LINE_MASK r, bitsOf v 8 16),
    (VAT_CURD_RULE_TO_STORE r, bitsOf v 4 1), (VAT_CURD_RULE_STREAM r, bitsOf v 1 3), (VAT_CURD_RULE_ENABLE r, bitsOf v 0 1),
    (VAT_CURD_RULE_CLAMPED r, 0)]).clampRule r

/-- CURD_RULE_WRITE. -/
def execCurdRuleWrite (r v : Nat) (s : State) : Host.Outcome State Fault Refusal :=
  s.onDev (Wf.curdRuleWrite r v) (fun d => d.when d.ready (curdRuleWrite r v))

/-- R219, R237: the store lies wholly within a region of KIND curd store. -/
def Dev.storeOk (d : Dev) : Bool :=
  d.inRegion [2] (0x1000 * d.fget VAT_CURD_AREA_BASE_4K) (0x1000 * d.fget VAT_CURD_AREA_SIZE_4K)

/-- CURD_ENABLE_WRITE (R219, R237): ENABLE is set, or refused with BAD_STORE; or cleared. -/
def curdEnableWrite (v : Bool) (d : Dev) : Dev :=
  if !v then d.fset VAT_CURD_CTRL_ENABLE 0
  else if d.storeOk then d.fsets [(VAT_CURD_CTRL_ENABLE, 1), (VAT_CURD_CTRL_BAD_STORE, 0)]
  else d.fset VAT_CURD_CTRL_BAD_STORE 1

/-- CURD_ENABLE_WRITE. -/
def execCurdEnableWrite (v : Bool) (s : State) : Host.Outcome State Fault Refusal :=
  s.onDev (Wf.curdEnableWrite v) (fun d => d.when d.ready (curdEnableWrite v))

/-- CURD_COUNT_CLEAR (R237). -/
def execCurdCountClear (s : State) : Host.Outcome State Fault Refusal :=
  s.onDev Wf.curdCountClear (fun d => d.when d.ready (fun d => d.clearFlds
    [VAT_CURD_STAT_TRUNCATED, VAT_CURD_STAT_LOST_FRAMES, VAT_CURD_STAT_STORE_FULL, VAT_CURD_STAT_QUEUE_FULL, VAT_CURD_COUNT_CAPTURES]))

/-- CURD_AREA_WRITE (R238): while disabled the store is set and is empty. -/
def execCurdAreaWrite (v : Nat) (s : State) : Host.Outcome State Fault Refusal :=
  s.onDev (Wf.curdAreaWrite v) (fun d => d.when (d.ready && !d.flag VAT_CURD_CTRL_ENABLE) (fun d =>
    d.fsets [(VAT_CURD_AREA_SIZE_4K, bitsOf v 25 25), (VAT_CURD_AREA_BASE_4K, bitsOf v 0 25), (VAT_CURD_PTR_WR, 0), (VAT_CURD_PTR_RD, 0)]))

/-- CURD_RD_WRITE (R239): RD advances within the span up to WR. -/
def execCurdRdWrite (v : Nat) (s : State) : Host.Outcome State Fault Refusal :=
  s.onDev (Wf.curdRdWrite v) (fun d =>
    let n := d.storeUnits
    let rd := bitsOf v 32 31
    let old := d.fget VAT_CURD_PTR_RD
    d.when (d.ready && decide (rd < n) && decide ((rd + n - old) % max 1 n ≤ (d.fget VAT_CURD_PTR_WR + n - old) % max 1 n))
      (fun d => d.fset VAT_CURD_PTR_RD rd))

end Sys2Proof.Machine
end

