-- ==== Sys2Proof/Machine/Views.lean ====
section
/-!
DEFINITION. What a register shows where it is a view of a queue, a table or a unit at this moment (RIND_TICK, TU_TIME,
INPUTS_CLOSED, QUEUED, WAIT_STATE and the like), and what a unit waits for (R445, R477).
-/

namespace Sys2Proof.Machine

open Sys2Proof

/-! ## What a unit is doing (R477) -/

/-- R477, R496: a unit's WAIT_STATE with WAIT_NET and WAIT_ON. -/
structure UnitWait where
  st : Nat
  net : Nat
  on : Nat
  deriving DecidableEq, Repr, Inhabited

/-- Idle. -/
def uwIdle : UnitWait := ⟨0, 0, 0⟩
/-- Working. -/
def uwWork : UnitWait := ⟨1, 0, 0⟩
/-- Waiting for a token at a sink, named by its queue number. -/
def uwIn (q : Nat) : UnitWait := ⟨2, q / 256 % 4, q % 256⟩
/-- Waiting for an output stage to empty. -/
def uwOut (net j : Nat) : UnitWait := ⟨3, net, j⟩
/-- The first sink of a list that holds no token. -/
def Dev.firstEmpty (d : Dev) (qs : List Nat) : Option Nat := qs.find? (fun q => (d.headOf q).isNone)
/-- Waiting for the first empty sink of a list, or else something. -/
def Dev.waitIn (d : Dev) (qs : List Nat) (other : UnitWait) : UnitWait := ((d.firstEmpty qs).map uwIn).getD other

/-- A firing tile: it waits where its next instruction, with its guard met, is RECV, SEND or SENDC on a port not ready. -/
def Dev.firingWait (d : Dev) (c : Tc) (l : Nat) : UnitWait :=
  let w := d.imem c (d.fget (BLK_TILE_STATE_PC c.b c.t))
  let live := !bitAt w 30 || d.p c (bitsOf w 28 2) != bitAt w 31
  let op := bitsOf w 22 6
  if !live then uwWork
  else if op = 0x3B then d.waitIn [tileQ c.b l (bitsOf w 15 3)] uwWork
  else if op = 0x3C ∨ op = 0x3D then
    let o := tileOut l (bitsOf w 11 3)
    if d.stageEmpty c.b o.1 o.2 then uwWork else uwOut o.1 o.2
  else uwWork

/-- R477: a tile. In cyclic order it waits for the lowest-numbered empty port of the descriptor at its position. -/
def Dev.tileWait (d : Dev) (c : Tc) : UnitWait :=
  match d.logTile c.b c.t with
  | none => uwIdle
  | some l =>
    if d.flag (BLK_TILE_STATE_FAILED c.b c.t) || !d.flag (BLK_TILE_CFG_LOADED c.b c.t) then uwIdle
    else if d.flag (BLK_TILE_STATE_FIRING c.b c.t) then d.firingWait c l
    else
      let ins := if d.flushSeen c l || d.flag (BLK_TILE_CFG_READY_ORDER c.b c.t) then d.tileInputs c
        else onesOf 5 (d.descMask c (d.fget (BLK_TILE_STATE_NEXT_DESC c.b c.t)))
      if ins = [] then uwIdle else d.waitIn (ins.map (tileQ c.b l)) uwWork

/-- R477: a VU. -/
def Dev.vuWait (d : Dev) (u : Nat) : UnitWait :=
  match d.vuPlace u with
  | none => uwIdle
  | some (b, v) =>
    let w := vuWindow u
    let x := d.vu u
    let st := d.vuStepAt w x.step
    if d.flag (BLK_VU_STATE_FAILED w) || !d.flag (BLK_VU_CFG_LOADED w) then uwIdle
    else match x.send.find? (fun e : Nat × Nat × Token => !d.stageEmpty b e.1 e.2.1) with
      | some e => uwOut e.1 e.2.1
      | none =>
        if d.vuFlushing u b v then d.waitIn (d.vuUsed u b v) uwWork
        else if x.macDone then (if st.chainAdd && decide (x.chain.length < 4) then d.waitIn [vuQ b v 1] uwWork else uwWork)
        else if st.rowIn = 1 ∧ !x.rowGot then d.waitIn [vuQ b v 0] uwWork
        else if st.rowIn = 1 ∧ st.scaleIn ∧ !x.scaleGot then d.waitIn [vuQ b v 2] uwWork
        else uwWork

/-- R477: an MU: an AGU that cannot send shows first, then one that is at work, then the inputs. -/
def Dev.muWait (d : Dev) (b : Nat) : UnitWait :=
  let ins := d.muIns b
  if d.flag (BLK_MU_STATUS_FAILED b) || !d.flag (BLK_MU_STATUS_LOADED b) || ins == [] then uwIdle
  else match (upTo 2).find? (fun a => ((d.agu b a).op == 1 || (d.agu b a).op == 4) && !d.aguFree b a) with
    | some a => uwOut (d.aguSource b a).1 (d.aguSource b a).2
    | none =>
      match (upTo 2).find? (fun a => (d.agu b a).op == 2 || (d.agu b a).op == 3) with
      | some a => d.waitIn [if (d.agu b a).op = 3 then qnum b 1 (12 + a) else d.aguSink b a] uwWork
      | none =>
        if (upTo 2).any (fun a => (d.agu b a).op != 0) || ins.any (fun e => (d.muHead e).isSome) then uwWork
        else d.waitIn ((ins.filter (fun e => !e.1)).map Prod.snd) uwWork

/-- R119, R121: the inputs an SU needs tokens at now: for FLUSH all; with TAKE SELECTED the condition, then the input it chooses. -/
def Dev.suNeeds (d : Dev) (b u : Nat) : List Nat :=
  if d.fget (BLK_SU_CFG_MODE b u) = 2 ∧ d.flag (BLK_SU_CFG_TAKE b u) ∧ !d.suFlushing b u then
    match d.headOf (suCondQ b u) with
    | none => [suCondQ b u]
    | some c => [d.suQ b u (d.suChoice b u c)]
  else d.suInputs b u
/-- R119, R120: the outputs an SU sends to now: STEER the one it chooses, every other mode and FLUSH all. -/
def Dev.suSends (d : Dev) (b u : Nat) : List Nat :=
  if d.fget (BLK_SU_CFG_MODE b u) = 1 ∧ !d.suFlushing b u then
    match d.headOf (suCondQ b u), d.headOf (d.suQ b u 0) with
    | some c, some t => [if esqsDiffer [c, t] then d.fget (BLK_SU_CFG_DEFAULT b u) else d.suChoice b u c]
    | _, _ => []
  else d.suOutputs b u
/-- R119: an output an SU waits for: its stage is full, and, in JOIN, whether the output discards or not. -/
def Dev.suBlocked (d : Dev) (b u j : Nat) : Bool :=
  if d.fget (BLK_SU_CFG_MODE b u) = 3 ∧ !d.suFlushing b u then !d.stageEmpty b (d.suNet b u) (suOut (d.suNet b u) u j) else !d.suCan b u j
/-- R477: an SU. -/
def Dev.suWait (d : Dev) (b u : Nat) : UnitWait :=
  if d.suInputs b u = [] then uwIdle
  else match d.firstEmpty (d.suNeeds b u) with
    | some q => uwIn q
    | none => match (d.suSends b u).find? (d.suBlocked b u) with
      | some j => uwOut (d.suNet b u) (suOut (d.suNet b u) u j)
      | none => uwWork

/-- R496: the wait state of unit k of a block. -/
def Dev.unitWait (d : Dev) (b k : Nat) : UnitWait :=
  if !d.powered b then uwIdle
  else if k ≤ 16 then d.tileWait ⟨b, k⟩
  else if k ≤ 18 then d.vuWait (unitId 1 b (k - 17))
  else if k = 19 then d.muWait b
  else d.suWait b (k - 20)

/-- R496: the live fields of a BUSY register. -/
def uwBits (w : UnitWait) : Nat := w.st + w.net * 2 ^ 4 + w.on * 2 ^ 8

/-! ## Views -/

/-- A register value with some fields replaced. -/
def withFields (v : Nat) (l : List (Fld × Nat)) : Nat := l.foldl (fun v e => setBits v e.1.lsb e.1.width e.2) v

/-- R373, R385, R386: a port's event registers show the head of its log. -/
def Dev.eventView (d : Dev) (p v : Nat) : Nat :=
  match (d.port p).log with
  | [] => v
  | e :: r => withFields v [(PL_EVENT_INFO_SEQ p, e.seq), (PL_EVENT_INFO_EPOCH p, e.epoch), (PL_EVENT_INFO_QUEUED p, r.length + 1),
      (PL_EVENT_INFO_VALID p, 1), (PL_EVENT_INFO_CODE p, e.code)]

/-- The captured edges of an input. -/
def Dev.tcap (d : Dev) (i : Nat) : List Capture := pgetD d.tu.tcap i []

/-- R332: the head of a TCAP queue. -/
def tcapInfo (c : Capture) : Nat :=
  withFields 0 [(TU_TCAP_INFO_EPOCH 0, c.epoch), (TU_TCAP_INFO_VALID 0, 1), (TU_TCAP_INFO_UNTIMED 0, b2n c.untimed),
    (TU_TCAP_INFO_FALLING 0, b2n c.falling), (TU_TCAP_INFO_FRAC_PS 0, c.ps)]

/-- The tokens that lie in spill areas (R472). -/
def Dev.spillHeld (d : Dev) : Nat := (d.fab.spilled.map (fun e => e.2.length)).sum

/-- R481, R492: the snapshot area's base and slot size in bytes. -/
def Dev.snapSlot (d : Dev) : Nat := d.fget FAB_SNAP_AREA_SLOT_64K * 0x10000
/-- R481: an area is configured. -/
def Dev.snapArea (d : Dev) : Bool := d.fget FAB_SNAP_AREA_SLOTS != 0 && d.snapSlot != 0
/-- R481: the area lies in an allowed region. -/
def Dev.snapAreaOk (d : Dev) : Bool :=
  d.inRegion [1, 4] (d.fget FAB_SNAP_AREA_BASE_4K * 0x1000) (d.snapSlot * d.fget FAB_SNAP_AREA_SLOTS)

/-- What a read of a register shows: its stored value, with the fields that are views of other state. -/
def Dev.view (d : Dev) (off : Nat) : Nat :=
  let v := (d.rget off).toNat
  if off = RIND_STATUS then withFields v [(RIND_STATUS_INPUTS_CLOSED, b2n d.inputsClosed)]
  else if off = RIND_TICK then d.tick
  else if off = TU_TIME then d.ns
  else if off = FAB_LEDGER_STATUS then
    withFields v [(FAB_LEDGER_STATUS_ENTRIES, d.led.entries.length), (FAB_LEDGER_STATUS_FULL, b2n (decide (1024 ≤ d.led.entries.length)))]
  else if off = VAT_CURD_COUNT then withFields v [(VAT_CURD_COUNT_QUEUED, d.curd.queue.length)]
  else if off = TU_SCHED_EVENT then d.tu.events.headD 0
  else if off = GLB_CQ_STAT then withFields v [(GLB_CQ_STAT_HELD, min 63 d.host.hold.length)]
  else if off = FAB_SNAP_STATUS then withFields v [(FAB_SNAP_STATUS_BAD_AREA, b2n (d.snapArea && !d.snapAreaOk))]
  else if off = FAB_DL_SPILL then
    withFields v [(FAB_DL_SPILL_ACTIVE, b2n (d.spillHeld != 0)), (FAB_DL_SPILL_HELD, min 0xFFFF d.spillHeld)]
  else if TU_TCAP_CFG 0 ≤ off ∧ off ≤ TU_TCAP_CFG 7 then
    withFields v [(TU_TCAP_CFG_QUEUED 0, (d.tcap ((off - TU_TCAP_CFG 0) / 8)).length)]
  else if TU_TCAP_TIME 0 ≤ off ∧ off ≤ TU_TCAP_TIME 7 then ((d.tcap ((off - TU_TCAP_TIME 0) / 8)).head?.map Capture.ns).getD 0
  else if TU_TCAP_INFO 0 ≤ off ∧ off ≤ TU_TCAP_INFO 7 then ((d.tcap ((off - TU_TCAP_INFO 0) / 8)).head?.map tcapInfo).getD 0
  else if TU_PORT_TIME 0 ≤ off ∧ off ≤ TU_PORT_TIME 63 ∧ off % 16 = 8 then
    let p := (off - TU_PORT_TIME 0) / 16
    withFields v [(TU_PORT_TIME_SYMBOL_OK p, b2n (((pget d.tu.symbols p).map (fun x => decide (d.tick ≤ x.tick + 6400))).getD false))]
  else if PL_CFG 0 ≤ off ∧ off < PL_CFG 64 then
    let p := (off - PL_CFG 0) / (PL_CFG 1 - PL_CFG 0)
    if off = PL_EVENT_INFO p then d.eventView p v
    else if off = PL_EVENT_TIME p then ((d.port p).log.head?.map PortEvent.ns).getD 0
    else if PL_LANE_EQ p 0 ≤ off ∧ off ≤ PL_LANE_EQ p 3 ∧ (off - PL_LANE_EQ p 0) % 0x40 = 0 then
      let l := (off - PL_LANE_EQ p 0) / 0x40
      withFields v [(PL_LANE_EQ_TAP_VALUE p l, d.tapNow p (13 * l + min 12 (d.fget (PL_LANE_EQ_TAP_SEL p l))))]
    else v
  else if FAB_SPARE_UNIT_BUSY 0 ≤ off ∧ off ≤ FAB_SPARE_UNIT_BUSY 31 ∧ off % 16 = 8 then
    let j := (off - FAB_SPARE_UNIT_BUSY 0) / 16
    setBits v 0 16 (uwBits (d.vuWait (unitId 7 (j / 2) (j % 2))))
  else if blk 0 ≤ off ∧ off < blk 256 then
    let b := (off - blk 0) / (blk 1 - blk 0)
    let o := off - BLK_UNIT_BUSY b 0
    if BLK_UNIT_BUSY b 0 ≤ off ∧ o < 384 ∧ o % 16 = 0 then setBits v 0 16 (uwBits (d.unitWait b (o / 16))) else v
  else v

/-- The bytes a run of consecutive registers shows. -/
def Dev.viewBytes (d : Dev) (off n : Nat) : List Nat := (upTo n).flatMap (fun i => leBytes 8 (d.view (off + 8 * i)))

end Sys2Proof.Machine
end

