-- ==== Sys2Proof/Machine/Snap.lean ====
section
/-!
DEFINITION. Snapshots (R479 to R484, R486): the trigger and the latch, the sections, writing a snapshot out, and the
commands on FAB_OBS_CTRL and FAB_SNAP_AREA (R478, R490, R492).
-/

namespace Sys2Proof.Machine

open Sys2Proof

/-! ## Sections (R479, R482, R483) -/

/-- R482: a run of registers in a section. -/
def Dev.regRun (d : Dev) (off n : Nat) : List Nat := if n = 0 then [] else leBytes 4 off ++ leBytes 4 n ++ d.viewBytes off n

/-- R483: the runs of the counter section in order, as (offset, registers). -/
def Dev.counterRuns (d : Dev) : List (Nat × Nat) :=
  [(RIND_STATUS, 7), (RIND_PORT_STAT 0, 64)] ++ d.enabledStreams.map (fun s => (RIND_STREAM_CFG s, 32))
    ++ [(FAB_STATUS, 2), (FAB_TURN_MON 0, 16), (FAB_DOMAIN_SPARE 0, 16), (FAB_LEDGER_STATUS, 1), (FAB_REPLAY, 1), (FAB_TIE_T2, 1),
        (FAB_DL_STAT, 1), (FAB_DL_SPILL, 1), (FAB_FLUSH_STATUS, 1), (RCE_STATUS, 1), (RCE_RUN_CTX, 1), (RCE_ARRIVAL 0, 8),
        (TU_STATUS, 1), (TU_SERVO_STATE, 1), (TU_OFFSET, 1), (TU_SCHED_STAT, 1), (TU_TCAP_CFG 0, 8),
        (VAT_ERR, 1), (VAT_CURD_STAT, 1), (VAT_CURD_COUNT, 1), (LPX_STATUS, 1), (LPX_ERR 0, 5)]
    ++ ((upTo 64).filter (fun p => d.pstate p != psOff)).flatMap (fun p =>
        [(PL_STATUS p, 8), (PL_VIOL_CNT p 1, 10)] ++ (upTo 4).map (fun l => (PL_LANE_STAT p l, 1)))
    ++ (upTo 16).map (fun k => (PL_LASER k, 1))
    ++ (upTo 256).flatMap (fun b => ((upTo 17).filter (fun t => d.flag (BLK_TILE_CFG_LOADED b t))).map (fun t => (BLK_TILE_ERR b t, 2)))
    ++ (upTo 256).flatMap (fun b => ((upTo 4).filter (fun u => d.fget (BLK_SU_CFG_MODE b u) != 0)).map (fun u => (BLK_SU_COUNT b u, 2)))
    ++ ((upTo 256).filter (fun b => d.flag (BLK_MU_STATUS_LOADED b))).map (fun b => (BLK_MU_ERR b, 2))
    ++ ((upTo 512).map (fun i => vuWin (i / 2) (i % 2)) ++ (upTo 32).map spareWin).flatMap (fun w =>
        if d.flag (BLK_VU_CFG_LOADED w) then [(BLK_VU_ERR w, 2), (BLK_VU_S2 w 0, 4), (BLK_VU_S2_LIM w 0, 4), (BLK_VU_QCOUNT w 0 0, 16)] else [])

/-- R479: the runs of the stall section. -/
def stallRuns : List (Nat × Nat) :=
  (upTo 256).flatMap (fun b => [(BLK_QSTAT b 0 0, 92), (BLK_QSTAT b 1 0, 23), (BLK_QSTAT b 2 0, 32), (BLK_UNIT_WAIT b 0, 48)])
    ++ [(FAB_SPARE_UNIT_WAIT 0, 64)]

/-- R465 to R468: FAB_LEDGER_A to D and MAP of an entry. -/
def ledgerWords (e : LedgerEntry) : List Nat :=
  [e.suspect % 2 ^ 24 + e.kind * 2 ^ 24 + e.count * 2 ^ 32,
   1 + b2n (kindVoids e.kind) * 2 + b2n (kindHard e.kind) * 4 + e.firstEsq * 2 ^ 16 + e.lastEsq * 2 ^ 28 + e.reporter * 2 ^ 40,
   e.stamp + e.epoch * 2 ^ 48, e.runCtx + e.segment * 2 ^ 32] ++ (upTo 4).map (fun k => bitsOf e.blocks (64 * k) 64)

/-- R484: the most recent pages of the run log. -/
def Dev.logTail (d : Dev) : List (List Nat) :=
  let l := d.obs.logPages ++ (if d.obs.logCur = [] then [] else [padTo 4096 d.obs.logCur])
  l.drop (l.length - 16)

/-- R482: the body of section k. -/
def Dev.section (d : Dev) (k : Nat) : List Nat :=
  if k = 0 then d.counterRuns.flatMap (fun e => d.regRun e.1 e.2)
  else if k = 1 then stallRuns.flatMap (fun e => d.regRun e.1 e.2)
  else if k = 2 then leBytes 8 (d.view FAB_LEDGER_STATUS)
    ++ d.led.entries.zipIdx.flatMap (fun e => leBytes 2 e.2 ++ [0, 0, 0, 0, 0, 0] ++ (ledgerWords e.1).flatMap (leBytes 8))
  else if k = 3 then d.logTail.flatten
  else (upTo 4096).flatMap (fun q =>
    let st := d.stamp q
    leBytes 8 st.time ++ leBytes 8 (stampInfo d st) ++ leBytes 8 st.present ++ leBytes 8 st.crc)

/-- R482: a section with its header. -/
def Dev.sectionBytes (d : Dev) (k : Nat) : List Nat :=
  let b := d.section k
  [k, 0, 0, 0] ++ leBytes 4 (b.length + 8) ++ b

/-- R482: the header from `TICK` on, but for `SOURCE` and `ENTRY`. -/
def Dev.snapHead (d : Dev) (source entry : Nat) : List Nat :=
  leBytes 8 d.tick ++ leBytes 8 d.timeOr0 ++ leBytes 2 d.epoch ++ [source, entry] ++ leBytes 4 (d.fget RCE_RUN_CTX_RUN_CTX)
    ++ leBytes 8 (d.rget RIND_FRAME_NUMBER).toNat ++ [d.runState] ++ List.replicate 15 0

/-! ## The latch (R479 to R481) -/

/-- R480: the order of sources: drain failure, schedule, task, register write. -/
def sourceRank (s : Nat) : Nat := if s = 3 then 0 else if s = 1 then 1 else if s = 2 then 2 else 3

/-- R480: the state a selector names, latched in this tick, with what an earlier trigger of the tick latched. -/
def Dev.latch (d : Dev) (old : Option Latched) (sel source entry : Nat) (task : Option (Nat × Nat)) : Latched :=
  let had := (old.map Latched.sections).getD []
  let all := sel ||| (old.map Latched.selector).getD 0
  let first := match old with
    | some l => if sourceRank l.source ≤ sourceRank source then (l.source, l.entry) else (source, entry)
    | none => (source, entry)
  { selector := all, source := first.1, entry := first.2, tick := d.tick, head := d.snapHead first.1 first.2,
    sections := (onesOf 5 all).map (fun k => (k, ((pget had k).getD (d.sectionBytes k)))),
    tasks := (old.map Latched.tasks).getD [] ++ task.toList }

/-- R479: a selector that takes something. -/
def selectorOk (sel : Nat) : Bool := sel != 0 && decide (sel < 32)

/-- R480, R481, R486: a trigger: the device with the snapshot latched, or none where it takes nothing; a drain failure
finding one in progress latches into the shadow. BAD_AREA follows what the trigger finds. -/
def Dev.trigger (d : Dev) (sel source entry : Nat) (task : Option (Nat × Nat)) : Option Dev :=
  if !selectorOk sel || !d.snapArea || !d.snapAreaOk then none
  else match d.obs.latched with
    | none => some ({ d with obs := { d.obs with latched := some (d.latch none sel source entry task) } }.fsets
        [(FAB_SNAP_STATUS_BUSY, 1), (FAB_SNAP_STATUS_BAD_AREA, 0)])
    | some l =>
      if l.tick = d.tick then some { d with obs := { d.obs with latched := some (d.latch (some l) sel source entry task) } }
      else if source = 3 then some ({ d with obs := { d.obs with shadow := some (d.latch none sel source entry task) } }.fset FAB_SNAP_STATUS_BAD_AREA 0)
      else none

/-- R480, R481: what a trigger that takes nothing leaves: MISSED counts one that finds BUSY, BAD_AREA one that finds a
bad area. -/
def Dev.untaken (d : Dev) (sel : Nat) : Dev :=
  if !selectorOk sel || !d.snapArea then d
  else if !d.snapAreaOk then d.fset FAB_SNAP_STATUS_BAD_AREA 1
  else (d.fset FAB_SNAP_STATUS_BAD_AREA 0).bump FAB_SNAP_STATUS_MISSED

/-- R479: a trigger of a kind that reports nothing. -/
def Dev.snapshot (d : Dev) (sel source entry : Nat) : Dev := (d.trigger sel source entry none).getD (d.untaken sel)

/-! ## Writing out (R481, R482) -/

/-- R481: the sections that fit in the room left, in order, and whether one was left out. -/
def fitSections : List (Nat × List Nat) → Nat → List Nat × Bool
  | [], _ => ([], false)
  | (_, b) :: r, room =>
    if b.length ≤ room then let t := fitSections r (room - b.length); (b ++ t.1, t.2)
    else ((fitSections r room).1, true)

/-- SNAPSHOT_WRITTEN (R480 to R482): the snapshot in progress is in its slot; the shadow's follows. -/
def snapshotWritten (d : Dev) : Dev :=
  match d.obs.latched with
  | none => d
  | some l =>
    let seq := (d.fget FAB_SNAP_STATUS_SNAP_SEQ + 1) % 2 ^ 32
    let next := d.fget FAB_SNAP_STATUS_NEXT_SLOT
    let a := d.fget FAB_SNAP_AREA_BASE_4K * 0x1000 + next * d.snapSlot
    let r := fitSections l.sections (d.snapSlot - 64)
    let bytes := [0x53, 0x4E, 0x41, 0x50, 1, 0, l.selector, b2n r.2] ++ leBytes 4 seq ++ leBytes 4 (64 + r.1.length) ++ l.head ++ r.1
    let d := (d.put a bytes).fsets [(FAB_SNAP_STATUS_SNAP_SEQ, seq),
      (FAB_SNAP_STATUS_NEXT_SLOT, (next + 1) % max 1 (d.fget FAB_SNAP_AREA_SLOTS)), (FAB_SNAP_STATUS_BUSY, b2n d.obs.shadow.isSome)]
    let d := (d.event FAB_SNAP_STATUS_DONE).when r.2 (fun d => d.event FAB_SNAP_STATUS_TRUNCATED)
    let d := ({ d with obs := { d.obs with latched := d.obs.shadow, shadow := none } }).log 6 (leBytes 4 seq ++ leBytes 4 0 ++ leBytes 8 a)
    d.each l.tasks (fun d e => d.finish e.1 e.2 tsDone seq)

/-- SNAPSHOT_WRITTEN. -/
def execSnapshotWritten (s : State) : Host.Outcome State Fault Refusal := s.onDev Wf.snapshotWritten snapshotWritten

/-! ## The commands of FAB_OBS_CTRL and FAB_SNAP_AREA -/

/-- TAKE (R479, R490): a snapshot with TAKE_SELECTOR. -/
def execTake (s : State) : Host.Outcome State Fault Refusal :=
  s.onDev Wf.take (fun d => d.when d.ready (fun d => d.snapshot (d.fget FAB_OBS_CTRL_TAKE_SELECTOR) 0 0))

/-- The statistics registers of R477 among those written. -/
def isStallReg (off : Nat) : Bool :=
  (decide (FAB_SPARE_UNIT_WAIT 0 ≤ off) && decide (off < FAB_SPARE_UNIT_WAIT 32)) ||
    (decide (blk 0 ≤ off) && decide (off < blk 256) && decide (0xF000 ≤ (off - blk 0) % 0x10000) && decide ((off - blk 0) % 0x10000 < 0xF780))

/-- R477: SPILL_HELD shows tokens and is no counter. -/
def isQstat (off : Nat) : Bool := decide (blk 0 ≤ off) && decide ((off - blk 0) % 0x10000 < 0xF600)

/-- STALL_CLEAR (R478, R490): every BLK_QSTAT, BLK_UNIT and FAB_SPARE_UNIT counter is cleared, but for what this tick's
events counted. -/
def execStallClear (s : State) : Host.Outcome State Fault Refusal :=
  s.onDev Wf.stallClear (fun d => d.when d.ready (fun d =>
    d.each ((d.regs.map Prod.fst).filter isStallReg) (fun d off =>
      d.clearMask off (if isQstat off then 2 ^ 64 - 1 - (2 ^ 13 - 1) * 2 ^ 16 else 2 ^ 64 - 1))))

/-- FREEZE (R478, R490). -/
def execFreeze (v : Bool) (s : State) : Host.Outcome State Fault Refusal :=
  s.onDev (Wf.freeze v) (fun d => d.when d.ready (fun d => d.fset FAB_OBS_CTRL_FREEZE (b2n v)))

/-- SNAP_AREA_WRITE (R481, R492): ignored while BUSY; the slots restart at slot 0. -/
def execSnapAreaWrite (v : Nat) (s : State) : Host.Outcome State Fault Refusal :=
  s.onDev (Wf.snapAreaWrite v) (fun d => d.when (d.ready && !d.flag FAB_SNAP_STATUS_BUSY) (fun d =>
    let d := d.fsets [(FAB_SNAP_AREA_SLOT_64K, bitsOf v 48 8), (FAB_SNAP_AREA_SLOTS, bitsOf v 32 8), (FAB_SNAP_AREA_BASE_4K, bitsOf v 0 25),
      (FAB_SNAP_STATUS_NEXT_SLOT, 0)]
    d.fset FAB_SNAP_STATUS_BAD_AREA (b2n (d.snapArea && !d.snapAreaOk))))

/-! ## The SNAPSHOT task (R487) -/

/-- SNAPSHOT (R480, R487): the task's trigger; the task is done once the snapshot is written. A selector that takes
nothing is a bad argument; a trigger that takes nothing fails the task. -/
def snapshotTask (slot idx : Nat) (d : Dev) : Dev :=
  if !d.taskBegins slot idx 0x0110 then d
  else
    let sel := d.taskArg slot idx 0 1
    if !selectorOk sel then d.finish slot idx tsBadArgument 0
    else match d.trigger sel 2 0 (some (slot, idx)) with
      | some e => e.await slot idx .snapshot
      | none => (d.untaken sel).finish slot idx tsFailed 0

/-- SNAPSHOT. -/
def execSnapshot (slot idx : Nat) (s : State) : Host.Outcome State Fault Refusal := s.onDev (Wf.snapshot slot idx) (snapshotTask slot idx)

end Sys2Proof.Machine
end

