-- ==== Sys2Proof/Machine/Drain.lean ====
section
/-!
DEFINITION. How a segment and a run end (R265, R267, R269): the break reached, STOP, a failed drain with its run reset
(R267, R486, R571), and DRAINED.
-/

namespace Sys2Proof.Machine

open Sys2Proof

/-! ## What a drain waits for -/

/-- The record of a stamped frame is out on every enabled stream. -/
def Dev.settled (d : Dev) (st : Stamp) : Bool := d.enabledStreams.all st.done

/-- R267: every injected frame of the ending segment has released its record on every enabled stream. -/
def Dev.injectedOut (d : Dev) : Bool := d.rind.stamps.all (fun e => !(e.2.valid && e.2.injected) || d.settled e.2)
/-- R269: every stamped frame has. -/
def Dev.stampedOut (d : Dev) : Bool := d.rind.stamps.all (fun e => !e.2.valid || d.settled e.2)

/-! ## The break (R267, R268) -/

/-- BREAK_REACHED (R267, R268): FLUSHED is set and every injected frame is out: the waiting tasks are done, and firmware's
result-timeout handling has done its work. -/
def breakReached (d : Dev) : Dev :=
  if d.runState = stBreak ∧ !d.rce.broken ∧ d.flag FAB_STATUS_FLUSHED ∧ d.injectedOut then
    ({ d with rce := { d.rce with broken := true, timeoutHold := false } }).finishAll .breakReached tsDone 0
  else d

/-- BREAK_REACHED. -/
def execBreakReached (s : State) : Host.Outcome State Fault Refusal := s.onDev Wf.breakReached breakReached

/-! ## STOP and DRAINED (R265, R269, R308) -/

/-- R265, R269, R410, R308: the run is drained: the sequencer stands still, every entry retires, the last segment ends
with its summary, `REL` entries are disarmed, and the domains follow. -/
def Dev.enterDrained (d : Dev) : Dev :=
  let d := d.when (d.flag RIND_STATUS_SEQ_RUNNING) (fun d => d.truncCaptures.holdOpenings)
  let d := (d.setRun stDrained).fset RIND_STATUS_SEQ_RUNNING 0
  let d := { d with
    rind := { d.rind with
      stamps := d.rind.stamps.map (fun e : Nat × Stamp => (e.1, { e.2 with retired := e.2.retired || e.2.valid }))
      segments := d.rind.segments.map (fun g : Segment => { g with ended := true }) }
    rce := { d.rce with fwHold := false, timeoutHold := false, taskHolds := 0, scanHolds := 0, broken := false, closedTick := none }
    led := { d.led with awaiting := [] } }
  ((d.dropProbes.settle.disarmRel).finishAll .drained tsDone 0).domainsFollow

/-- R265, R269, R274: STOP: an ARMED run ends at once, entry 255 cancelled with CANCELLED_STATE; a run under way
drains. -/
def Dev.stopRun (d : Dev) (cause : Nat) : Dev :=
  if d.runState = stArmed then (d.cancelEntry 255 5).enterDrained else d.toQuiesce cause

/-- DRAINED_REACHED (R269): the run is quiescing, the fabric is flushed, or was reset after a failed drain, and every
stamped frame is out. -/
def drainedReached (d : Dev) : Dev :=
  if d.runState = stQuiescing ∧ (d.flag FAB_STATUS_FLUSHED ∨ d.rce.resetDone) ∧ d.stampedOut then d.enterDrained else d

/-- DRAINED_REACHED. -/
def execDrainedReached (s : State) : Host.Outcome State Fault Refusal := s.onDev Wf.drainedReached drainedReached

/-! ## A failed drain (R267, R486, R571) -/

/-- R571: the firings in progress are cleared, with their program counters. -/
def Dev.clearFirings (d : Dev) : Dev :=
  let d := d.each d.fab.firings (fun d e =>
    d.fsets [(BLK_TILE_STATE_FIRING (unitWhere e.1) (unitIndex e.1), 0), (BLK_TILE_STATE_PC (unitWhere e.1) (unitIndex e.1), 0)])
  { d with fab := { d.fab with firings := [] } }

/-- R571: a run reset clears the transient state of the fabric and nothing else. -/
def Dev.runReset (d : Dev) : Dev :=
  let d := d.clearFirings.vusRestart
  let d := d.each d.fab.spilled (fun d e => d.setSpill e.1 [])
  { d with fab := { d.fab with
      queues := [], spilled := [], stages := [], taken := [], ingress := [], maskBuf := [], lookback := [], lbDue := [], replay := [],
      agus := [], dq := [] } }

/-- DRAIN_TIMEOUT (R267, R486): FLUSHED is not set within 1 ms of the inputs closing: the failure snapshot, DRAIN_FAILED,
its alert and run-log entry, the run reset, and QUIESCING. -/
def drainTimeout (d : Dev) : Dev :=
  match d.rce.closedTick with
  | none => d
  | some t =>
    if (d.runState = stBreak ∨ d.runState = stQuiescing) ∧ !d.flag FAB_STATUS_FLUSHED ∧ !d.rce.resetDone then
      let d := d.advTo (t + 800000)
      let d := (d.snapshot (d.fget FAB_OBS_CTRL_FAIL_SELECTOR) 3 0).event RCE_STATUS_DRAIN_FAILED
      let n := d.fget RIND_FRAME_NUMBER_FRAME_NUMBER
      let d := ((d.alert 4 0 0 0xFF n 0).log 7 (leBytes 8 n)).runReset
      (({ d with rce := { d.rce with resetDone := true } }).segCause 8).toQuiesce 8
    else d

/-- DRAIN_TIMEOUT. -/
def execDrainTimeout (s : State) : Host.Outcome State Fault Refusal := s.onDev Wf.drainTimeout drainTimeout

end Sys2Proof.Machine
end

