-- ==== Sys2Proof/Machine/Relocate.lean ====
section
/-!
DEFINITION. Relocation (R261, R269, R270, R449 to R452): the figures that use a failed unit, the placements they move to, and
what moves with them.
-/

namespace Sys2Proof.Machine

open Sys2Proof

/-! ## Where figures stand -/

/-- R83, R84: the physical unit that serves a unit of a placement now. -/
def Dev.physUnit (d : Dev) (u : Nat) : Nat :=
  if unitClass u = 0 then tileId (unitWhere u) (d.physTile (unitWhere u) (unitIndex u))
  else if unitClass u = 1 then d.physVu (unitWhere u) (unitIndex u)
  else u
/-- The plan that a placement's records stand in now. -/
def Dev.planNow (d : Dev) (rs : List RegRec) : Plan := (recUnits rs).map (fun u => (u, d.physUnit u))
/-- The figures of the image, each with its placement and its place in the image. -/
def Dev.figuresNow (d : Dev) (im : Image) : List ((Figure × Nat) × Nat) := (im.figures.zip d.rce.placed).zipIdx
/-- R449: a failed unit or sink that records use, or a unit of theirs whose domain has gone. -/
def Dev.brokenIn (d : Dev) (rs : List RegRec) : Option Nat :=
  (((d.planNow rs).find? (fun e => d.fab.failed.contains e.2 || !d.blockUp (unitWhere e.1))).map Prod.snd).orElse (fun _ =>
    ((recSinks rs).map sinkUnit).find? (fun u => d.fab.failed.contains u || !d.blockUp (unitWhere u)))
/-- R449: the figures to be moved. -/
def Dev.listed (d : Dev) (im : Image) : List ((Figure × Nat) × Nat) :=
  (d.figuresNow im).filter (fun e => (d.brokenIn (e.1.1.records e.1.2)).isSome)
/-- R452: the failed unit of the figure in a place of the image. -/
def Dev.lostUnit (d : Dev) (im : Image) (i : Nat) : Nat :=
  (((d.listed im).find? (fun e => e.2 == i)).bind (fun e => d.brokenIn (e.1.1.records e.1.2))).getD 0

/-! ## New placements (R261, R449, R451, R572) -/

/-- What the figures that stay use. -/
def Dev.staying (d : Dev) (im : Image) : Placing :=
  let stays (e : (Figure × Nat) × Nat) : Bool := (d.brokenIn (e.1.1.records e.1.2)).isNone
  { choice := d.rce.placed
    plans := (d.figuresNow im).map (fun e => if stays e then d.planNow (e.1.1.records e.1.2) else [])
    taken := ((d.figuresNow im).filter stays).foldl (fun t e => t.add (e.1.1.records e.1.2) (d.planNow (e.1.1.records e.1.2))) {} }
/-- R261, R449: the listed figures placed, each in its current placement first; a combination must pass the checks of R572. -/
def Dev.replace (d : Dev) (im : Image) : LoadErr ⊕ Placing :=
  d.placeAll im (fun c => (im.comboErr (d.turnAt im.vfloor) c).isNone)
    ((d.listed im).map (fun e => (e.2, e.1.1, e.1.2 :: (upTo e.1.1.placements).filter (fun k => k != e.1.2)))) (d.staying im)
/-- The figures' place in the image of an identifier. -/
def Image.figureAt (im : Image) (id : Nat) : Nat := im.figures.findIdx (fun f => f.id == id)
/-- R451: the units of a list fail: no figure uses them yet. -/
def Dev.failLoading (d : Dev) (us : List Nat) : Dev := d.each us (fun d u => (d.showFailed u).markFailed u)
/-- R449 to R452: placements for the listed figures; units of `fails` that would serve fail while they are loaded, and the
search goes on without them. The place of a figure that finds none is given. -/
def Dev.findPlaces (im : Image) (fails : List Nat) : Nat → Dev → Dev × (Nat ⊕ Placing)
  | 0, d => (d, .inl 0)
  | n + 1, d =>
    match d.replace im with
    | .inl e => (d, .inl (im.figureAt e.2.2))
    | .inr x =>
      match x.late with
      | some e => (d, .inl e.2)
      | none =>
        let used := (d.listed im).flatMap (fun e => ((x.plans[e.2]?).getD []).map Prod.snd)
        let bad := fails.filter (fun u => used.contains u && !d.fab.failed.contains u)
        if bad = [] then (d, .inr x) else Dev.findPlaces im fails n (d.failLoading bad)

/-! ## Taking a figure off its units -/

/-- The registers of a physical unit. -/
def inUnit (u off : Nat) : Bool :=
  let within (lo n : Nat) : Bool := decide (lo ≤ off) && decide (off < lo + n)
  match unitClass u with
  | 0 => within (tileWin (unitWhere u) (unitIndex u)) 0x800
  | 1 => within (vuWindow u) 0x1000
  | 7 => within (vuWindow u) 0x1000
  | 2 => within (blk (unitWhere u) + 0xE000) 0x40
  | 3 => within (BLK_SU_CFG (unitWhere u) (unitIndex u)) 8
  | _ => false
/-- The units of a list hold no configuration or state. -/
def Dev.emptyUnits (d : Dev) (us : List Nat) : Dev := d.keepBits (fun off => if us.any (fun u => inUnit u off) then keepAtUnload off else 2 ^ 64 - 1)
/-- R83, R84: a unit of a plan is disconnected from the spare that serves it. -/
def Dev.disconnect (d : Dev) (e : Nat × Nat) : Dev :=
  if e.1 = e.2 then d
  else if unitClass e.1 = 0 then d.rset (BLK_TILE_SPARE (unitWhere e.1)) 0#64
  else d.fset (if unitIndex e.1 = 0 then BLK_VU_MAP_VU0_SEL (unitWhere e.1) else BLK_VU_MAP_VU1_SEL (unitWhere e.1)) 0
/-- A figure leaves its placement: its sinks, spares and units. -/
def Dev.takeOff (d : Dev) (rs : List RegRec) (p : Plan) : Dev :=
  let d := d.each (rs.filter (fun r => (r.sink?).isSome)) (fun d r => d.rset (blk r.block + r.off) 0#64)
  (d.each p Dev.disconnect).emptyUnits (p.map Prod.snd)

/-! ## What moves with a figure (R99, R160, R185, R201) -/

/-- A field carried from the device before the move, unless its parity fails on the way. -/
def Dev.carry (d d0 : Dev) (from_ to_ : Fld) (lost : Bool) : Dev := if lost then d else d.fset to_ (d0.fget from_)
/-- STATE_LOST is ledgered where anything was lost (R99). -/
def Dev.lostIf (d : Dev) (c : Bool) (u : Nat) : Dev := if c then d.stateLost u else d
/-- R99: tile state that moves: g, p, c, the LUT and the descriptor position. `lost` are locations whose parity fails. -/
def Dev.moveTile (d d0 : Dev) (o n : Nat) (lost : List Nat) : Dev :=
  let co : Tc := ⟨unitWhere o, unitIndex o⟩
  let cn : Tc := ⟨unitWhere n, unitIndex n⟩
  let d := d.each (upTo 16) (fun d i => d.carry d0 (BLK_TILE_GREG_VALUE co.b co.t i) (BLK_TILE_GREG_VALUE cn.b cn.t i) (lost.contains i))
  let d := d.each (upTo 4) (fun d k => d.carry d0 (cntFld co k) (cntFld cn k) (lost.contains (20 + k)))
  let d := d.each (upTo 256) (fun d j => d.carry d0 (lutFld co j) (lutFld cn j) (lost.contains (32 + j)))
  let d := (d.carry d0 (BLK_TILE_STATE_PRED co.b co.t) (BLK_TILE_STATE_PRED cn.b cn.t) false).carry d0
    (BLK_TILE_STATE_NEXT_DESC co.b co.t) (BLK_TILE_STATE_NEXT_DESC cn.b cn.t) false
  d.lostIf (lost.any (fun l => decide (l < 16) || (decide (20 ≤ l) && decide (l < 24)) || (decide (32 ≤ l) && decide (l < 288)))) o
/-- R185: S2 and FLOOR_RUN of a slot take their image values. -/
def Dev.slotImage (d : Dev) (w k : Nat) : Dev := d.fsets [(BLK_VU_S2_S2 w k, d.fget (BLK_VU_S2_S2_IMAGE w k)), (BLK_VU_S2_LIM_FLOOR_RUN w k, 0)]
/-- R160, R185: S2 state that moves; slot k is location 256 + k. The VU stands at step 0, its evidence empty. -/
def Dev.moveVu (d d0 : Dev) (o n : Nat) (lost : List Nat) : Dev :=
  let wo := vuWindow o
  let wn := vuWindow n
  let d := d.each (upTo 4) (fun d k =>
    if lost.contains (256 + k) then d.slotImage wn k
    else (d.carry d0 (BLK_VU_S2_S2 wo k) (BLK_VU_S2_S2 wn k) false).carry d0 (BLK_VU_S2_LIM_FLOOR_RUN wo k) (BLK_VU_S2_LIM_FLOOR_RUN wn k) false)
  let d := { d with fab := { d.fab with vus := pdel o (pdel n d.fab.vus) } }
  d.lostIf ((upTo 4).any (fun k => lost.contains (256 + k))) o
/-- R201: the image value of a word of a figure's MU, named as in placement 0. -/
def Figure.muImage (f : Figure) (b w : Nat) : Nat :=
  ((f.muData.find? (fun r => r.block == b && decide (r.first ≤ w) && decide (w < r.first + r.words.length))).map
    (fun r => r.words.getD (w - r.first) 0)).getD 0
/-- R201: the image area of a block's MU takes its image values. -/
def Dev.muFromImage (d : Dev) (f : Figure) (b0 b : Nat) : Dev :=
  let d := (d.zeroSpan (blkMem b) 0x78000).setBad (muId b) []
  d.each (f.muData.filter (fun r => r.block == b0)) (fun d r =>
    d.poke (muWordAddr b r.first) (r.words.flatMap (leBytes 64)))
/-- A span of memory copied as it stood. -/
def Dev.copySpan (d d0 : Dev) (a b n : Nat) : Dev :=
  let d := d.zeroSpan b n
  { d with mem := (d0.mem.filter (fun e => decide (a ≤ e.1) && decide (e.1 < a + n))).foldl (fun m e => memPut m (b + (e.1 - a)) e.2.toNat) d.mem }
/-- R201, R449: the image area and both `PTR` of an MU move; of a failed one nothing can be read. -/
def Dev.moveMu (d d0 : Dev) (f : Figure) (b0 o n : Nat) (lost : List Nat) : Dev :=
  if d0.fab.failed.contains (muId o) then (d.muFromImage f b0 n).stateLost (muId o)
  else
    let d := if o = n then d else (d.copySpan d0 (blkMem o) (blkMem n) 0x78000).setBad (muId n) []
    let ws := lost.filter (fun w => decide (w < 7680))
    let d := d.each ws (fun d w => (d.poke (muWordAddr n w) (leBytes 64 (f.muImage b0 w))).mend (muId n) [w])
    let d := d.each (upTo 2) (fun d a => d.carry d0 (BLK_MU_AGU_ADDR_PTR o a) (BLK_MU_AGU_ADDR_PTR n a) false)
    d.lostIf (ws != []) (muId o)
/-- R254: a unit of placement 0 in another placement. -/
def Figure.unitAt (f : Figure) (k u : Nat) : Nat := unitId (unitClass u) (f.block k (unitWhere u)) (unitIndex u)
/-- The locations of a unit whose parity fails on the way out: those known bad, and those that fail now. -/
def Dev.lostAt (d0 : Dev) (bad : List (Nat × Nat)) (u : Nat) : List Nat := (bad.filter (fun e => e.1 == u)).map Prod.snd ++ (d0.badLocs u).map Prod.fst
/-- R449: the state of a figure moves from where it stood to where it stands. -/
def Dev.moveFigure (d d0 : Dev) (f : Figure) (k k' : Nat) (p : Plan) (bad : List (Nat × Nat)) : Dev :=
  d.each (recUnits f.config) (fun d u =>
    let o := d0.physUnit (f.unitAt k u)
    let n := p.unit (f.unitAt k' u)
    match unitClass u with
    | 0 => d.moveTile d0 o n (d0.lostAt bad o)
    | 1 => d.moveVu d0 o n (d0.lostAt bad o)
    | 2 => d.moveMu d0 f (unitWhere u) (unitWhere o) (unitWhere n) (d0.lostAt bad o)
    | _ => d)
/-- R256, R449: the words of a bank for the units of a list alone. -/
def refitTargets (im : Image) (us : List Nat) : List BankTarget → Nat → Dev → Dev
  | [], _, d => d
  | t :: l, a, d =>
    let u := d.targetUnit im t.block t.vu
    refitTargets im us l (a + 256 * t.count) (if us.contains u then d.putWords u t (d.bytes a (256 * t.count)) else d)
/-- R449: the weight stores of moved VUs take their words from the installed banks. -/
def Dev.refit (d : Dev) (im : Image) (us : List Nat) : Dev :=
  d.each d.rce.installed (fun d e =>
    refitTargets im us ((d.bankTargets e.2.addr).getD []) (e.2.addr + 64 + 8 * d.bankCount e.2.addr) d)

/-! ## Relocation (R449) -/

/-- R449: the listed figures move to their new placements. -/
def Dev.moveAll (d : Dev) (im : Image) (x : Placing) (bad : List (Nat × Nat)) : Dev :=
  let l := d.listed im
  let plan (i : Nat) : Plan := (x.plans[i]?).getD []
  let dst (i : Nat) : Nat := (x.choice[i]?).getD 0
  let e := d.each l (fun e y => e.takeOff (y.1.1.records y.1.2) (d.planNow (y.1.1.records y.1.2)))
  let e := { e with rce := { e.rce with placed := x.choice } }
  let e := e.each l (fun e y => e.putFigure (y.1.1.records (dst y.2)) (plan y.2))
  let e := e.each l (fun e y => e.moveFigure d y.1.1 y.1.2 (dst y.2) (plan y.2) bad)
  let moved := (l.flatMap (fun y => (plan y.2).map Prod.snd)).filter isVu
  let e := { e with fab := { e.fab with unset := e.fab.unset ++ (l.flatMap (fun (y : (Figure × Nat) × Nat) => (recUnits y.1.1.config).filterMap (fun u =>
    if e.fab.unset.contains (d.physUnit (y.1.1.unitAt y.1.2 u)) then some ((plan y.2).unit (y.1.1.unitAt (dst y.2) u)) else none))) } }
  ((((e.refit im moved).showPools).showSpares).showStreams (im.recs x.choice)).showArrival im x.choice x.plans
/-- R270, R452: a figure has no admissible placement. -/
def Dev.capacityLost (d : Dev) (unit : Nat) : Dev :=
  let n := d.fget RIND_FRAME_NUMBER_FRAME_NUMBER
  (((d.fset RCE_STATUS_CAPACITY_LOST 1).selfReport 0x13 unit (n % 4096)).alert 3 unit (n % 4096) 0xFF n 0).toQuiesce 7
/-- R449 to R452: relocation: every figure that uses a failed unit moves, or capacity is lost with the unit given. -/
def Dev.relocate (d : Dev) (fails : List Nat) (bad : List (Nat × Nat)) : Dev × Option Nat :=
  match d.rce.image with
  | none => (d, none)
  | some im =>
    if d.listed im = [] then (d, none)
    else
      let r := Dev.findPlaces im fails (fails.length + 1) d
      match r.2 with
      | .inl i => (r.1.capacityLost (d.lostUnit im i), some (d.lostUnit im i))
      | .inr x => (r.1.moveAll im x bad, none)
/-- RELOCATION (R449): firmware recovery at a reached break moves the figures of failed units and releases its hold. -/
def relocation (fails : List Nat) (bad : List (Nat × Nat)) (d : Dev) : Dev :=
  if d.runState = stBreak ∧ d.rce.broken ∧ d.rce.fwHold then
    let r := d.relocate fails bad
    { r.1.showSpares with rce := { r.1.showSpares.rce with fwHold := false } }
  else d
/-- RELOCATION: `fails` are units that fail while they are loaded (R451), `bad` the (unit, location) pairs whose parity fails
on the way out (R99). -/
def execRelocation (fails : List Nat) (bad : List (Nat × Nat)) (s : State) : Host.Outcome State Fault Refusal :=
  s.onDev (Wf.relocation fails bad) (relocation fails bad)

end Sys2Proof.Machine
end

