-- ==== Sys2Proof/Machine/Rce.lean ====
section
/-!
DEFINITION. The run-control engine's commands (R266 to R276): submission and dispatch of task graphs, aborts, and the run
tasks from ARM to INSTALL.
-/

namespace Sys2Proof.Machine

open Sys2Proof

/-! ## Submission (R272, R273, R280) -/

/-- R276, R487: the opcodes, each with the argument bytes it uses as (offset, size). -/
def taskArgs (op : Nat) : Option (List (Nat × Nat)) :=
  match op with
  | 1 => some [(0, 8), (8, 8), (16, 2)]
  | 2 => some []
  | 3 => some [(0, 4), (8, 8), (16, 8)]
  | 4 => some [(0, 8), (8, 2), (10, 1)]
  | 5 => some []
  | 6 => some []
  | 7 => some []
  | 8 => some [(0, 2), (8, 8), (16, 4)]
  | 9 => some [(0, 8)]
  | 10 => some [(0, 4), (4, 1)]
  | 11 => some [(0, 8), (8, 8), (16, 8)]
  | 12 => some []
  | 0x110 => some [(0, 1)]
  | 0x111 => some [(0, 8), (8, 8), (16, 8), (24, 1)]
  | 0x112 => some [(0, 8), (8, 8)]
  | _ => none
/-- R272, R273: the descriptor of task `k` is well formed. -/
def descriptorOk (bs : List Nat) (k : Nat) : Bool :=
  let n := leAt bs 4 2
  match taskArgs (leAt bs 0 2) with
  | none => false
  | some args =>
    decide (leAt bs 2 2 ≤ 1) && decide (n ≤ 8) && leAt bs 6 2 == 0 &&
    (upTo 8).all (fun i => if i < n then decide (leAt bs (8 + 2 * i) 2 < k) else leAt bs (8 + 2 * i) 2 == 0) &&
    (upTo 32).all (fun i => args.any (fun a => decide (a.1 ≤ i) && decide (i < a.1 + a.2)) || leAt bs (0x18 + i) 1 == 0)
/-- R273: the slots the host may use that are free, ascending. -/
def Dev.freeSlots (d : Dev) : List Nat := (upTo 15).filter (fun k => (d.graph k).isNone)
/-- R280: the refusal of a submission, or 0. -/
def Dev.submitCode (d : Dev) (a tasks : Nat) : Nat :=
  if tasks = 0 ∨ 4096 < tasks then 2
  else if !inLpddr a (64 * tasks) then 3
  else if d.freeSlots = [] then 1
  else if (upTo tasks).all (fun k => descriptorOk (d.bytes (a + 64 * k) 64) k) then 0
  else 2
/-- R273, R275: a graph comes into flight in a slot, all its tasks waiting, as their descriptors show. -/
def Dev.openGraph (d : Dev) (slot a tag tasks : Nat) : Dev :=
  let g : Graph := { addr := a, tasks := tasks, tag := tag, aborting := false, status := List.replicate tasks tsWaiting, order := d.rce.nextOrder }
  let d := d.each (upTo tasks) (fun d k => d.put (a + 64 * k + 0x38) (leBytes 4 tsWaiting))
  ({ d with rce := { d.rce with nextOrder := d.rce.nextOrder + 1 } }).putGraph slot g
/-- GRAPH_SUBMIT (R279, R280): a write of RCE_SUBMIT. -/
def graphSubmit (tag tasks : Nat) (d : Dev) : Dev :=
  if !d.ready then d
  else
    let a := 64 * d.fget RCE_SUBMIT_ADDR_ADDR
    let c := d.submitCode a tasks
    let d := d.fset RCE_SUBMIT_RESULT_CODE c
    if c = 0 then (d.fset RCE_SUBMIT_RESULT_SLOT (d.freeSlots.headD 0)).openGraph (d.freeSlots.headD 0) a tag tasks else d
/-- GRAPH_SUBMIT. -/
def execGraphSubmit (tag tasks : Nat) (s : State) : Host.Outcome State Fault Refusal := s.onDev (Wf.graphSubmit tag tasks) (graphSubmit tag tasks)

/-! ## Dispatch (R274) -/

/-- R274: a task goes before another: its graph was submitted earlier, or its index is lower. -/
def Dev.goesBefore (d : Dev) (t u : Nat × Nat) : Bool :=
  let o (s : Nat) : Nat := ((d.graph s).map Graph.order).getD 0
  decide (o t.1 < o u.1) || (t.1 == u.1 && decide (t.2 < u.2))
/-- R274: a STOP may start beside a START that waits for boundary 0. -/
def Dev.stopsStart (d : Dev) (slot idx : Nat) : Bool :=
  d.taskOp slot idx == 5 && ((d.runningTasks.filter (fun t => runOp (d.taskOp t.1 t.2))).all (fun t =>
    d.taskOp t.1 t.2 == 4 && d.rce.waits.contains (t.1, t.2, .boundary0)))
/-- R274: room for a task: a data mover for a COPY, a management core for any other; and a run task runs alone and in its
turn. -/
def Dev.mayRun (d : Dev) (slot idx : Nat) : Bool :=
  let op := d.taskOp slot idx
  let copies := d.runningTasks.filter (fun t => d.taskOp t.1 t.2 == 11)
  let runs := d.runningTasks.filter (fun t => runOp (d.taskOp t.1 t.2))
  if op = 11 then decide (copies.length < 8)
  else if runs != [] && d.stopsStart slot idx then true
  else decide (d.runningTasks.length - copies.length < 4) && (!runOp op || (runs == [] &&
    d.allTasks.all (fun t => !(runOp (d.taskOp t.1 t.2) && d.taskReady t.1 t.2 && d.goesBefore t (slot, idx)))))
/-- TASK_DISPATCH (R274): a task whose predecessors are final is skipped, or runs where there is room. -/
def taskDispatch (slot idx : Nat) (d : Dev) : Dev :=
  if d.rce.dead || d.taskStatus slot idx != tsWaiting || !d.predsFinal slot idx then d
  else if !d.predsGood slot idx then d.finish slot idx tsSkipped 0
  else if d.mayRun slot idx then d.setTask slot idx tsRunning 0
  else d
/-- TASK_DISPATCH. -/
def execTaskDispatch (slot idx : Nat) (s : State) : Host.Outcome State Fault Refusal := s.onDev (Wf.taskDispatch slot idx) (taskDispatch slot idx)
/-- GRAPH_ABORT (R275, R286): the tasks of a graph that have not started get ABORTED. -/
def graphAbort (slot : Nat) (d : Dev) : Dev :=
  match d.graph slot with
  | none => d
  | some g =>
    if !d.ready || g.status.all (fun x => decide (2 ≤ x)) then d
    else (d.putGraph slot { g with aborting := true }).each ((upTo g.tasks).filter (fun i => d.taskStatus slot i == tsWaiting))
      (fun d i => d.finish slot i tsAborted 0)
/-- GRAPH_ABORT. -/
def execGraphAbort (slot : Nat) (s : State) : Host.Outcome State Fault Refusal := s.onDev (Wf.graphAbort slot) (graphAbort slot)
/-- TASK_NOP (R276). -/
def taskNop (slot idx : Nat) (d : Dev) : Dev := if d.taskBegins slot idx 12 then d.finish slot idx tsDone 0 else d
/-- TASK_NOP: done at once. -/
def execTaskNop (slot idx : Nat) (s : State) : Host.Outcome State Fault Refusal := s.onDev (Wf.taskNop slot idx) (taskNop slot idx)

/-! ## ARM: what is checked (R210, R270, R351, R358) -/

/-- R351: an INPUT port's payload is absent, or too long for the port's version. -/
def Dev.payloadBad (d : Dev) (p : Nat) : Bool :=
  let v := if d.pstate p = psActive then d.version p else d.versionMax p
  let n := d.fget (PL_CFG_PAYLOAD_BYTES p)
  d.role p == roleInput && (n == 0 || decide (maxPayload v (d.fget RIND_FRAME_PERIOD_PERIOD_TICKS) < n))
/-- R358: a port that sends RESULT frames breaks a condition. -/
def Dev.resultBad (d : Dev) (p : Nat) : Bool :=
  let s := d.fget (PL_CFG_RESULT_STREAM p)
  d.flag (PL_CFG_RESULT_EN p) && !(d.role p == rolePeer && decide (2 ≤ d.versionMax p) && d.flag (RIND_STREAM_CFG_ENABLED s) && d.policy s == 2)
/-- What ARM refuses before it changes anything: RESOURCES, then PORT_ROLE, then LOOKBACK_DEPTH (R210). -/
def Dev.armErr (d : Dev) (im : Image) : Option LoadErr :=
  let rs := im.recs d.rce.placed
  if d.flag RCE_STATUS_CAPACITY_LOST then some (7, 0, 0)
  else if (upTo 64).any (fun p => d.payloadBad p || d.resultBad p) then some (0x17, 0, 0)
  else checkDepth im d.vatWords (fun p => d.fget (PL_CFG_PAYLOAD_BYTES p)) ((trialOf rs).lbWindows (recUnits rs))
/-- R276: a table of 16-byte entries at an address: its count and entries. -/
def Dev.tableAt (d : Dev) (a : Nat) : List (List Nat) := if a = 0 then [] else (upTo (d.leMem a 8)).map (fun i => d.bytes (a + 8 + 16 * i) 16)
/-- A table lies in LPDDR5X. -/
def Dev.tableOk (d : Dev) (a : Nat) : Bool := a == 0 || (inLpddr a 8 && inLpddr a (8 + 16 * d.leMem a 8))

/-! ## ARM: banks (R257, R266) -/

/-- R266: the bank of every slot: the default, or the one the override table names last. -/
def Image.armBanks (im : Image) (ovr : List (List Nat)) : List (SlotEntry × Nat) :=
  im.slots.map (fun e => (e, (ovr.filter (fun o => leAt o 0 2 == e.slot)).foldl (fun _ o => leAt o 8 8) e.bank))
/-- R257: an override names a slot the image lacks, or a slot's bank does not fit. -/
def Dev.banksErr (d : Dev) (im : Image) (ovr : List (List Nat)) : Option LoadErr :=
  if ovr.any (fun o => !im.slots.any (fun e => e.slot == leAt o 0 2)) || (im.armBanks ovr).any (fun e => !d.bankFits e.2 e.1.layout) then
    some (0x1A, 0, 0)
  else none
/-- A bank is entered as installed in a slot. -/
def Dev.putInstalled (d : Dev) (slot : Nat) (e : BankEntry) : Dev := { d with rce := { d.rce with installed := pput slot e d.rce.installed } }
/-- R266: banks installed slot by slot, up to the first whose install fails. -/
def Dev.installAll (d : Dev) (im : Image) : List (SlotEntry × Nat) → Dev × Option LoadErr
  | [] => (d, none)
  | e :: l =>
    match d.bank? e.2 with
    | none => (d, some (0x1A, 0, 0))
    | some b =>
      let r := d.installBank im b
      if r.2 then (r.1.putInstalled e.1.slot b).installAll im l else (r.1, some (0x1A, 0, 0))

/-! ## ARM: state, seeds and the vat (R98, R185, R201, R204, R266) -/

/-- What a tile's registers keep when ARM sets its state: configuration, failure and counters. -/
def keepAtArm (off : Nat) : Nat :=
  match fabOffset off with
  | some w =>
    let t := (w - 0x2000) % 0x800
    if 0x2000 ≤ w ∧ w < 0xA800 then (if t = 0x30 then 2 else if t < 0x28 ∨ (0x38 ≤ t ∧ t < 0x50) then 2 ^ 64 - 1 else 0) else 2 ^ 64 - 1
  | none => 2 ^ 64 - 1
/-- A record of a VU's S2 registers, whose state ARM sets apart from their counters. -/
def RegRec.isS2 (r : RegRec) : Bool := decide (0xC000 ≤ r.off) && decide (r.off < 0xE000) && decide (0x40 ≤ r.off % 0x1000) && decide (r.off % 0x1000 < 0x80)
/-- R98: the lowest-numbered valid descriptor. -/
def firstDesc (valid : Nat) : Nat := (onesOf 4 valid).headD 0
/-- R98, R185: the state of a physical unit of a figure that its records do not carry. -/
def Dev.armUnit (d : Dev) (p : Nat) : Dev :=
  match unitClass p with
  | 0 => (d.setBad p []).fset (BLK_TILE_STATE_NEXT_DESC (unitWhere p) (unitIndex p)) (firstDesc (d.fget (BLK_TILE_CFG_DESC_VALID (unitWhere p) (unitIndex p))))
  | 2 => d
  | 3 => d
  | _ => ({ d with fab := { d.fab with vus := pdel p d.fab.vus } }).each (upTo 4) (fun d k => d.slotImage (vuWindow p) k)
/-- R201: an address of the image area or spill area of a block's MU. -/
def inMu (a : Nat) : Bool := decide (blkMemBase ≤ a) && decide (a < blkMemBase + 0x20000000) && decide (a % 0x200000 < 0x80000)
/-- R201: the image area and the spill area of every MU hold zeros of good parity. -/
def Dev.zeroMus (d : Dev) : Dev :=
  { d with mem := d.mem.filter (fun e => !inMu e.1), fab := { d.fab with badLocs := d.fab.badLocs.filter (fun e => unitClass e.1 != 2) } }
/-- R201: the image's words of a figure's MUs, where one of its placements has them. -/
def Dev.muData (d : Dev) (f : Figure) (k : Nat) : Dev :=
  d.each f.muData (fun d r => d.poke (muWordAddr (f.block k r.block) r.first) (r.words.flatMap (leBytes 64)))
/-- R266, step 3: the state of a figure. -/
def Dev.armFigure (d : Dev) (f : Figure) (k : Nat) : Dev :=
  let rs := f.records k
  let plan := d.planNow rs
  let tiles := (plan.map Prod.snd).filter (fun u => unitClass u == 0)
  let d := d.keepBits (fun off => if tiles.any (fun u => inUnit u off) then keepAtArm off else 2 ^ 64 - 1)
  let d := d.each (ofClass 2 (plan.map Prod.snd)) (fun d u => d.fsets [(BLK_MU_AGU_ADDR_PTR (unitWhere u) 0, 0), (BLK_MU_AGU_ADDR_PTR (unitWhere u) 1, 0)])
  let d := d.each (rs.filter (fun r => !r.isS2)) (fun d r => d.putRec plan r)
  (d.each (plan.map Prod.snd) Dev.armUnit).muData f k
/-- R266, step 4: a seed record applied to a target that SEEDS lists, within its mask. Targets name blocks as in placement 0. -/
def Dev.seed (d : Dev) (im : Image) (c : List Nat) : Dev :=
  let r : RegRec := ⟨leAt c 0 2, leAt c 2 2, leAt c 8 8⟩
  match im.seeds.find? (fun e => e.block == r.block && e.off == r.off) with
  | none => d
  | some e =>
    let moved : RegRec := { r with block := im.movedBlock d.rce.placed r.block (fun x => x.unit? == r.unit?) }
    let off := moved.place (d.planNow [moved])
    let m := e.mask &&& recMask r.off
    let old := (d.rget off).toNat
    d.rset off (BitVec.ofNat 64 ((old ^^^ (old &&& m)) ||| (r.value &&& m)))
/-- R204: the INPUT ports of the image, ascending. -/
def Image.inputs (im : Image) : List Nat := (im.ports.zipIdx.filter (fun e => e.1.role == roleInput)).map Prod.snd
/-- R204: the slot size of a port, in words. -/
def Dev.slotWords (d : Dev) (p : Nat) : Nat := ceilDiv (d.fget (PL_CFG_PAYLOAD_BYTES p)) 64
/-- R204: the vat divided among the INPUT ports. -/
def Dev.divideVat (d : Dev) (im : Image) : Dev :=
  let r := ringWords d.vatWords im.inputs.length
  let d := d.fsets [(VAT_STATUS_RINGS_VALID, 1), (VAT_STATUS_RING_WORDS, r)]
  let d := d.each (upTo 64) (fun d p => d.rset (VAT_RING p) 0#64)
  d.each im.inputs.zipIdx (fun d e => d.fsets [(VAT_RING_INPUT e.1, 1), (VAT_RING_RING_INDEX e.1, e.2),
    (VAT_RING_SLOT_WORDS e.1, d.slotWords e.1), (VAT_RING_DEPTH_FRAMES e.1, r / max 1 (d.slotWords e.1))])
/-- R265, R266, step 6, and what a new run begins with (R43, R49, R277, R306, R353). -/
def Dev.armed (d : Dev) (ctx : Nat) (seeds : List Nat) : Dev :=
  let d := d.each (upTo 8) (fun d s => d.setHorizon s)
  let d := d.each (upTo 64) (fun d p => d.fset (PL_SEQ_SEQ_VALID p) 0)
  let d := { d with
    rce := { d.rce with seeds := seeds, pendingCtx := none }
    rind := { d.rind with stamps := d.rind.stamps.map (fun e : Nat × Stamp => (e.1, { e.2 with valid := false })), schedClosed := false }
    fab := { d.fab with agus := [], dq := [] } }
  let d := d.fsets [(RCE_RUN_CTX_RUN_CTX, ctx), (RCE_RUN_CTX_PENDING, 0), (RCE_STATUS_SEGMENTS, 0), (RIND_FRAME_NUMBER_VALID, 0)]
  ((d.register false 0).setRun stArmed).domainsFollow

/-! ## ARM -/

/-- R257: the weight stores that a failed install has begun hold nothing that may be used. -/
def Dev.unsetAs (d e : Dev) : Dev := { d with fab := { d.fab with unset := e.fab.unset } }
/-- R266, steps 2 to 6, and the relocation left to ARM (R269), once every memory is awake: the device, and the code where
ARM fails. A failure leaves the device as it was before step 2, but for weight stores of a failed install (R257) and, after
step 5 has begun, the captures it has ended. -/
def Dev.armSteps (d : Dev) (im : Image) (ctx seedAddr overAddr : Nat) : Dev × Option LoadErr :=
  let m := d.relocate [] []
  match m.2 with
  | some u => (m.1, some (7, u, 0))
  | none =>
    let d := m.1
    let ovr := d.tableAt overAddr
    match d.banksErr im ovr with
    | some e => (d, some e)
    | none =>
      let b := d.installAll im (im.armBanks ovr)
      match b.2 with
      | some e => (d.unsetAs b.1, some e)
      | none =>
        if im.inputs.any (fun p => decide (ringWords d.vatWords im.inputs.length < d.slotWords p)) then (d.curdEnds, some (0x19, 0, 0))
        else
        let d := b.1.zeroMus.each (im.figures.zip b.1.rce.placed) (fun d e => d.armFigure e.1 e.2)
        let d := (d.each (d.tableAt seedAddr) (fun d c => d.seed im c)).curdEnds
        (((d.divideVat im).each (upTo 16) Dev.clampRule).armed ctx ((d.tableAt seedAddr).flatMap id), none)
/-- ARM goes on once every memory is awake. -/
def Dev.armNow (d : Dev) (slot idx : Nat) : Dev :=
  match d.rce.image with
  | none => d.finish slot idx tsWrongState 0
  | some im =>
    let r := d.armSteps im (d.taskArg slot idx 0 4) (d.taskArg slot idx 8 8) (d.taskArg slot idx 0x10 8)
    match r.2 with
    | some e => (r.1.failWith slot idx e).domainsFollow
    | none => (r.1.loadResult (0, 0, 0)).finish slot idx tsDone 0
/-- R224: an ARM that waits for memories goes on where all are awake. -/
def Dev.armWaiting (d : Dev) : Dev := if d.allAwake then d.each (d.waiters .awake) (fun d t => d.armNow t.1 t.2) else d
/-- ARM (R266, R510): refused at once, or every memory it needs is woken first. -/
def arm (slot idx : Nat) (d : Dev) : Dev :=
  if !d.taskBegins slot idx 3 then d
  else if (d.runState ≠ stLoaded ∧ d.runState ≠ stDrained) ∨ d.flag PWR_STATUS_HOT_LOCK then d.finish slot idx tsWrongState 0
  else if !d.tableOk (d.taskArg slot idx 8 8) || !d.tableOk (d.taskArg slot idx 0x10 8) then d.finish slot idx tsBadArgument 0
  else
    match d.rce.image.bind d.armErr with
    | some e => d.failWith slot idx e
    | none => ((d.await slot idx .awake).domainsFollow).armWaiting
/-- ARM. -/
def execArm (slot idx : Nat) (s : State) : Host.Outcome State Fault Refusal := s.onDev (Wf.arm slot idx) (arm slot idx)
/-- MEMORY_WAKE (R224): the memories of a fabric domain, or of vat die `mem` − 16, are awake; a waiting ARM may go on. -/
def memoryWake (mem : Nat) (d : Dev) : Dev := (d.wake mem).armWaiting
/-- MEMORY_WAKE. -/
def execMemoryWake (mem : Nat) (s : State) : Host.Outcome State Fault Refusal := s.onDev (Wf.memoryWake mem) (memoryWake mem)

/-! ## START and STOP (R269, R276, R308) -/

/-- START. -/
def start (slot idx : Nat) (d : Dev) : Dev :=
  if !d.taskBegins slot idx 4 then d
  else if d.runState ≠ stArmed then d.finish slot idx tsWrongState 0
  else if 1 < d.taskArg slot idx 10 1 then d.finish slot idx tsBadArgument 0
  else (d.await slot idx .boundary0).startRun (d.taskArg slot idx 0 8) (d.taskArg slot idx 8 2) (d.taskArg slot idx 10 1 == 1)
/-- START (R308): it is done when boundary 0 has passed. -/
def execStart (slot idx : Nat) (s : State) : Host.Outcome State Fault Refusal := s.onDev (Wf.start slot idx) (start slot idx)
/-- STOP. -/
def stop (slot idx : Nat) (d : Dev) : Dev :=
  if !d.taskBegins slot idx 5 then d
  else if d.runState = stArmed ∨ d.runState = stRunning ∨ d.runState = stBreak then (d.await slot idx .drained).stopRun 4
  else d.finish slot idx tsWrongState 0
/-- STOP (R269): it is done when the run is DRAINED. -/
def execStop (slot idx : Nat) (s : State) : Host.Outcome State Fault Refusal := s.onDev (Wf.stop slot idx) (stop slot idx)

/-! ## Segment breaks (R267, R268, R271) -/

/-- SEGMENT_BREAK: the task holds the break, and requests it where there is none. -/
def segmentBreak (slot idx : Nat) (d : Dev) : Dev :=
  if !d.taskBegins slot idx 6 then d
  else if d.runState ≠ stRunning ∧ d.runState ≠ stBreak then d.finish slot idx tsWrongState 0
  else
    let d := { d with rce := { d.rce with taskHolds := d.rce.taskHolds + 1 } }
    let d := if d.runState = stRunning then (d.setRun stBreak).segCause 1 else d
    if d.rce.broken then d.finish slot idx tsDone 0 else d.await slot idx .breakReached
/-- SEGMENT_BREAK (R267): it is done when the break is reached. -/
def execSegmentBreak (slot idx : Nat) (s : State) : Host.Outcome State Fault Refusal := s.onDev (Wf.segmentBreak slot idx) (segmentBreak slot idx)
/-- SEGMENT_OPEN: every task hold is released; while a weight store holds a failed install the task fails. -/
def segmentOpen (slot idx : Nat) (d : Dev) : Dev :=
  if !d.taskBegins slot idx 7 then d
  else if d.runState ≠ stBreak then d.finish slot idx tsWrongState 0
  else
    let d := { d with rce := { d.rce with taskHolds := 0 } }
    if d.fab.unset ≠ [] then d.finish slot idx tsFailed 0 else d.await slot idx .segmentOpen
/-- SEGMENT_OPEN (R268): it is done at the first boundary of the new segment. -/
def execSegmentOpen (slot idx : Nat) (s : State) : Host.Outcome State Fault Refusal := s.onDev (Wf.segmentOpen slot idx) (segmentOpen slot idx)
/-- R257, R271: the bank an INSTALL names, where it fits the slot. -/
def Dev.installable (d : Dev) (im : Image) (slot bank : Nat) : Option BankEntry :=
  match im.slots.find? (fun e => e.slot == slot) with
  | none => none
  | some e => if d.bankFits bank e.layout then d.bank? bank else none
/-- INSTALL: in a break that has been reached, a bank goes into the stores of a slot, under a new RUN_CTX. -/
def install (slot idx : Nat) (d : Dev) : Dev :=
  if !d.taskBegins slot idx 8 then d
  else if d.runState ≠ stBreak then d.finish slot idx tsWrongState 0
  else if d.taskArg slot idx 0x10 4 = d.fget RCE_RUN_CTX_RUN_CTX then d.finish slot idx tsBadArgument 0
  else
    match d.rce.image with
    | none => d.finish slot idx tsWrongState 0
    | some im =>
      match d.installable im (d.taskArg slot idx 0 2) (d.taskArg slot idx 8 8) with
      | none => d.finish slot idx tsFailed 0x1A
      | some b =>
        if !d.rce.broken then d
        else
          let ctx := d.taskArg slot idx 0x10 4
          let w := d.taskArg slot idx 0 2
          let r := d.installBank im b
          if r.2 then
            let e := r.1.putInstalled w b
            (({ e with rce := { e.rce with pendingCtx := some ctx } }).fset RCE_RUN_CTX_PENDING ctx).finish slot idx tsDone 0
          else r.1.finish slot idx tsFailed 0x1A
/-- INSTALL (R271). -/
def execInstall (slot idx : Nat) (s : State) : Host.Outcome State Fault Refusal := s.onDev (Wf.install slot idx) (install slot idx)

end Sys2Proof.Machine
end

