-- ==== Sys2Proof/Machine/March.lean ====
section
/-!
DEFINITION. The service tasks REGISTER_BANK (R256, R257), COPY (R202, R219, R276) and MARCH (R225 to R227), and the repair of
memories by spare rows.
-/

namespace Sys2Proof.Machine

open Sys2Proof

/-! ## REGISTER_BANK and COPY -/

/-- R257: a bank enters the library index in place of the one of its number. -/
def Dev.enterBank (d : Dev) (a : Nat) : Dev :=
  let n := d.bankLength a
  let e : BankEntry := { bank := d.leMem (a + 8) 8, addr := a, length := n, digest := d.bankDigest a n, layout := d.layoutDigest a }
  { d with rce := { d.rce with library := d.rce.library.filter (fun x : BankEntry => x.bank != e.bank) ++ [e] } }
/-- REGISTER_BANK. -/
def registerBank (slot idx : Nat) (d : Dev) : Dev :=
  let a := d.taskArg slot idx 0 8
  if !d.taskBegins slot idx 9 then d
  else if !(d.inRegion [3] a 64 && d.bankOk a && d.inRegion [3] a (d.bankLength a)) then d.finish slot idx tsFailed 2
  else if (d.bank? (d.leMem (a + 8) 8)).isNone && decide (1024 ≤ d.rce.library.length) then d.finish slot idx tsFailed 1
  else (d.enterBank a).finish slot idx tsDone 0
/-- REGISTER_BANK (R257, R276). -/
def execRegisterBank (slot idx : Nat) (s : State) : Host.Outcome State Fault Refusal := s.onDev (Wf.registerBank slot idx) (registerBank slot idx)

/-- R202, R219: every byte of a range may be read, or written. -/
def Dev.rangeOk (d : Dev) (write : Bool) (a n : Nat) : Bool := decide (n ≤ lpSize) && (upTo n).all (fun i => d.dpRefuses write (a + i) == 0)
/-- COPY: the bytes of the source as they stood. Words of the vat that failed every read are zeros (R206, log entry 144). -/
def copy (slot : Nat) (run : CopyRun) (d : Dev) : Dev :=
  let idx := run.idx
  let a := d.taskArg slot idx 0 8
  let b := d.taskArg slot idx 8 8
  let n := d.taskArg slot idx 0x10 8
  if !d.taskBegins slot idx 11 then d
  else if !(d.rangeOk false a n && d.rangeOk true b n) then d.finish slot idx tsBadArgument 0
  else
    let lost := ((upTo (n / 64)).filter (fun k => run.zeroed.contains k && inVat (a + 64 * k)))
    let d := (d.copySpan d a b n).when (inVat a || inVat (a + n - 1)) (fun d => d.vatRead run.rereads lost.length)
    let d := { d with out := d.out ++ d.invalidated b n }
    (d.each lost (fun d k => d.zeroSpan (b + 64 * k) 64)).finish slot idx tsDone 0
/-- COPY (R276). -/
def execCopy (slot : Nat) (run : CopyRun) (s : State) : Host.Outcome State Fault Refusal := s.onDev (Wf.copy slot run) (copy slot run)

/-! ## March tests (R225 to R227) -/

/-- R225: the memory of a march: a tile, a VU, an MU, a spare VU or a vat die. -/
def marchable (u : Nat) : Bool :=
  match unitClass u with
  | 0 => decide (unitWhere u < 256) && decide (unitIndex u < 17)
  | 1 => isVu u
  | 2 => unitIndex u == 0
  | 7 => isVu u
  | 15 => unitWhere u == 0 && decide (unitIndex u < 4)
  | _ => false
/-- R225: a destructive march writes zeros with good parity. -/
def Dev.marchZero (d : Dev) (u : Nat) : Dev :=
  let b := unitWhere u
  let d := if unitClass u = 15 then d else d.setBad u []
  match unitClass u with
  | 0 => d.keepBits (fun off => if inUnit u off then keepAtArm off else 2 ^ 64 - 1)
  | 2 => d.zeroSpan (blkMem b) 0x80000
  | 15 => d.eraseDie (unitIndex u)
  | _ => (d.zeroSpan (vuStore u) 0x10000).keepBits (fun off =>
      if inUnit u off && decide (0x100 ≤ off % 0x1000) then 0 else 2 ^ 64 - 1)
/-- R226: the repair cache of a memory takes the rows a march failed. -/
def Dev.cacheRows (d : Dev) (key : Nat) (rows : List Nat) : Dev :=
  { d with pwr := { d.pwr with repair := padj key [] (fun l => l ++ (rows.eraseDups.filter (fun r => !l.contains r))) d.pwr.repair } }
/-- R226: the repair map of a memory. -/
def Dev.repairMap (d : Dev) (key : Nat) : List Nat := pgetD d.pwr.repair key []
/-- R226, R227: an MU's rows are remapped; with more than 16 it is marked failed and its loss is ledgered. -/
def Dev.repairMu (d : Dev) (u : Nat) (rows : List Nat) : Dev :=
  let d := d.cacheRows u rows
  let n := (d.repairMap u).length
  let d := d.fset (BLK_MU_STATUS_ROWS_MAPPED (unitWhere u)) (min n 16)
  if n ≤ 16 ∨ d.flag (BLK_MU_STATUS_SPARES_EXHAUSTED (unitWhere u)) then d
  else (((d.fset (BLK_MU_STATUS_SPARES_EXHAUSTED (unitWhere u)) 1).showFailed u).markFailed u).selfReport 0x12 u 0
/-- The key of a vat bank group in the repair cache, as its locus identifier (R439). -/
def groupKey (g : Nat) : Nat := 0xF00000 + g % 64 * 0x1000 + g / 64
/-- R226, R227: rows of a vat die, numbered 1,024 × group + row, are remapped; a group with more than 16 goes. -/
def Dev.repairDie (d : Dev) (k : Nat) (rows : List Nat) : Dev :=
  d.each ((rows.map (fun r => r / 1024 % 64)).eraseDups) (fun d j =>
    let g := 64 * k + j
    let d := d.cacheRows (groupKey g) ((rows.filter (fun r => r / 1024 % 64 == j)).map (fun r => r % 1024))
    if (d.repairMap (groupKey g)).length ≤ 16 ∨ !d.usableGroups.contains g then d else d.removeGroup g)
/-- R226: the words of an MU that failed in remapped rows take their image values: those whose parity was known to fail, and
those that failed as the march copied their rows. -/
def Dev.restoreRows (d : Dev) (u : Nat) (rows words : List Nat) : Dev :=
  let ws := (((d.badLocs u).map Prod.fst ++ words).eraseDups).filter (fun w => rows.contains (w / 8) && decide (w < 7680))
  match d.rce.image.bind (fun im => (im.figures.zip d.rce.placed).findSome? (fun e =>
      (e.1.config.find? (fun r => r.unit? == some (unitId 2 r.block 0) && e.1.block e.2 r.block == unitWhere u)).map (fun r => (e.1, r.block)))) with
  | none => d.mend u ws
  | some e => (d.each ws (fun d w => (d.poke (muWordAddr (unitWhere u) w) (leBytes 64 (e.1.muImage e.2 w))).mend u [w])).lostIf (ws != []) u
/-- R225 to R227: what a march of a memory finds and repairs. -/
def Dev.marchDone (d : Dev) (u : Nat) (destructive : Bool) (rows words : List Nat) : Dev :=
  let d := if destructive then d.marchZero u else d
  let d := if destructive then { d with pwr := { d.pwr with needMarch := d.pwr.needMarch.filter (fun x => x != u) } } else d
  match unitClass u with
  | 2 => ((d.repairMu u rows).restoreRows u rows (if destructive then [] else words)).showUp (domainOf (unitWhere u))
  | 15 => d.repairDie (unitIndex u) rows
  | 7 => (if rows = [] then d else d.loseUnused u).showUp (unitWhere u)
  | _ => (if rows = [] then d else d.loseUnused u).showUp (domainOf (unitWhere u))
/-- R225: a loaded figure uses the memory: it serves a unit of a placement; of the vat, any image with an INPUT port does. -/
def Dev.marchUsed (d : Dev) (u : Nat) : Bool :=
  match d.rce.image with
  | none => false
  | some im => if unitClass u = 15 then im.inputs != [] else (d.figuresNow im).any (fun e => (d.planNow (e.1.1.records e.1.2)).any (fun x => x.2 == u))
/-- R225: the mode of a march is allowed now. -/
def Dev.marchAllowed (d : Dev) (u mode : Nat) : Bool :=
  if mode = 0 then d.runState == stIdle || !d.marchUsed u else d.runState != stRunning && d.runState != stQuiescing
/-- MARCH. -/
def march (slot idx : Nat) (x : MarchFails) (d : Dev) : Dev :=
  let u := d.taskArg slot idx 0 4
  let mode := d.taskArg slot idx 4 1
  if !d.taskBegins slot idx 10 then d
  else if !(decide (u < 2 ^ 24) && marchable u && decide (mode ≤ 1)) then d.finish slot idx tsBadArgument 0
  else if !d.marchAllowed u mode then d.finish slot idx tsWrongState 0
  else (d.marchDone u (mode == 0) x.rows x.words).finish slot idx tsDone x.rows.eraseDups.length
/-- MARCH (R225). -/
def execMarch (slot idx : Nat) (x : MarchFails) (s : State) : Host.Outcome State Fault Refusal := s.onDev (Wf.march slot idx x) (march slot idx x)

end Sys2Proof.Machine
end

