-- ==== Sys2Proof/Machine/Boot.lean ====
section
/-!
DEFINITION. The reset levels (R528 to R530) and start-up (R542, R543, R549), with the pins' part in them (R538).
-/

namespace Sys2Proof.Machine

open Sys2Proof

/-! ## Resets (R417, R529, R530) -/

/-- R529: what every reset keeps: flash (the firmware area, the owner area, the repair cache) and THERM_TRIP_N, and the model's
own log and counter. -/
def Dev.afterReset (d : Dev) : Dev :=
  { Dev.reset with
    flash := d.flash
    owner := d.owner
    boot := { torn := d.boot.torn || d.fget SEC_UPDATE_UPDATE_STATE == 2 }
    pins := { d.pins with smbAlert := false }
    pwr := { repair := d.pwr.repair }
    freeIdx := d.freeIdx
    out := d.out }
/-- R529: a cold reset: LPDDR5X contents are lost and THERM_TRIP_N is released. -/
def coldReset (d : Dev) : Dev :=
  let e := d.afterReset
  { e with pins := { e.pins with thermTrip := false } }
/-- COLD_RESET (R529). -/
def execColdReset (s : State) : Host.Outcome State Fault Refusal := s.onDev Wf.coldReset coldReset
/-- R220, R529, R530: a device reset: LPDDR5X with its region table and the bank library is kept where it is in self-refresh;
the regions that the loader made are freed. -/
def Dev.resetDevice (d : Dev) : Dev :=
  let e := d.afterReset
  if !d.flag LPX_STATUS_SELF_REFRESH then e
  else
    let e := { e with
      mem := d.mem.filter (fun c => c.1 < lpSize)
      boot := { e.boot with kept := true }
      rce := { e.rce with library := d.rce.library } }
    e.each ((upTo 16).drop 3) (fun e k => if d.rce.regions.contains k then e else e.rset (LPX_REGION k) (d.rget (LPX_REGION k)))
/-- R417: firmware places LPDDR5X in self-refresh. -/
def Dev.selfRefresh (d : Dev) : Dev := if d.dom 28 == dsOn && !d.rce.dead then d.setDomain 28 dsLow else d
/-- What a device reset makes of the device: a pin reset keeps LPDDR5X only if it is in self-refresh; before a Function Level
Reset or a CXL Reset without memory clear firmware places it there. -/
def Dev.resetBy (d : Dev) : ResetSource → Dev
  | .resetN => d.resetDevice
  | .perstN => d.resetDevice
  | .cxl true => d.selfRefresh.resetDevice
  | .cxl false => (d.fset LPX_STATUS_SELF_REFRESH 0).resetDevice
/-- DEVICE_RESET: RESET_N stays low until it rises. -/
def deviceReset (src : ResetSource) (x : Dev × Jtag) : Dev × Jtag := (x.1.resetBy src, { x.2 with resetLow := x.2.resetLow || src == .resetN })
/-- DEVICE_RESET (R417, R529, R530). -/
def execDeviceReset (src : ResetSource) (s : State) : Host.Outcome State Fault Refusal := s.onPort (Wf.deviceReset src) (deviceReset src)
/-- R538: the instructions that act only while RESET_N is low. -/
def TapInstr.needsReset : TapInstr → Bool
  | .bypass => false
  | .idcode => false
  | .samplePreload => false
  | .extest => true
  | .clamp => true
  | .highz => true
  | .acExtest => true
/-- RESET_N_RISE. -/
def resetNRise (x : Dev × Jtag) : Dev × Jtag :=
  (x.1, { x.2 with resetLow := false, tap := if x.2.tap.needsReset then .bypass else x.2.tap })
/-- RESET_N_RISE (R530, R538). -/
def execResetNRise (s : State) : Host.Outcome State Fault Refusal := s.onPort Wf.resetNRise resetNRise

/-! ## The steps of start-up (R542, R543) -/

/-- R543: the first error is recorded. -/
def Dev.bootErr (d : Dev) (code : Nat) : Dev := if d.fget SEC_BOOT_BOOT_ERR = 0 then d.fset SEC_BOOT_BOOT_ERR code else d
/-- R543: start-up halts. -/
def Dev.bootHalt (d : Dev) (code : Nat) : Dev :=
  let d := d.bootErr code
  { d with boot := { d.boot with halted := true } }
/-- R542, R570: a step ends, so many µs after the Molward die left reset. -/
def Dev.stepEnds (d : Dev) (x : BootInput) (k : Nat) : Dev :=
  let us := x.ends.getD (k - 1) 0
  ((d.advTo (d.boot.start + 800 * us)).fset (SEC_STEP_END_END_US k) us).fset SEC_BOOT_BOOT_STEP (k + 1)
/-- R219: regions 0 to 2 take the sizes that firmware gives them; together they are the top 1 GiB. -/
def Dev.firmwareRegions (d : Dev) : Dev :=
  let a := 1 + Config.firmwareMib 0 % 1022
  let b := 1 + Config.firmwareMib 1 % (1023 - a)
  d.fsets [(LPX_REGION_KIND 0, 5), (LPX_REGION_BASE_MIB 0, firmwareMib), (LPX_REGION_SIZE_MIB 0, a),
    (LPX_REGION_KIND 1, 6), (LPX_REGION_BASE_MIB 1, firmwareMib + a), (LPX_REGION_SIZE_MIB 1, b),
    (LPX_REGION_KIND 2, 8), (LPX_REGION_BASE_MIB 2, firmwareMib + a + b), (LPX_REGION_SIZE_MIB 2, 1024 - a - b)]
/-- R220, R498, R542: LPDDR5X has trained, its contents kept or not. -/
def Dev.lpTrained (d : Dev) : Dev :=
  (d.setDomain 28 dsOn).fsets [(LPX_STATUS_PKG_TRAINED, 0x1F), (LPX_STATUS_SR_KEPT, b2n d.boot.kept)] |>.firmwareRegions
/-- R418, R542: whether the link is up when firmware looks for it. -/
def Dev.bootLink (d : Dev) (x : BootInput) : Dev := if x.linkUp then cxlLinkUp x.link d else d.bootErr 10
/-- R549: recovery mode. -/
def Dev.recover (d : Dev) (x : BootInput) (code : Nat) : Dev :=
  let d := (d.bootErr code).fsets [(SEC_STATUS_RECOVERY, 1), (GLB_STATUS_RECOVERY, 1)]
  let d := (d.setDomain 28 dsOn).setDomain 29 dsOn
  if x.lpOk then
    let d := d.lpTrained.signal 3
    if x.linkUp then cxlLinkUp x.link d else d
  else
    let d := d.fset SEC_BOOT_BOOT_ERR 9
    { d with boot := { d.boot with halted := true } }
/-- R225 to R227, R542: the boot march of every memory and what it repairs: the rows it fails join the repair cache. -/
def Dev.bootMarch (d : Dev) (x : BootInput) : Dev :=
  let rowsOf (u : Nat) : List Nat := (x.rows.filter (fun e => e.1 == u)).flatMap Prod.snd
  let d := { d with mem := d.mem.filter (fun c => c.1 < lpSize) }
  let d := d.each (upTo 256) (fun d b => let u := unitId 2 b 0
    if rowsOf u == [] && d.repairMap u == [] then d else d.repairMu u (rowsOf u))
  let d := d.each (upTo 4) (fun d k =>
    let cached := (upTo 64).flatMap (fun j => (d.repairMap (groupKey (64 * k + j))).map (fun r => 1024 * j + r))
    d.repairDie k (rowsOf (unitId 15 0 k) ++ cached))
  let d := d.each (x.rows.filter (fun e => e.2 != [] && (unitClass e.1 == 0 || unitClass e.1 == 1 || unitClass e.1 == 7) && marchable e.1))
    (fun d e => (d.showFailed e.1).markFailed e.1)
  let d := { d with pwr := { d.pwr with needMarch := [], up := true } }
  (d.each (upTo 16) Dev.showUp).showSpares.fset VAT_STATUS_USABLE_WORDS d.vatWords
/-- R542: steps 5 to 10, from the switching on of the domains to TU_PORT_COMP. -/
def Dev.bootRest (d : Dev) (x : BootInput) : Dev :=
  let d := (d.each ([28, 29] ++ (upTo 4).map (fun k => 16 + k) ++ upTo 16) (fun d k => d.setDomain k dsOn)).stepEnds x 5
  let d := (d.stepEnds x 6).bootMarch x
  let d := (d.each (upTo 20) (fun d k => if k < 16 then d.retain k false else d.wake k)).stepEnds x 7
  let d := d.each (upTo 20) Dev.domainFollows
  if !x.lpOk then d.bootHalt 9
  else
    let d := (d.lpTrained.stepEnds x 8).bootLink x
    let d := d.stepEnds x 9
    let d := d.each (upTo 64) (fun d p => d.fsets [(TU_PORT_COMP_TX_FIXED_PS p, Config.fixedPs (2 * p) % 2 ^ 16),
      (TU_PORT_COMP_RX_FIXED_PS p, Config.fixedPs (2 * p + 1) % 2 ^ 16)])
    (d.stepEnds x 10).domainsFollow
/-- R542, R543: steps 2 to 4, of a verified image. -/
def Dev.bootVerified (d : Dev) (x : BootInput) : Dev :=
  let d := (d.showFirmware).stepEnds x 2
  let d := (if x.pufOk then d else d.bootErr 6).stepEnds x 3
  let ok := x.pufOk && d.certOk
  let d := if ok then d.fset SEC_STATUS_IDENTITY_OK 1 else d.bootErr 7
  if !x.recordOk || (ok && d.certRecord != Config.recordDigest) then d.bootHalt 8
  else ((d.showOwner).stepEnds x 4).bootRest x
/-- BOOT_START: the Molward die leaves reset: steps 1 to 10, or recovery mode. -/
def bootStart (x : BootInput) (d : Dev) : Dev :=
  if d.fget SEC_BOOT_BOOT_STEP ≠ 0 then d
  else
    let d := { d with boot := { d.boot with start := d.tick } }
    let d := d.fset SEC_BOOT_BOOT_STEP 1
    let d := d.stepEnds x 1
    if !x.flashOk then d.recover x 1
    else if d.romCheck ≠ 0 then d.recover x d.romCheck
    else d.bootVerified x
/-- BOOT_START (R528, R542, R543, R549): not while RESET_N is low. -/
def execBootStart (x : BootInput) (s : State) : Host.Outcome State Fault Refusal :=
  s.onDev (Wf.bootStart x) (fun d => if s.jtag.resetLow then d else bootStart x d)
/-- R374, R542: a port does not hold back READY: it need not train, is ACTIVE or DOWN, or a laser LOS holds it. -/
def Dev.portSettled (d : Dev) (p : Nat) : Bool :=
  !d.flag (PL_CFG_TRAIN_EN p) || d.pstate p == psActive || d.pstate p == psDown || d.laserLost p
/-- BOOT_READY: step 11 ends: READY, and MIN_SVN where the firmware raises it (R547). -/
def bootReady (d : Dev) : Dev :=
  if d.fget SEC_BOOT_BOOT_STEP ≠ 11 ∨ d.boot.halted ∨ !(upTo 64).all d.portSettled then d
  else
    let us := (d.tick - d.boot.start) / 800
    let d := d.fsets [(SEC_STEP_END_END_US 11, us), (SEC_BOOT_READY_US, us), (SEC_BOOT_BOOT_STEP, 12), (GLB_STATUS_READY, 1)]
    let svn := d.fget SEC_FW_SVN
    if fwRaises d.flashImage ∧ d.owner.minSvn < svn then
      { d with owner := { d.owner with minSvn := svn } }.fset SEC_FW_MIN_SVN svn
    else d
/-- BOOT_READY (R542, R547). -/
def execBootReady (s : State) : Host.Outcome State Fault Refusal := s.onDev Wf.bootReady bootReady
/-- RCE_WATCHDOG (R453): the management die has failed; the service plane is lost. -/
def execRceWatchdog (s : State) : Host.Outcome State Fault Refusal :=
  s.onDev Wf.rceWatchdog (fun d => { d with rce := { d.rce with dead := true } })

end Sys2Proof.Machine
end

