-- ==== Sys2Proof/Machine/Power.lean ====
section
/-!
DEFINITION. Power and thermal control (chapter 13): domain requests (R502, R503), regulator faults (R504), adaptive
voltage (R505, R506), temperatures, protective quiesce and the trip (R507 to R511), the main input (R501, R512, R516).
-/

namespace Sys2Proof.Machine

open Sys2Proof

/-! ## Domain requests (R502, R503) -/

/-- R503: a request that conflicts with the device's use. An optical group has no LOW. -/
def Dev.reqConflicts (d : Dev) (k r : Nat) : Bool :=
  if k < 16 then (r == dsOff && d.claimed k) || (r == dsLow && d.claimed k && d.runLive)
  else if k < 20 then (r == dsOff || r == dsLow) && d.runLive
  else if k < 28 then
    r == dsLow || (r == dsOff && d.runState == stRunning && (groupPorts (k - 20)).any (fun p => d.pstate p == psActive))
  else if k = 28 then r == dsOff || (r == dsLow && !(d.runState == stIdle && d.rce.graphs.isEmpty))
  else r == dsOff || r == dsLow

/-- R503: a request is refused with REQ_REFUSED, or takes effect at once. -/
def Dev.request (d : Dev) (k r : Nat) : Dev :=
  if d.reqConflicts k r then d.event PWR_STATUS_REQ_REFUSED else (d.fset (PWR_DOMAIN_CTRL_REQ k) r).domainFollows k

/-- REQ_OFF (R503). -/
def execReqOff (g : Nat) (s : State) : Host.Outcome State Fault Refusal :=
  s.onDev (Wf.reqOff g) (fun d => d.when d.ready (fun d => d.request g 0))
/-- REQ_LOW (R503). -/
def execReqLow (g : Nat) (s : State) : Host.Outcome State Fault Refusal :=
  s.onDev (Wf.reqLow g) (fun d => d.when d.ready (fun d => d.request g 1))
/-- REQ_ON (R503). -/
def execReqOn (g : Nat) (s : State) : Host.Outcome State Fault Refusal :=
  s.onDev (Wf.reqOn g) (fun d => d.when d.ready (fun d => d.request g 2))
/-- REQ_AUTO (R502). -/
def execReqAuto (g : Nat) (s : State) : Host.Outcome State Fault Refusal :=
  s.onDev (Wf.reqAuto g) (fun d => d.when d.ready (fun d => d.request g 3))

/-! ## Regulator faults (R504) -/

/-- R504: what follows from a domain's failure. -/
def Dev.domainLost (d : Dev) (k : Nat) : Dev :=
  if k < 16 then (d.each (domainUnits k) Dev.failUnit).each (domainBlocks k) Dev.spillLost
  else if k < 20 then
    (d.each ((upTo 64).filter (fun g => !bitAt (d.rget (VAT_DIE_FAIL (k - 16))).toNat g)) (fun d g => d.removeGroup (64 * (k - 16) + g))).toQuiesce 2
  else if k = 29 then d.linkLost
  else d

/-- REGULATOR_FAULT (R504): the domain is off and FAILED; the always-on domain (30) takes the time base with it. -/
def regulatorFault (g cause : Nat) (d : Dev) : Dev :=
  if g = 30 then timeBaseLoss d
  else if d.dom g = dsOff ∨ d.dom g = dsFailed then d
  else ((d.setDomain g dsFailed).fset (PWR_DOMAIN_STAT_FAULT g) cause).domainLost g

/-- REGULATOR_FAULT. -/
def execRegulatorFault (g cause : Nat) (s : State) : Host.Outcome State Fault Refusal :=
  s.onDev (Wf.regulatorFault g cause) (regulatorFault g cause)

/-! ## Adaptive voltage (R505, R506) -/

/-- R505: one controller step of domain k for a smallest slack. -/
def Dev.avcStep (d : Dev) (k : Nat) (s : Int) : Dev :=
  let v := d.volt k
  let target : Int := d.fget PWR_AVC_CFG_TARGET_SLACK_TICKS
  let set := fun (d : Dev) (x : Nat) => d.fset (PWR_DOMAIN_STAT_V_MV k) x
  if s < 0 then (set d (min (v + 50) d.vmax)).bump (PWR_AVC_STAT_LATE_STEPS k)
  else if s < target then (set d (min (v + 10) d.vmax)).bump (PWR_AVC_STAT_UP_STEPS k)
  else if target + d.fget PWR_AVC_CFG_HYST_TICKS ≤ s ∧ !d.flag PWR_STATUS_WARN ∧ d.vfloor k < v then
    (set d (max (v - 10) (d.vfloor k))).bump (PWR_AVC_STAT_DOWN_STEPS k)
  else d

/-- AVC_INTERVAL (R505, R520): the interval ends: with MODE AUTO the voltage of a domain in ON steps by the smallest slack
of the results that arrived. -/
def avcInterval (k : Nat) (d : Dev) : Dev :=
  let e := { d with pwr := { d.pwr with winSlack := pdel k d.pwr.winSlack } }
  match pget d.pwr.winSlack k with
  | none => e
  | some s =>
    if d.avcMode != 0 || d.dom k != dsOn then e
    else (e.fsetInt (PWR_AVC_STAT_WIN_SLACK k) (clampI (-32767) 32767 s)).avcStep k s

/-- AVC_INTERVAL. -/
def execAvcInterval (d : Nat) (s : State) : Host.Outcome State Fault Refusal := s.onDev (Wf.avcInterval d) (avcInterval d)

/-! ## Protective quiesce and trip (R509, R511) -/

/-- R509: protective quiesce begins: HOT_LOCK, the alert, and the run stops as at STOP with CAUSE 6. -/
def Dev.protectiveQuiesce (d : Dev) : Dev :=
  let d := (d.event PWR_STATUS_HOT_LOCK).alert 13 0 0 0xFF 0 0
  if d.runState = stArmed ∨ d.runState = stRunning ∨ d.runState = stBreak then d.stopRun 6 else d

/-- R509: a protective quiesce is in progress. -/
def Dev.quiescing (d : Dev) : Bool := d.flag PWR_STATUS_HOT_LOCK && d.runState == stQuiescing

/-- R501, R511: domains turn off, a failed one staying failed, in the order of a list. -/
def Dev.allOff (d : Dev) (ks : List Nat) : Dev := d.each ks (fun d k => if d.dom k = dsFailed then d else d.setDomain k dsOff)

/-- R501: optical groups, fabric domains, vat dies: the order in which domains turn off. -/
def offOrder : List Nat := (upTo 8).map (fun i => 27 - i) ++ (upTo 16).map (fun i => 15 - i) ++ (upTo 4).map (fun i => 19 - i)

/-- R511: the trip; THERM_TRIP_N is driven low. -/
def Dev.trip (d : Dev) : Dev :=
  let busy := d.quiescing
  let d := (d.fset PWR_STATUS_TRIPPED 1).allOff offOrder
  let d := { d with pins := { d.pins with thermTrip := true } }
  if busy then d else d.protectiveQuiesce

/-! ## Temperatures (R507, R508) -/

/-- R507: the sensors that count: those of domains in LOW, ON or FAILED and the always-on one. -/
def Dev.sensors (d : Dev) : List Nat := ((upTo 30).filter (fun k => d.dom k != dsOff)) ++ [30]

/-- R507: the hottest of the sensors that count, the lowest-numbered among equals, as (sensor, reading). -/
def Dev.hottest (d : Dev) : Nat × Int :=
  d.sensors.foldl (fun (best : Nat × Int) k =>
    let v := d.fint (PWR_TEMP_TEMP k)
    if best.1 = 31 ∨ best.2 < v then (k, v) else best) (31, 0)

/-- R508: WARN is set at WARN_DC, with its alert and COOL_REQ, and cleared below WARN_DC − 2.0 °C; a lower voltage then
takes effect. -/
def Dev.warnAt (d : Dev) (t : Int) : Dev :=
  let w : Int := d.fget PWR_THERM_CFG_WARN_DC
  if !d.flag PWR_STATUS_WARN then
    (if w ≤ t then (d.fsets [(PWR_STATUS_WARN, 1), (PWR_STATUS_COOL_REQ, 1)]).alert 12 0 0 0xFF 0 (wrapTo 64 t) else d)
  else if t < w - 20 then (d.fsets [(PWR_STATUS_WARN, 0), (PWR_STATUS_COOL_REQ, 0)]).trimVolts
  else d

/-- R509: consecutive readings at or above CRIT_DC; the second begins a protective quiesce. -/
def Dev.critAt (d : Dev) (t : Int) : Dev :=
  let hot := decide ((d.fget PWR_THERM_CFG_CRIT_DC : Int) ≤ t)
  let n := if hot then min (d.pwr.critRun + 1) 3 else 0
  let d := { d.fset PWR_STATUS_CRIT (b2n hot) with pwr := { d.pwr with critRun := n } }
  d.when (n == 2 && !d.quiescing) Dev.protectiveQuiesce

/-- R536: SMB_ALERT_N goes low when WARN, CRIT or TRIPPED has changed. -/
def Dev.smbAlerts (d0 d : Dev) : Dev :=
  if [PWR_STATUS_WARN, PWR_STATUS_CRIT, PWR_STATUS_TRIPPED].any (fun f => d0.fget f != d.fget f) then
    { d with pins := { d.pins with smbAlert := true } }
  else d

/-- R507 to R509, R511: a reading of the 31 sensors has its effect. -/
def Dev.temps (d : Dev) (temps : List Nat) : Dev :=
  let d := d.each temps.zipIdx (fun d e =>
    let d := d.fset (PWR_TEMP_TEMP e.2) e.1
    d.when (decide (d.fint (PWR_TEMP_TEMP_PEAK e.2) < sx 16 e.1)) (fun d => d.fset (PWR_TEMP_TEMP_PEAK e.2) e.1))
  let h := d.hottest
  let d := (d.fset PWR_STATUS_HOT_SENSOR h.1).fsetInt PWR_STATUS_TEMP_MAX h.2
  let d := (d.warnAt h.2).critAt h.2
  d.when (temps.any (fun x => decide (1250 ≤ sx 16 x)) && !d.flag PWR_STATUS_TRIPPED) Dev.trip

/-- TEMP_READING (R507 to R509, R511, R521, R536): the 31 sensors are read, each 0.1 °C signed. -/
def tempReading (temps : List Nat) (d : Dev) : Dev := Dev.smbAlerts d (d.temps temps)
/-- TEMP_READING. -/
def execTempReading (temps : List Nat) (s : State) : Host.Outcome State Fault Refusal := s.onDev (Wf.tempReading temps) (tempReading temps)

/-- HOT_LOCK_WRITE (R510): a write of 1 clears HOT_LOCK while WARN is clear. -/
def execHotLockWrite (s : State) : Host.Outcome State Fault Refusal :=
  s.onDev Wf.hotLockWrite (fun d => d.when (d.ready && !d.flag PWR_STATUS_WARN) (fun d => d.clearFld PWR_STATUS_HOT_LOCK))

/-- PEAK_CLEAR (R514). -/
def execPeakClear (s : State) : Host.Outcome State Fault Refusal :=
  s.onDev Wf.peakClear (fun d => d.when d.ready (fun d => d.each (upTo 31) (fun d k => d.fset (PWR_TEMP_TEMP_PEAK k) 0x8000)))

/-! ## The main input (R501, R512, R516, R517) -/

/-- R1, R501: every switched domain turns off, CXL and LPDDR5X last; nothing follows a request any more, no frame is stamped
and the rind releases no record. -/
def Dev.powerOff (d : Dev) : Dev :=
  let d := (d.allOff (offOrder ++ [29, 28])).fset RIND_STATUS_SEQ_RUNNING 0
  { d.linkLost with pwr := { d.pwr with up := false }, rind := { d.rind with stopped := true } }

/-- MAIN_UNDERVOLTAGE (R501): the input lies below 1,710 mV for 1 µs: UV_WARN; below 1,620 mV the domains turn off. -/
def mainUndervoltage (mv : Nat) (d : Dev) : Dev :=
  let d := d.when (decide (mv < 1710)) (fun d => d.event PWR_STATUS_UV_WARN)
  d.when (decide (mv < 1620)) Dev.powerOff

/-- MAIN_UNDERVOLTAGE. -/
def execMainUndervoltage (mv : Nat) (s : State) : Host.Outcome State Fault Refusal :=
  s.onDev (Wf.mainUndervoltage mv) (mainUndervoltage mv)

/-- POWER_DOWN (R501): power-good falls. -/
def execPowerDown (s : State) : Host.Outcome State Fault Refusal := s.onDev Wf.powerDown Dev.powerOff

/-- POWER_AVERAGE (R512, R516, R517): the last 1 ms's power in mW, the current in 0.1 A and the voltage in mV. -/
def powerAverage (mw da mv : Nat) (d : Dev) : Dev :=
  let w := min (mw / 1000) 0xFFFF
  let uj := d.pwr.energyUj + mw
  let d := d.fsets [(PWR_INPUT_POWER_W, w), (PWR_INPUT_POWER_PEAK_W, max w (d.fget PWR_INPUT_POWER_PEAK_W)), (PWR_INPUT_MAIN_DA, da),
    (PWR_INPUT_MAIN_MV, mv), (PWR_ENERGY_ENERGY_MJ, satAdd 64 (d.fget PWR_ENERGY_ENERGY_MJ) (uj / 1000))]
  { d with pwr := { d.pwr with energyUj := uj % 1000 } }

/-- POWER_AVERAGE. -/
def execPowerAverage (mw da mv : Nat) (s : State) : Host.Outcome State Fault Refusal :=
  s.onDev (Wf.powerAverage mw da mv) (powerAverage mw da mv)

end Sys2Proof.Machine
end

