-- ==== Sys2Proof/Machine/Board.lean ====
section
/-!
DEFINITION. The management bus and the test access port (R536 to R538).
-/

namespace Sys2Proof.Machine

open Sys2Proof

/-! ## SMBus (R536, R537) -/

/-- R536, R542: SMBus answers from the first step of start-up on, while the management die works (R453). -/
def Dev.smb (d : Dev) (f : Dev → Dev) : Dev := if d.fget SEC_BOOT_BOOT_STEP != 0 && !d.rce.dead then f d else d
/-- An SMBus read returns bytes. -/
def Dev.smbReply (d : Dev) (code : Nat) (bs : List Nat) : Dev := d.emit (.smbus code true bs)
/-- SMB_STATUS. -/
def smbStatus (d : Dev) : Dev :=
  d.smb (fun d => d.smbReply 0 [d.fget GLB_STATUS_READY + 2 * d.fget GLB_STATUS_RECOVERY + 4 * d.fget PWR_STATUS_WARN + 8 * d.fget PWR_STATUS_CRIT +
    16 * d.fget PWR_STATUS_TRIPPED + 32 * d.fget PWR_STATUS_HOT_LOCK + 64 * d.fget TU_STATUS_BASE_LOST + 128 * d.fget PWR_STATUS_COOL_REQ])
/-- SMB_STATUS (R537). -/
def execSmbStatus (s : State) : Host.Outcome State Fault Refusal := s.onDev Wf.smbStatus smbStatus
/-- SMB_TEMP_MAX. -/
def smbTempMax (d : Dev) : Dev := d.smb (fun d => d.smbReply 1 (leBytes 2 (d.fget PWR_STATUS_TEMP_MAX)))
/-- SMB_TEMP_MAX (R537). -/
def execSmbTempMax (s : State) : Host.Outcome State Fault Refusal := s.onDev Wf.smbTempMax smbTempMax
/-- SMB_POWER. -/
def smbPower (d : Dev) : Dev := d.smb (fun d => d.smbReply 2 (leBytes 2 (d.fget PWR_INPUT_POWER_W)))
/-- SMB_POWER (R537). -/
def execSmbPower (s : State) : Host.Outcome State Fault Refusal := s.onDev Wf.smbPower smbPower
/-- SMB_MAIN_MV. -/
def smbMainMv (d : Dev) : Dev := d.smb (fun d => d.smbReply 3 (leBytes 2 (d.fget PWR_INPUT_MAIN_MV)))
/-- SMB_MAIN_MV (R537). -/
def execSmbMainMv (s : State) : Host.Outcome State Fault Refusal := s.onDev Wf.smbMainMv smbMainMv
/-- SMB_SERIAL. -/
def smbSerial (d : Dev) : Dev := d.smb (fun d => d.smbReply 4 (leBytes 8 (d.rget GLB_SERIAL).toNat))
/-- SMB_SERIAL (R537). -/
def execSmbSerial (s : State) : Host.Outcome State Fault Refusal := s.onDev Wf.smbSerial smbSerial
/-- SMB_ID. -/
def smbId (d : Dev) : Dev := d.smb (fun d => d.smbReply 5 (leBytes 8 (d.rget GLB_ID).toNat))
/-- SMB_ID (R537). -/
def execSmbId (s : State) : Host.Outcome State Fault Refusal := s.onDev Wf.smbId smbId
/-- R537: what the codes that need verified firmware return. -/
def Dev.ifVerified (d : Dev) (bs : List Nat) : List Nat := if d.flag SEC_STATUS_FW_VERIFIED then bs else List.replicate 32 0
/-- SMB_LASER_POWER. -/
def smbLaserPower (d : Dev) : Dev := d.smb (fun d => d.smbReply 6 (d.ifVerified ((upTo 16).flatMap (fun k => leBytes 2 (d.fget (PL_LASER_POWER_UW k))))))
/-- SMB_LASER_POWER (R537). -/
def execSmbLaserPower (s : State) : Host.Outcome State Fault Refusal := s.onDev Wf.smbLaserPower smbLaserPower
/-- SMB_PORT_STATE. -/
def smbPortState (d : Dev) : Dev := d.smb (fun d => d.smbReply 7 (d.ifVerified ((upTo 32).map (fun b => d.pstate (2 * b) + 16 * d.pstate (2 * b + 1)))))
/-- SMB_PORT_STATE (R537). -/
def execSmbPortState (s : State) : Host.Outcome State Fault Refusal := s.onDev Wf.smbPortState smbPortState
/-- SMB_QUIESCE: 0xA5 begins a protective quiesce; any other value is ignored. -/
def smbQuiesce (key : Nat) (d : Dev) : Dev :=
  d.smb (fun d => d.when (key == 0xA5 && !d.quiescing) Dev.protectiveQuiesce)
/-- SMB_QUIESCE (R509, R537). -/
def execSmbQuiesce (key : Nat) (s : State) : Host.Outcome State Fault Refusal := s.onDev (Wf.smbQuiesce key) (smbQuiesce key)
/-- SMB_OTHER_CODE: not acknowledged. -/
def execSmbOtherCode (code : Nat) (s : State) : Host.Outcome State Fault Refusal :=
  s.onDev (Wf.smbOtherCode code) (fun d => d.smb (fun d => d.emit (.smbus code false [])))
/-- SMB_ALERT_RESPONSE: SMB_ALERT_N is released. -/
def execSmbAlertResponse (s : State) : Host.Outcome State Fault Refusal :=
  s.onDev Wf.smbAlertResponse (fun d => d.smb (fun d => { d with pins := { d.pins with smbAlert := false } }))

/-! ## The TAP (R538) -/

/-- The TAP takes an instruction; one that needs RESET_N low acts as BYPASS at any other time. -/
def Jtag.takes (j : Jtag) (i : TapInstr) : Jtag := { j with tap := if i.needsReset && !j.resetLow then .bypass else i }
/-- BYPASS (R538). -/
def execBypass (s : State) : Host.Outcome State Fault Refusal := s.onPort Wf.bypass (fun x => (x.1, x.2.takes .bypass))
/-- R538: the IDCODE: the stepping, 0x0004, and what the BSDL file gives. -/
def Dev.idcode (d : Dev) : Nat := d.fget GLB_ID_STEPPING * 2 ^ 28 + 0x4 * 2 ^ 12 + Config.idcodeLow % 2 ^ 12
/-- IDCODE (R538): its 32 bits are shifted out, least significant first. -/
def execIdcode (s : State) : Host.Outcome State Fault Refusal :=
  s.onPort Wf.idcode (fun x => (x.1.emit (.tap ((upTo 32).map (fun i => bitsOf x.1.idcode i 1))), x.2.takes .idcode))
/-- SAMPLE_PRELOAD: what the pins carry is shifted out; the bits shifted in stand in the boundary register. -/
def samplePreload (bits : List Nat) (x : Dev × Jtag) : Dev × Jtag :=
  ({ x.1.emit (.tap (Config.pinSample x.1.freeIdx)) with freeIdx := x.1.freeIdx + 1 }, { x.2.takes .samplePreload with boundary := bits })
/-- SAMPLE_PRELOAD (R538). -/
def execSamplePreload (bits : List Nat) (s : State) : Host.Outcome State Fault Refusal := s.onPort (Wf.samplePreload bits) (samplePreload bits)
/-- EXTEST (R538). -/
def execExtest (s : State) : Host.Outcome State Fault Refusal := s.onPort Wf.extest (fun x => (x.1, x.2.takes .extest))
/-- CLAMP (R538). -/
def execClamp (s : State) : Host.Outcome State Fault Refusal := s.onPort Wf.clamp (fun x => (x.1, x.2.takes .clamp))
/-- HIGHZ (R538). -/
def execHighz (s : State) : Host.Outcome State Fault Refusal := s.onPort Wf.highz (fun x => (x.1, x.2.takes .highz))
/-- AC_EXTEST_INSTRUCTION (R538). -/
def execAcExtestInstruction (s : State) : Host.Outcome State Fault Refusal := s.onPort Wf.acExtestInstruction (fun x => (x.1, x.2.takes .acExtest))
/-- TAP_RESET (R538): every pin is in its functional state. -/
def execTapReset (s : State) : Host.Outcome State Fault Refusal := s.onPort Wf.tapReset (fun x => (x.1, { x.2 with tap := .idcode }))

end Sys2Proof.Machine
end

