-- ==== Sys2Proof/Machine/Detector.lean ====
section
/-!
DEFINITION. The ledger's register commands (R443, R463, R464, R470) and the deadlock detector: stall reports, wait-for probes
and spills (R444 to R448).
-/

namespace Sys2Proof.Machine

open Sys2Proof

/-! ## The ledger's registers -/

/-- LEDGER_CLEAR (R443): the ledger and its index hold only what this tick's reports put there. -/
def ledgerClear (d : Dev) : Dev :=
  if !d.ready then d
  else { d with led := { d.led with
    entries := d.led.fresh, index := d.led.freshIndex
    awaiting := ((d.led.fresh.zipIdx).filter (fun e : LedgerEntry × Nat => e.1.kind == 0x11 && d.runState == stBreak)).map Prod.snd } }
/-- LEDGER_CLEAR. -/
def execLedgerClear (s : State) : Host.Outcome State Fault Refusal := s.onDev Wf.ledgerClear ledgerClear
/-- LEDGER_COUNT_CLEAR (R463). -/
def ledgerCountClear (d : Dev) : Dev :=
  if !d.ready then d
  else d.clearFlds [FAB_LEDGER_STATUS_LEDGER_LOST, FAB_REPLAY_ZERO_FORWARDS, FAB_REPLAY_REPLAYS, FAB_TIE_T2_COUNT,
    FAB_DL_STAT_PROBES, FAB_DL_STAT_CYCLES, FAB_DL_STAT_ABANDONED, FAB_DL_STAT_EXHAUSTED]
/-- LEDGER_COUNT_CLEAR. -/
def execLedgerCountClear (s : State) : Host.Outcome State Fault Refusal := s.onDev Wf.ledgerCountClear ledgerCountClear
/-- LEDGER_SEL_WRITE (R464): the entry as it stands is shown; zeros where there is none. -/
def ledgerSelWrite (i : Nat) (d : Dev) : Dev :=
  if !d.ready then d
  else
    let ws := ((d.led.entries[i]?).map ledgerWords).getD (List.replicate 8 0)
    let d := d.fset FAB_LEDGER_SEL_INDEX i
    d.each ws.zipIdx (fun d e => d.rset (FAB_LEDGER_A + 8 * e.2) (BitVec.ofNat 64 e.1))
/-- LEDGER_SEL_WRITE. -/
def execLedgerSelWrite (i : Nat) (s : State) : Host.Outcome State Fault Refusal := s.onDev (Wf.ledgerSelWrite i) (ledgerSelWrite i)
/-- ESQ_LEDGER_WRITE (R442, R470). -/
def esqLedgerWrite (esq : Nat) (d : Dev) : Dev :=
  if !d.ready then d
  else
    let i := pget d.led.index esq
    d.fsets [(FAB_ESQ_LEDGER_ESQ, esq), (FAB_ESQ_LEDGER_VALID, b2n i.isSome), (FAB_ESQ_LEDGER_INDEX, i.getD 0)]
/-- ESQ_LEDGER_WRITE. -/
def execEsqLedgerWrite (esq : Nat) (s : State) : Host.Outcome State Fault Refusal := s.onDev (Wf.esqLedgerWrite esq) (esqLedgerWrite esq)

/-! ## Wait-for probes (R445) -/

/-- R444, R477: a sink holds DEPTH + 1 tokens, those in its block's spill area among them, so that its stall timer runs. -/
def Dev.sinkStalls (d : Dev) (q : Nat) : Bool :=
  d.powered (q / 1024) && d.flag (BLK_SW_VALID (q / 1024) (q / 256 % 4) (q % 256)) &&
    decide (d.fget (BLK_SW_DEPTH (q / 1024) (q / 256 % 4) (q % 256)) < (d.queue q).length + (d.spill q).length)
/-- R445, R446: a sink is full: it stalls and has no room, in its slots or, spilled, in the area (DEDUCED, log entry 148). -/
def Dev.sinkFull (d : Dev) (q : Nat) : Bool := d.sinkStalls q && !d.sinkRoom (q / 1024) (q / 256 % 4) (q % 256)
/-- What a physical unit waits for, with the block whose router it stands at. -/
def Dev.waitOf (d : Dev) (u : Nat) : Nat × UnitWait :=
  let b := unitWhere u
  match unitClass u with
  | 0 => (b, if d.powered b then d.tileWait ⟨b, unitIndex u⟩ else uwIdle)
  | 1 => (b, if d.powered b then d.vuWait u else uwIdle)
  | 2 => (b, if d.powered b then d.muWait b else uwIdle)
  | 3 => (b, if d.powered b then d.suWait b (unitIndex u) else uwIdle)
  | 7 => (((d.vuPlace u).map Prod.fst).getD 0, d.vuWait u)
  | _ => (b, uwIdle)
/-- A place of a probe: a sink or a unit. -/
inductive ProbeAt where
  | sink (q : Nat)
  | unit (u : Nat)
/-- The first full sink that has not yet taken the token of a source, as a queue number. -/
def Dev.fullBranch (d : Dev) (src : Nat) : Option Nat :=
  let b := src / 1024
  let net := src / 256 % 4
  ((d.feeds b net (src % 256)).filter (fun i => !(d.takenBy b net (src % 256)).contains i)).map (qnum b net) |>.find? d.sinkFull
/-- R445: where a probe goes from a place; nowhere where the place waits on nothing. -/
def Dev.probeNext (d : Dev) (p : ProbeAt) : Option ProbeAt :=
  match p with
  | .sink q => if meshSink q then ((meshNext q).bind d.fullBranch).map ProbeAt.sink else some (.unit (d.physUnit (fedUnit q)))
  | .unit u =>
    let w := d.waitOf u
    if w.2.st = 3 then (d.fullBranch (qnum w.1 w.2.net w.2.on)).map ProbeAt.sink
    else if w.2.st = 2 then (d.start? (qnum w.1 w.2.net w.2.on)).map (fun q => .unit (d.startUnit q))
    else none
/-- R445: a probe, with the sinks it has visited, latest first: the sinks of the cycle it closes, or none where it ends or
passes 64 sinks. -/
def Dev.probe (d : Dev) : Nat → List Nat → ProbeAt → Option (List Nat)
  | 0, _, _ => none
  | fuel + 1, seen, .sink q =>
    if seen.contains q then some (q :: seen.takeWhile (fun x => x != q))
    else if !d.sinkFull q || decide (64 ≤ seen.length) then none
    else (d.probeNext (.sink q)).bind (d.probe fuel (q :: seen))
  | fuel + 1, seen, .unit u => (d.probeNext (.unit u)).bind (d.probe fuel seen)

/-! ## Spills (R446 to R448) -/

/-- R227, R448: the block has a usable MU. -/
def Dev.muUsable (d : Dev) (b : Nat) : Bool := !d.fab.failed.contains (muId b) && !d.flag (BLK_MU_STATUS_SPARES_EXHAUSTED b)
/-- The ESQ of a sink's head token. -/
def Dev.headEsq (d : Dev) (q : Nat) : Nat := ((d.headOf q).map Token.esq).getD 0
/-- R448: a spill fails: it is reported and counted, and a break is asked for. -/
def Dev.spillFails (d : Dev) (q : Nat) : Dev :=
  ((d.selfReport 0xD (sinkUnit q) (d.headEsq q)).bump FAB_DL_STAT_EXHAUSTED).requestBreak 2 true
/-- R447: the slots of a queue beyond its receive stage move into the spill area of its block, which has room for them and a
usable MU. -/
def Dev.spillQueue (d : Dev) (q : Nat) : Dev :=
  let n := (if q / 256 % 4 = 1 then 16 else 1) * (d.queue q).tail.length
  let d := (d.bump FAB_DL_STAT_CYCLES).fset FAB_DL_SPILL_LAST_QUEUE q
  let d := d.selfReport 0xC (sinkUnit q) (d.headEsq q)
  if !d.muUsable (q / 1024) || decide (4096 < d.areaUsed (q / 1024) + n) then d.spillFails q
  else (d.setSpill q ((d.queue q).tail ++ d.spill q)).setQueue q ((d.queue q).take 1)
/-- R444: the detector acts now. -/
def Dev.detects (d : Dev) : Bool := d.flag FAB_DL_CFG_ENABLE && d.inRun
/-- R445: a probe of the detector is sent; one more waits where four run. -/
def Dev.sendProbe (d : Dev) (q : Nat) : Dev :=
  let n := d.fab.probes.length
  if 68 ≤ n then d
  else ({ d with fab := { d.fab with probes := d.fab.probes ++ [q] } }).when (decide (n < 4)) (fun d => d.bump FAB_DL_STAT_PROBES)
/-- R445: a probe has ended; the oldest report that waits is probed. -/
def Dev.probeEnds (d : Dev) (q : Nat) : Dev :=
  ({ d with fab := { d.fab with probes := d.fab.probes.erase q } }).when (decide (4 < d.fab.probes.length)) (fun d => d.bump FAB_DL_STAT_PROBES)
/-- STALL_REPORT (R444, R447, R448): the stall timer of a full sink has run out. -/
def stallReport (b net i : Nat) (d : Dev) : Dev :=
  let q := qnum b net i
  if !d.sinkStalls q then d
  else
    let d := d.when (!d.frozen) (fun d => d.bump (BLK_QSTAT_REPORTS b net i))
    if !d.detects then d
    else if d.spill q != [] && !d.sinkRoom b net i then d.spillFails q
    else d.sendProbe q
/-- STALL_REPORT. -/
def execStallReport (b net i : Nat) (s : State) : Host.Outcome State Fault Refusal := s.onDev (Wf.stallReport b net i) (stallReport b net i)
/-- PROBE_RESULT (R444 to R446): the probe of a sink has closed a cycle, whose lowest sink is spilled, or is abandoned. It yields to
fault notices (R68): while one waits on the lane no probe completes. -/
def probeResult (b net i : Nat) (d : Dev) : Dev :=
  let q := qnum b net i
  if !(d.fab.probes.take 4).contains q || !d.detects || d.fab.lane != [] then d
  else
    let d := d.probeEnds q
    match d.probe 1024 [] (.sink q) with
    | some (c :: l) => d.spillQueue (l.foldl min c)
    | _ => d.bump FAB_DL_STAT_ABANDONED
/-- PROBE_RESULT. -/
def execProbeResult (b net i : Nat) (s : State) : Host.Outcome State Fault Refusal := s.onDev (Wf.probeResult b net i) (probeResult b net i)

/-! ## Turns of waiting (R91, R477) -/

/-- R477: the counters of a domain's sinks that stall and units that wait now. -/
def Dev.waitCounters (d : Dev) (dm : Nat) : List Fld :=
  let sinks := ((d.fab.queues.map Prod.fst).filter (fun q => domainOf (q / 1024) == dm && d.sinkStalls q)).map (fun q =>
    BLK_QSTAT_STALL_TURNS (q / 1024) (q / 256 % 4) (q % 256))
  let of (w : UnitWait) (off : Nat) : List Fld := if w.st = 2 then [⟨off, 0, 32⟩] else if w.st = 3 then [⟨off, 32, 32⟩] else []
  sinks ++ (if d.fget (PWR_DOMAIN_STAT_STATE dm) = 2 then
    (domainBlocks dm).flatMap (fun b => (upTo 24).flatMap (fun k => of (d.unitWait b k) (BLK_UNIT_WAIT b k))) ++
    (upTo 2).flatMap (fun j => of (d.vuWait (unitId 7 dm j)) (FAB_SPARE_UNIT_WAIT (2 * dm + j))) else [])
/-- R477: a window of turns of a domain ends: what stalls or waits then counts turns of it, how many the clockless fabric decides
(DESIGN CHOICE, log entry 22). -/
def Dev.countWaits (d : Dev) (dm rate : Nat) : Dev :=
  if d.frozen || rate == 0 then d
  else d.each (d.waitCounters dm) (fun d f => d.bumpBy f (min rate (Config.waitTurns d.tick (64 * f.off + f.lsb))))
/-- TURN_MON_WINDOW: the rates of the 16 domains over the 1 µs tick window just ended (R91), with the turns of waiting (R477). -/
def execTurnMonWindow (rates : List Nat) (s : State) : Host.Outcome State Fault Refusal :=
  s.onDev (Wf.turnMonWindow rates) (fun d => d.each (rates.zipIdx) (fun d e => (turnWindow d e.2 e.1).countWaits e.2 e.1))

end Sys2Proof.Machine
end

