-- ==== Sys2Proof/Machine/Trigger.lean ====
section
/-!
DEFINITION. What the schedule's entries do when they fire (R303, R304, R306, R307), the edges of the TRGOUT lines (R311,
R312), captures of TCAP edges (R313), and PPS_OUT (R314).
-/

namespace Sys2Proof.Machine

open Sys2Proof

/-! ## Edges (R312) -/

/-- R312: δ in ps: how far C.F lies past an entry's time. -/
def Dev.pastPs (d : Dev) (time : Nat) : Int :=
  stampDiff (d.ns % 2 ^ 48) (time % 2 ^ 48) * 1000 + (d.time % 2 ^ 32 * 1000 / 2 ^ 32 : Nat)

/-- R312: c, rounded to 10 ps. -/
def edgeDelay (past : Int) : Nat := ((1250 - past).toNat + 5) / 10 * 10

/-- R312: when the edge of an action firing in this tick leaves, in ps from tick 0. -/
def Dev.edgeAt (d : Dev) (past : Int) (fine : Nat) : Nat := (d.tick + 4) * 1250 + edgeDelay past + fine * 10

/-! ## Firing (R303, R304, R306) -/

/-- R307: a level action's edge: of those of one tick on a line the last stands. -/
def Dev.levelEdge (d : Dev) (t at0 : Nat) (rise : Bool) : Dev :=
  let stale := if pget d.tu.levelAt t = some d.tick then (d.tu.edges.filter (fun e : TrgEdge => e.line == t && e.kind == 2)).getLast? else none
  let edges := match stale with
    | some e => d.tu.edges.erase e
    | none => d.tu.edges
  { d with tu := { d.tu with edges := edges ++ [⟨t, at0, 2, rise⟩], levelAt := pput t d.tick d.tu.levelAt } }

/-- R306: the action of entry i, and whether it acts. -/
def Dev.act (d : Dev) (i : Nat) (e : SchedEntry) (past : Int) : Bool × Dev :=
  let t := e.arg % 32
  let at0 := d.edgeAt past (d.fget (TU_TRGOUT_CFG_FINE_10PS t))
  let later : Nat → Dev := fun k => { d with tu := { d.tu with acts := d.tu.acts ++ [(d.tick, k, e.arg, i)] } }
  match e.action with
  | 1 => (true, (d.addEdge ⟨t, at0, 1, true⟩).addEdge ⟨t, at0 + e.arg / 2 ^ 16 * 1250, 1, false⟩)
  | 2 => (true, (d.fset (TU_TRGOUT_CFG_LEVEL t) 1).levelEdge t at0 true)
  | 3 => (true, (d.fset (TU_TRGOUT_CFG_LEVEL t) 0).levelEdge t at0 false)
  | 4 => if d.runState = stArmed then (true, d.boundaryZero) else (false, d)
  | 5 => if d.runState = stRunning ∨ d.runState = stBreak then (true, later 5) else (false, d)
  | 6 => (true, later 6)
  | 7 => (true, later 7)
  | 8 => if d.flag VAT_CURD_CTRL_ENABLE then (true, later 8) else (false, d)
  | 9 => match d.trigger (e.arg % 256) 1 i none with
    | some d => (true, d)
    | none => (false, d.untaken (e.arg % 256))
  | _ => (false, d)

/-- The entry, armed and due, fires and moves on (R303, R304). -/
def Dev.fire (d : Dev) (i : Nat) : Dev :=
  let e := d.sch i
  let wait := (-(d.lateness e)).toNat
  let d := if wait = 0 then d else d.advNs (d.ns + wait)
  let d := d.when e.late (fun d => d.schedReport 2 i (d.lateness e).toNat)
  let r := d.act i e (d.pastPs e.time)
  let d := r.2.when (!r.1) (fun d => d.schedReport 6 i 0)
  (d.bump TU_SCHED_STAT_FIRED).moveOn i

/-- R303: the first tick with d(C, TIME) ≥ 0. -/
def Dev.fireTick (d : Dev) (e : SchedEntry) : Nat :=
  let wait := (-(d.lateness e)).toNat
  if wait = 0 then d.tick else d.tick + ceilDiv (((d.ns + wait) <<< 32) - d.time) d.inc

/-- R307: of the armed entries that fire up to a tick, the one that fires first: in the earliest tick, and there the lowest. -/
def Dev.firstDue (d : Dev) (t : Nat) : Option Nat :=
  (((d.tu.sched.filter (fun e => e.2.st == 2 && decide (d.fireTick e.2 ≤ t))).map (fun e => (d.fireTick e.2, e.1))).foldl
    (fun m x => match m with
      | none => some x
      | some y => if x.1 < y.1 then some x else some y) none).map Prod.snd

/-- The tick up to which SCHEDULE_FIRE i looks: that of entry i, or this one. -/
def Dev.dueBy (d : Dev) (i : Nat) : Nat := if (d.sch i).st = 2 then d.fireTick (d.sch i) else d.tick

/-- R300, R305: an opening takes effect at the next boundary, in a tick up to this one: it cancels what is armed before any entry is
evaluated. -/
def Dev.boundaryOpens (d : Dev) (t : Nat) : Bool :=
  d.flag RIND_STATUS_SEQ_RUNNING && !d.rind.lost && decide (d.rind.lastBoundary + d.period ≤ t) &&
  d.tu.openings.any (d.openingDue (d.nominalQ (d.fget RIND_FRAME_NUMBER_FRAME_NUMBER + 1) / 4))

/-- R307: the entries that fire in this tick fire before a commit or a CANCEL takes effect; their own commands find them done. -/
def Dev.fireDue (d : Dev) : Dev :=
  if !d.flag TU_STATUS_TIME_VALID || d.boundaryOpens d.tick then d
  else d.each ((d.tu.sched.filter (fun e => e.2.st == 2 && decide (d.fireTick e.2 ≤ d.tick))).map Prod.fst) (fun d i =>
    if (d.sch i).st = 2 then
      let d := d.fire i
      { d with tu := { d.tu with ahead := d.tu.ahead.filter (fun x => x.1 == d.tick) ++ [(d.tick, i)] } }
    else d)

/-- SCHEDULE_FIRE (R303 to R305, R307): an armed entry fires. The device fires its entries in their order whichever of them is
named: first the one due in the earliest tick and, in one tick, the lowest; an opening that takes effect by then comes before it
(DEDUCED, log entry 146). -/
def scheduleFire (i : Nat) (d : Dev) : Dev :=
  if !d.flag TU_STATUS_TIME_VALID then d
  else if d.tu.ahead.contains (d.tick, i) then { d with tu := { d.tu with ahead := d.tu.ahead.erase (d.tick, i) } }
  else match d.firstDue (d.dueBy i) with
    | none => d
    | some j =>
      let t := d.fireTick (d.sch j)
      if d.boundaryOpens t then d
      else
        let d := d.openBy t
        match d.firstDue (d.dueBy i) with
        | none => d
        | some j => d.fire j

/-- SCHEDULE_FIRE. -/
def execScheduleFire (i : Nat) (s : State) : Host.Outcome State Fault Refusal := s.onDev (Wf.scheduleFire i) (scheduleFire i)

/-! ## Commits and cancels (R302, R333) -/

/-- SCHED_WRITE: CMD = WRITE commits the staging registers to a host entry and arms it, or REJECT is set (R302,
R303), after the firings of this tick (R307). -/
def schedWrite (i : Nat) (d : Dev) : Dev :=
  if !d.ready then d else
  let d := d.fireDue.fset TU_SCHED_SEL_INDEX i
  let ctrl := (d.rget TU_SCHED_CTRL).toNat
  let e := entryOf (d.rget TU_SCHED_TIME).toNat (d.rget TU_SCHED_PERIOD).toNat ctrl
  if i < 128 || 254 < i || !entryOk e.action e.arg e.period then d.event TU_SCHED_SEL_REJECT
  else
    let d := d.setSch i e
    if e.enable && !e.rel then d.armEntry i else d

/-- SCHED_WRITE. -/
def execSchedWrite (i : Nat) (s : State) : Host.Outcome State Fault Refusal := s.onDev (Wf.schedWrite i) (schedWrite i)

/-- SCHED_CANCEL: CMD = CANCEL disables an entry without a report (R333), after the firings of this tick (R307). -/
def schedCancel (i : Nat) (d : Dev) : Dev :=
  if !d.ready then d else
  let d := d.fireDue.fset TU_SCHED_SEL_INDEX i
  let d := d.setSch i { d.sch i with enable := false, st := 3, late := false }
  if i = 255 then d.startFails else d

/-- SCHED_CANCEL. -/
def execSchedCancel (i : Nat) (s : State) : Host.Outcome State Fault Refusal := s.onDev (Wf.schedCancel i) (schedCancel i)

/-! ## TRGOUT (R311) -/

/-- The first edge of line t still to come. -/
def Dev.nextEdge (d : Dev) (t : Nat) : Option TrgEdge :=
  (d.tu.edges.filter (fun e : TrgEdge => e.line == t)).foldl (fun m e => match m with
    | none => some e
    | some f => if e.atPs < f.atPs then some e else some f) none

/-- One more or one less of the pulses that hold a line. -/
def countPulse (m : PMap Nat) (t : Nat) (rise : Bool) : PMap Nat := pput t (if rise then pgetD m t 0 + 1 else pgetD m t 0 - 1) m

/-- What an edge changes of what drives its line. -/
def TimeUnit.edge (u : TimeUnit) (e : TrgEdge) : TimeUnit :=
  if e.kind = 0 then { u with recHigh := countPulse u.recHigh e.line e.rise }
  else if e.kind = 1 then { u with schedHigh := countPulse u.schedHigh e.line e.rise }
  else { u with levels := if e.rise then e.line :: u.levels.filter (fun t => t != e.line) else u.levels.filter (fun t => t != e.line) }

/-- TRGOUT_EDGE (R311, R312): the next edge of line t leaves; the line changes where its outputs' OR does. -/
def trgoutEdge (t : Nat) (d : Dev) : Dev :=
  match d.nextEdge t with
  | none => d
  | some e =>
    let d := d.advTo (e.atPs / 1250)
    let was := d.lineHigh t
    let d := { d with tu := ({ d.tu with edges := d.tu.edges.erase e }).edge e }
    if d.lineHigh t = was then d else d.emit (.trgout t e.atPs (d.lineOut t))

/-- TRGOUT_EDGE. -/
def execTrgoutEdge (t : Nat) (s : State) : Host.Outcome State Fault Refusal := s.onDev (Wf.trgoutEdge t) (trgoutEdge t)

/-! ## TCAP (R313) -/

/-- The time in ps, sub ps into this tick. -/
def Dev.timePs (d : Dev) (sub : Nat) : Nat := d.time * 1000 / 2 ^ 32 + sub

/-- TCAP_EDGE (R298, R313): an edge `sub` ps into this tick. -/
def tcapEdge (i : Nat) (falling : Bool) (sub : Nat) (d : Dev) : Dev :=
  if !bitAt (d.fget (TU_TCAP_CFG_EDGE i)) (b2n falling) then d
  else
    let at0 := d.tick * 1250 + sub
    let tooSoon := match pget d.tu.tcapLast i with
      | some l => decide (at0 < l + 5000)
      | none => false
    if d.flag TU_STATUS_BASE_LOST || tooSoon then d.bump (TU_TCAP_CFG_MISSED i)
    else if 16 ≤ (d.tcap i).length then d.bump (TU_TCAP_CFG_OVERFLOW i)
    else
      let ps := wrapTo 80 ((d.timePs sub : Int) - d.fint (TU_TCAP_CFG_DELAY_PS i))
      let c : Capture := ⟨ps / 1000 % 2 ^ 64, ps % 1000 / 10 * 10, d.epoch, falling, !d.flag TU_STATUS_TIME_VALID⟩
      { d with tu := { d.tu with tcap := pput i (d.tcap i ++ [c]) d.tu.tcap, tcapLast := pput i at0 d.tu.tcapLast } }

/-- TCAP_EDGE. -/
def execTcapEdge (i : Nat) (falling : Bool) (sub : Nat) (s : State) : Host.Outcome State Fault Refusal :=
  s.onDev (Wf.tcapEdge i falling sub) (tcapEdge i falling sub)

/-- TCAP_POP (R330): the head capture is removed. -/
def execTcapPop (i : Nat) (s : State) : Host.Outcome State Fault Refusal :=
  s.onDev (Wf.tcapPop i) (fun d => d.when d.ready (fun d => { d with tu := { d.tu with tcap := pput i (d.tcap i).tail d.tu.tcap } }))

/-! ## PPS_OUT (R314) -/

/-- R314: the next whole second at which PPS_OUT is to rise: the one whose first tick is this one, where it has not risen yet, or
the next. -/
def Dev.nextSecond (d : Dev) : Nat :=
  let g := 1000000000 <<< 32
  let s := if d.time < d.inc then 0 else (d.time - d.inc) / g + 1
  if s * g ≤ d.time ∧ d.tu.ppsTick = d.tick + 1 then s + 1 else s

/-- PPS_OUT_EDGE (R314): PPS_OUT falls after its width, or rises at the next whole second plus 6,250 ps. A second that an opening
passes over gives no edge (DESIGN CHOICE, log entry 147). -/
def ppsOutEdge (d : Dev) : Dev :=
  match d.tu.ppsFall with
  | some f => ({ d.advTo (f / 1250) with tu := { d.tu with ppsFall := none } }).emit (.ppsOut f false)
  | none =>
    if !d.flag TU_CTRL_PPS_OUT_EN || !d.flag TU_STATUS_TIME_VALID then d
    else
      let sec := d.nextSecond
      let d := d.advNs (sec * 1000000000)
      let at0 := d.edgeAt (d.pastPs (sec * 1000000000)) 0
      let w := max 1 (min 500000 (d.fget TU_PPS_PPS_WIDTH_US))
      ({ d with tu := { d.tu with ppsTick := d.tick + 1, ppsFall := some (at0 + w * 1000000) } }).emit (.ppsOut at0 true)

/-- PPS_OUT_EDGE. -/
def execPpsOutEdge (s : State) : Host.Outcome State Fault Refusal := s.onDev Wf.ppsOutEdge ppsOutEdge

end Sys2Proof.Machine
end

