-- ==== Sys2Proof/Machine/Discipline.lean ====
section
/-!
DEFINITION. The time unit's discipline (R287 to R301): the servo, PPS_IN and PEER sources, time and step symbols, source
loss and the backup source, openings with the sequencer stopped, and the commands on TU_ registers.
-/

namespace Sys2Proof.Machine

open Sys2Proof

/-! ## The servo (R287, R290, R291, R293) -/

/-- R290: the source TU_CTRL selects; 3 acts as FREE. -/
def Dev.selSource (d : Dev) : Nat := if d.fget TU_CTRL_SOURCE = 3 then 0 else d.fget TU_CTRL_SOURCE

/-- R287, R290, R291: f in ppb. -/
def Dev.freqPpb (d : Dev) : Int :=
  if d.tu.source = 0 then clampI (-500000) 500000 (d.fint TU_SERVO_MANUAL_PPB)
  else clampI (-500000) 500000 (d.fint TU_SERVO_STATE_F_I + d.fint TU_SERVO_STATE_F_P)

/-- R287: INC follows f. -/
def Dev.retune (d : Dev) : Dev := d.fsetInt TU_INC_INC (0x140000000 + rndDiv (d.freqPpb * 0x140000000) 1000000000)

/-- R322: an offset as TU_OFFSET shows it. -/
def satPs (e : Int) : Int := clampI (-(2 ^ 31 - 1)) (2 ^ 31 - 1) e

/-- R297: a step of −e in whole ns. -/
def stepOf (e : Int) : Int := -(rndDiv e 1000)

/-- R293: LOCKED after 8 consecutive updates within 20 ns; cleared above 1 µs. -/
def Dev.lockStep (d : Dev) (e : Int) : Dev :=
  let n := if e.natAbs ≤ 20000 then d.tu.lockRun + 1 else 0
  let d := { d with tu := { d.tu with lockRun := n } }
  if 1000000 < e.natAbs then d.fset TU_STATUS_LOCKED 0 else if 8 ≤ n then d.fset TU_STATUS_LOCKED 1 else d

/-- R291: an update with offset e over U µs: a larger offset opens an epoch, where it may. -/
def Dev.servo (d : Dev) (e : Int) (u : Nat) (opens : Bool) : Dev :=
  let d := (d.fsetInt TU_OFFSET_SOURCE_PS (satPs e)).lockStep e
  let d := if 1000000 < e.natAbs then (d.fset TU_SERVO_STATE_F_P 0).when opens (fun d => d.announce (stepOf e))
    else
      let fi := clampI (-500000) 500000 (d.fint TU_SERVO_STATE_F_I - rndDiv ((d.fget TU_SERVO_KI : Int) * e * 1000) (65536 * u))
      let fp := clampI (-200000) 200000 (-(rndDiv ((d.fget TU_SERVO_KP : Int) * e * 1000) (256 * u)))
      (d.fsetInt TU_SERVO_STATE_F_I fi).fsetInt TU_SERVO_STATE_F_P fp
  d.retune

/-! ## Sources (R293, R301) -/

/-- What a port's link received and measured. -/
def Dev.portTime (d : Dev) (p : Nat) : PortTime := (pget d.tu.symbols p).getD {}
/-- Set it. -/
def Dev.setPortTime (d : Dev) (p : Nat) (x : PortTime) : Dev := { d with tu := { d.tu with symbols := pput p x d.tu.symbols } }

/-- R293: the port has given valid symbols within 8 µs, without NO_SOURCE. -/
def Dev.portGood (d : Dev) (p : Nat) : Bool :=
  match pget d.tu.symbols p with
  | none => false
  | some x => decide (d.tick ≤ x.tick + 6400) && !x.noSource

/-- R290: the offset of a port: the mean of the interval's symbols, or the last one's. -/
def Dev.portOffset (d : Dev) (p : Nat) : Int :=
  let x := d.portTime p
  if x.count = 0 then x.last else rndDiv x.sum x.count

/-- A new interval begins on a port. -/
def Dev.newInterval (d : Dev) (p : Nat) : Dev :=
  match pget d.tu.symbols p with
  | none => d
  | some x => d.setPortTime p { x with sum := 0, count := 0 }

/-- R293: the source is lost. -/
def Dev.loseSource (d : Dev) : Dev :=
  if d.flag TU_STATUS_SOURCE_LOST then d
  else
    let d := d.fsets [(TU_STATUS_SOURCE_LOST, 1), (TU_STATUS_LOCKED, 0), (TU_SERVO_STATE_F_P, 0)]
    (({ d with tu := { d.tu with lockRun := 0, ppsLast := none } }).retune).alert 7 0 0 0xFF 0 0

/-- R301: a switch is hitless: the new port's epoch is the local one and its offset is 1 µs or less. -/
def Dev.hitless (d : Dev) (p : Nat) : Bool :=
  ((d.portTime p).epoch + d.fget TU_STATUS_EPOCH_SKEW) % 2 ^ 16 == d.epoch && decide ((d.portOffset p).natAbs ≤ 1000000)

/-- R301: the time unit switches to the primary or the backup port: hitlessly, or by an announced epoch. -/
def Dev.switchPort (d : Dev) (backup : Bool) : Dev :=
  let p := if backup then d.fget TU_CTRL_BACKUP_PORT else d.fget TU_CTRL_SOURCE_PORT
  let ok := d.hitless p
  let e := d.portOffset p
  let d := d.fsets [(TU_STATUS_ON_BACKUP, b2n backup), (TU_STATUS_SOURCE_LOST, 0)]
  if ok then d else d.announce (stepOf e)

/-- R301, R315: a change of SOURCE applies at an update and is treated as a switch. -/
def Dev.applySource (d : Dev) : Dev :=
  if d.tu.source = d.selSource then d
  else
    let d := { d with tu := { d.tu with source := d.selSource, lockRun := 0, ppsLast := none } }
    let d := (d.fsets [(TU_STATUS_LOCKED, 0), (TU_STATUS_ON_BACKUP, 0), (TU_STATUS_SOURCE_LOST, 0)]).retune
    if d.tu.source = 2 ∧ d.flag TU_STATUS_TIME_VALID ∧ d.portGood (d.fget TU_CTRL_SOURCE_PORT) then d.switchPort false else d

/-- R301: an announced step of this device's own is pending: updates from the backup open nothing. -/
def Dev.ownPending (d : Dev) : Bool := d.tu.openings.any (fun o : Opening => o.own && o.stepAt.isSome)

/-- The update of a PEER-disciplined device (R290, R291, R301). -/
def Dev.peerUpdate (d : Dev) : Dev :=
  let bk := d.fget TU_CTRL_BACKUP_PORT
  let d := if d.flag TU_CTRL_BACKUP_EN then d.fsetInt TU_OFFSET_BACKUP_PS (satPs (d.portOffset bk)) else d
  let d := if d.flag TU_CTRL_BACKUP_EN && !d.flag TU_STATUS_ON_BACKUP && !d.portGood (d.fget TU_CTRL_SOURCE_PORT) && d.portGood bk
    then d.switchPort true else d
  let p := d.sourcePort
  let d := if d.portGood p ∧ (d.portTime p).count ≠ 0 then
      d.servo (d.portOffset p) 1000 (!(d.flag TU_STATUS_ON_BACKUP && d.ownPending)) else d
  (d.newInterval (d.fget TU_CTRL_SOURCE_PORT)).when (d.flag TU_CTRL_BACKUP_EN) (fun d => d.newInterval bk)

/-- SERVO_UPDATE (R290, R291, R301): an update interval ends: a change of source applies, and a PEER source's mean offset
is used. A PPS source updates at each accepted edge (PPS_IN_EDGE). -/
def servoUpdate (d : Dev) : Dev :=
  if d.flag TU_STATUS_BASE_LOST then d
  else
    let d := d.applySource
    if d.tu.source = 2 ∧ d.flag TU_STATUS_TIME_VALID then d.peerUpdate else d

/-- SERVO_UPDATE. -/
def execServoUpdate (s : State) : Host.Outcome State Fault Refusal := s.onDev Wf.servoUpdate servoUpdate

/-- REVERT_TO_PRIMARY (R301): the primary has been valid for 1 s without a break. -/
def revertToPrimary (d : Dev) : Dev :=
  let p := d.fget TU_CTRL_SOURCE_PORT
  if d.flag TU_CTRL_REVERT && d.flag TU_STATUS_ON_BACKUP && d.tu.source == 2 && d.portGood p then
    let d := d.advTo ((d.portTime p).since + 800000000)
    if d.portGood p then d.switchPort false else d
  else d

/-- REVERT_TO_PRIMARY. -/
def execRevertToPrimary (s : State) : Host.Outcome State Fault Refusal := s.onDev Wf.revertToPrimary revertToPrimary

/-- SOURCE_LOSS (R293): no valid symbol for 8 µs, or no accepted edge for 1.5 s. -/
def sourceLoss (d : Dev) : Dev :=
  if d.tu.source = 2 then
    match pget d.tu.symbols d.sourcePort with
    | none => d.loseSource
    | some x => (d.advTo (x.tick + 6401)).loseSource
  else if d.tu.source = 1 then
    match d.tu.ppsLast with
    | none => d.loseSource
    | some l => (d.advTo (l / 1250 + 1200000000)).loseSource
  else d

/-- SOURCE_LOSS. -/
def execSourceLoss (s : State) : Host.Outcome State Fault Refusal := s.onDev Wf.sourceLoss sourceLoss

/-! ## PPS_IN (R292) -/

/-- R292: an edge 1 s ± 1 ms after the one accepted before, or the first. -/
def Dev.ppsAccepted (d : Dev) (at0 : Nat) : Bool :=
  match d.tu.ppsLast with
  | none => true
  | some l => decide ((((at0 : Int) - l) - 1000000000000).natAbs ≤ 1000000000)

/-- R292: e, in ps, of an edge at a time: its distance from the nearest whole second. -/
def ppsOffset (t : Int) : Int :=
  let r := t % 1000000000000
  if r < 500000000000 then r else r - 1000000000000

/-- PPS_IN_EDGE (R292, R301): a rising edge `sub` ps into this tick: an update, or rejected. -/
def ppsInEdge (sub : Nat) (d : Dev) : Dev :=
  if d.flag TU_STATUS_BASE_LOST then d
  else
    let d := if d.tu.source = 1 ∨ d.selSource = 1 then d.applySource else d
    if d.tu.source != 1 then d
    else
      let at0 := d.tick * 1250 + sub
      if !d.ppsAccepted at0 then d.event TU_STATUS_PPS_REJECT
      else
        let d := { d.fset TU_STATUS_SOURCE_LOST 0 with tu := { d.tu with ppsLast := some at0 } }
        d.servo (ppsOffset ((d.timePs sub / 10 * 10 : Nat) - d.fint TU_PPS_PPS_OFFSET_PS)) 1000000 true

/-- PPS_IN_EDGE. -/
def execPpsInEdge (sub : Nat) (s : State) : Host.Outcome State Fault Refusal := s.onDev (Wf.ppsInEdge sub) (ppsInEdge sub)

/-! ## Time symbols (R294, R295) -/

/-- R294: a port on which time and step symbols travel. -/
def Dev.timeLink (d : Dev) (p : Nat) : Bool := d.pstate p == psActive && d.role p == rolePeer && decide (2 ≤ d.version p)

/-- R294: the CRC of a symbol is right. -/
def symbolOk (sym : Nat) : Bool := crc16 240 (sym / 2 ^ 16) == sym % 2 ^ 16

/-- ps in units of 2^-16 ns, to nearest. -/
def psUnits (ps : Int) : Int := rndDiv (ps * 65536) 1000

/-- R295: a stamp in units of 2^-16 ns, 64 bits of ns. -/
def stampUnits (time : Nat) (ps : Int) : Nat := wrapTo 80 (((time / 2 ^ 16 : Nat) : Int) + psUnits ps)

/-- R289, R295: the signed difference of two stamps of 48 bits and 16 of fraction. -/
def unitDiff (a b : Nat) : Int := sx 64 (wrapTo 64 ((a : Int) - (b : Int)))

/-- R295: twice the path, in units of 2^-16 ns. -/
def pathTwice (t1 t2 t3 t4 : Nat) : Int := unitDiff t4 t1 - unitDiff t3 t2

/-- R295: the offset in ps: t4 − (T3 + path + FIBRE_ASYM / 2). -/
def offsetPs (t3 t4 : Nat) (path2 asym : Int) : Int := rndDiv ((2 * unitDiff t4 t3 - path2) * 1000 - asym * 65536) 131072

/-- R299: the Δ of a pending announced step whose new epoch a symbol carries. -/
def Dev.pendingDelta (d : Dev) (epoch : Nat) : Option Int :=
  (d.tu.openings.find? (fun o : Opening => o.stepAt.isSome && o.epoch == epoch)).map Opening.delta

/-- R288, R297: the first acquisition: the source's time and epoch at once. -/
def Dev.acquire (d : Dev) (e : Int) (epoch : Nat) : Dev :=
  let d := { d with time := wrapTo 96 ((d.time : Int) - rndDiv (e * 2 ^ 32) 1000), tu := { d.tu with source := 2 } }
  ((d.fsets [(TU_STATUS_EPOCH, epoch), (RIND_STATUS_EPOCH, epoch), (TU_STATUS_TIME_VALID, 1), (TU_STATUS_SOURCE_LOST, 0)]).retune).armDeferred

/-- R293, R297: what a symbol with offset e means for the time unit where its port is the source: the source is lost, or
its epoch is another one and an opening follows, which a switch's own pending step holds back on the backup (R301). -/
def Dev.sourceSymbol (d : Dev) (e : Int) (epoch : Nat) (noSource pend : Bool) : Dev :=
  if noSource then d.loseSource
  else
    let d := d.fset TU_STATUS_SOURCE_LOST 0
    let local' := (epoch + d.fget TU_STATUS_EPOCH_SKEW) % 2 ^ 16
    if local' = d.epoch ∨ pend ∨ (d.flag TU_STATUS_ON_BACKUP ∧ d.ownPending) then d else d.openOnto (stepOf e) local' none

/-- TIME (R288, R294, R295, R297): a time symbol whose marker crossed `rx` ps before this tick. -/
def timeSymbol (p sym rx : Nat) (d : Dev) : Dev :=
  if !d.timeLink p || d.flag TU_STATUS_BASE_LOST then d.reservedWord p
  else if !symbolOk sym then d.bump (TU_PORT_TIME_CRC_ERR p)
  else
    let x := d.portTime p
    let known := (pget d.tu.symbols p).isSome && decide (d.tick ≤ x.tick + 6400)
    let epoch := bitsOf sym 32 16
    let echo := bitAt sym 19
    let noSource := bitAt sym 17
    let mine := (epoch + d.fget TU_STATUS_EPOCH_SKEW) % 2 ^ 16
    let pend := d.pendingDelta mine
    let t3 := bitsOf sym 176 80
    let t4 := stampUnits d.time (-(rx : Int) - d.fint (TU_PORT_COMP_RX_FIXED_PS p))
    let asym := d.fint (TU_PORT_COMP_FIBRE_ASYM_PS p)
    let path2 := if echo then pathTwice (bitsOf sym 112 64) (bitsOf sym 48 64) t3 t4 else 2 * psUnits (d.fint (TU_PORT_TIME_PATH_PS p))
    let e := offsetPs t3 t4 path2 asym + (pend.getD 0) * 1000
    let d := if echo then d.fsetInt (TU_PORT_TIME_PATH_PS p) (rndDiv (path2 * 1000) 131072) else d
    let d := d.fsets [(TU_PORT_TIME_HOPS p, bitsOf sym 24 8), (TU_PORT_TIME_ECHO_OK p, b2n echo)]
    let since := if known && !x.noSource && !noSource then x.since else d.tick
    let d := d.setPortTime p
      { t3 := t3, t2 := t4, tick := d.tick, epoch := epoch, noSource := noSource, hops := bitsOf sym 24 8,
        sum := x.sum + e, count := x.count + 1, last := e, since := since }
    if !d.flag TU_STATUS_TIME_VALID then
      (if d.selSource = 2 ∧ p = d.fget TU_CTRL_SOURCE_PORT then ((d.acquire e epoch).newInterval p).when noSource Dev.loseSource else d)
    else if d.tu.source = 2 ∧ p = d.sourcePort then d.sourceSymbol e epoch noSource pend.isSome
    else d

/-- TIME. -/
def execTime (p : RxBlock) (sym rx : Nat) (s : State) : Host.Outcome State Fault Refusal :=
  s.onDev (Wf.time p sym rx) (fun d => timeSymbol p.port sym rx (d.received p))

/-- R294: the fields of a symbol this device sends on a port now, behind the last marker. -/
def Dev.symbolOut (d : Dev) (p mark : Nat) : Nat :=
  let x := d.portTime p
  let fresh := (pget d.tu.symbols p).isSome && decide (d.tick ≤ x.tick + 6400)
  let root := d.tu.source != 2
  let t3 := stampUnits mark (d.fint (TU_PORT_COMP_TX_FIXED_PS p))
  let hops := if root then 0 else min 255 ((d.portTime d.sourcePort).hops + 1)
  let n := t3 * 2 ^ 176 + x.t3 % 2 ^ 64 * 2 ^ 112 + x.t2 % 2 ^ 64 * 2 ^ 48 + d.epoch * 2 ^ 32 + hops * 2 ^ 24
    + b2n (d.flag TU_STATUS_STEP_PENDING) * 2 ^ 20 + b2n fresh * 2 ^ 19 + b2n root * 2 ^ 18
    + b2n (d.flag TU_STATUS_SOURCE_LOST) * 2 ^ 17 + b2n (d.flag TU_STATUS_LOCKED) * 2 ^ 16
  n + crc16 240 (n / 2 ^ 16)

/-- The port sends symbols (R294, R328). -/
def Dev.sendsTime (d : Dev) (p : Nat) : Bool := d.timeLink p && bitAt (d.rget TU_TIME_TX).toNat p

/-- TIME_SYMBOL_SEND (R288, R294, R298). -/
def execTimeSymbolSend (p : Nat) (s : State) : Host.Outcome State Fault Refusal :=
  s.onDev (Wf.timeSymbolSend p) (fun d =>
    match pget d.tu.marks p with
    | none => d
    | some m => d.when (d.sendsTime p && d.flag TU_STATUS_TIME_VALID) (fun d => d.emit (.timeSymbol p (d.symbolOut p m))))

/-! ## Step symbols (R299) -/

/-- STEP (R299): a step symbol from the source is recorded, or replaces the pending step. -/
def stepReceived (p sym : Nat) (d : Dev) : Dev :=
  if !d.timeLink p || d.flag TU_STATUS_BASE_LOST then d.reservedWord p
  else if !symbolOk sym then d.bump (TU_PORT_TIME_CRC_ERR p)
  else if d.tu.source != 2 || p != d.sourcePort then d
  else
    let skew := d.fget TU_STATUS_EPOCH_SKEW
    if (bitsOf sym 112 16 + skew) % 2 ^ 16 ≠ d.epoch then d
    else
      let at0 := bitsOf sym 192 64
      let delta := sx 64 (wrapTo 64 ((bitsOf sym 128 64 : Int) - (at0 : Int)))
      let n := (bitsOf sym 96 16 + skew) % 2 ^ 16
      let same := d.tu.openings.any (fun o : Opening => o.stepAt == some at0 && o.delta == delta && o.epoch == n)
      if same then d
      else
        let o : Opening := { delta := delta, epoch := n, stepAt := some at0, own := false, symbol := sym, skew := none, since := d.tick }
        let kept := d.tu.openings.filter (fun o : Opening => o.stepAt.isNone)
        ({ d with tu := { d.tu with openings := kept ++ [o] } }).showStep

/-- STEP. -/
def execStep (p : RxBlock) (sym : Nat) (s : State) : Host.Outcome State Fault Refusal :=
  s.onDev (Wf.step p sym) (fun d => stepReceived p.port sym (d.received p))

/-- STEP_SYMBOL_SEND (R299): while a step is pending. -/
def execStepSymbolSend (p : Nat) (s : State) : Host.Outcome State Fault Refusal :=
  s.onDev (Wf.stepSymbolSend p) (fun d =>
    match d.tu.openings.find? (fun o : Opening => o.stepAt.isSome) with
    | none => d
    | some o => d.when (d.sendsTime p) (fun d => d.emit (.stepSymbol p o.symbol)))

/-- STEP_AT_REACHED (R300): with the sequencer stopped, an unannounced opening takes effect in the next tick, an announced
one in the first tick with d(C, STEP_AT) ≥ 0; of several the earliest. -/
def stepAtReached (d : Dev) : Dev :=
  if d.flag RIND_STATUS_SEQ_RUNNING then d
  else match d.nextOpening with
    | none => d
    | some o => (d.advTo (d.openingTick o)).openEpoch o

/-- STEP_AT_REACHED. -/
def execStepAtReached (s : State) : Host.Outcome State Fault Refusal := s.onDev Wf.stepAtReached stepAtReached

/-! ## Commands on TU_ registers -/

/-- RESYNC (R297, R315): an opening onto the source's epoch with no skew, or RESYNC_REFUSED. -/
def execResync (s : State) : Host.Outcome State Fault Refusal :=
  s.onDev Wf.resync (fun d => d.when d.ready (fun d =>
    if d.selSource = 2 ∧ (d.runState = stIdle ∨ d.runState = stLoaded ∨ d.runState = stDrained) then
      (if (pget d.tu.symbols d.sourcePort).isSome ∧ d.flag TU_STATUS_TIME_VALID then
        d.openOnto (stepOf (d.portOffset d.sourcePort)) (d.portTime d.sourcePort).epoch (some 0) else d)
    else d.event TU_STATUS_RESYNC_REFUSED))

/-- TIME_SET (R288, R297, R323): the time is set at once, or an announced epoch opens. -/
def execTimeSet (ns : Nat) (s : State) : Host.Outcome State Fault Refusal :=
  s.onDev (Wf.timeSet ns) (fun d =>
    if !d.ready || d.selSource == 2 || d.flag TU_STATUS_BASE_LOST then d
    else if !d.flag TU_STATUS_TIME_VALID then (({ d with time := ns % 2 ^ 64 * 2 ^ 32 }).fset TU_STATUS_TIME_VALID 1).armDeferred
    else d.announce ((ns : Int) - (d.ns : Int)))

/-- TIME_READ (R317): fraction and epoch are latched; the read returns C. -/
def execTimeRead (s : State) : Host.Outcome State Fault Refusal :=
  s.onDev Wf.timeRead (fun d => d.when d.ready (fun d =>
    (d.fsets [(TU_TIME_FRAC_EPOCH, d.epoch), (TU_TIME_FRAC_FRAC, d.time % 2 ^ 32)]).emit (.readData TU_TIME (leBytes 8 d.ns) false)))

/-- TU_COUNT_CLEAR (R315, R326): every TU_ counter but OPENINGS. -/
def execTuCountClear (s : State) : Host.Outcome State Fault Refusal :=
  s.onDev Wf.tuCountClear (fun d => d.when d.ready (fun d =>
    let d := d.each (upTo 8) (fun d i => d.clearFlds [TU_TCAP_CFG_OVERFLOW i, TU_TCAP_CFG_MISSED i])
    let d := d.each (upTo 64) (fun d p => d.clearFld (TU_PORT_TIME_CRC_ERR p))
    d.clearFlds [TU_SCHED_STAT_EVENTS_LOST, TU_SCHED_STAT_FIRED]))

end Sys2Proof.Machine
end

