-- ==== Sys2Proof/Machine/Mailbox.lean ====
section
/-!
DEFINITION. The mailbox (R414 to R417) and firmware update (R550). Payload layouts and return codes of the standard commands
are those of CXL 3.1 (PRESUMED, log entry 60).
-/

namespace Sys2Proof.Machine

open Sys2Proof

/-! ## Answers (R414, R415) -/

/-- Background command started. -/
def rcBackground : Nat := 1
/-- Invalid Input. -/
def rcInvalidInput : Nat := 2
/-- Unsupported. -/
def rcUnsupported : Nat := 3
/-- Busy. -/
def rcBusy : Nat := 6
/-- FW transfer in progress. -/
def rcTransferring : Nat := 8
/-- FW transfer out of order. -/
def rcOutOfOrder : Nat := 9
/-- Invalid slot. -/
def rcInvalidSlot : Nat := 0xB
/-- Invalid handle. -/
def rcInvalidHandle : Nat := 0xE
/-- Invalid Payload Length. -/
def rcPayloadLength : Nat := 0x16
/-- Invalid log. -/
def rcInvalidLog : Nat := 0x17
/-- WRONG_STATE. -/
def vsWrongState : Nat := 1
/-- NO_SPACE. -/
def vsNoSpace : Nat := 2
/-- IN_USE. -/
def vsInUse : Nat := 3
/-- BAD_KIND. -/
def vsBadKind : Nat := 4
/-- NOT_PERMITTED. -/
def vsNotPermitted : Nat := 5
/-- VERIFY_FAILED. -/
def vsVerifyFailed : Nat := 6
/-- R415: the commands marked "Always". -/
def mboxAlways (op : Nat) : Bool := [0xC000, 0xC003, 0xC010].contains op
/-- R549: what recovery mode accepts. -/
def mboxRecovery (op : Nat) : Bool := mboxAlways op || [0x0200, 0x0201, 0x0202].contains op
/-- R415, R543, R549: the command is accepted now. -/
def Dev.mboxAccepts (d : Dev) (op : Nat) : Bool :=
  d.ready || mboxAlways op || (d.flag GLB_STATUS_RECOVERY && !d.boot.halted && mboxRecovery op)
/-- The mailbox answers at all: the management die has started and has not failed (R453, R542). -/
def Dev.mboxUp (d : Dev) : Bool := d.fget SEC_BOOT_BOOT_STEP != 0 && !d.rce.dead
/-- R414, R415: a mailbox command: refused where it is not accepted or its payload has the wrong length, else executed. Every
other command puts GET_CERTIFICATE back to part 0 (R553). -/
def Dev.mbox (d : Dev) (op : Nat) (lenOk : Bool) (f : Dev → Dev) : Dev :=
  if !d.mboxUp then d
  else
    let d := if op = 0xC010 then d else { d with host := { d.host with mbox := { d.host.mbox with certPart := 0 } } }
    if !d.mboxAccepts op then d.reply op rcUnsupported []
    else if !lenOk then d.reply op rcPayloadLength []
    else f d
/-- The mailbox's state changed. -/
def Dev.setMbox (d : Dev) (f : Mailbox → Mailbox) : Dev := { d with host := { d.host with mbox := f d.host.mbox } }

/-! ## Events (R399, R414) -/

/-- The records of a log, the Failure log alone ever holding any. -/
def Dev.eventLog (d : Dev) (log : Nat) : List (List Nat) := if log = 2 then d.host.mbox.events else []
/-- GET_EVENT_RECORDS: at most 31 records fit in the payload. -/
def getEventRecords (inp : List Nat) (d : Dev) : Dev :=
  d.mbox 0x0100 (inp.length == 1) (fun d =>
    let m := d.host.mbox
    let log := leAt inp 0 1
    let es := d.eventLog log
    let ovr := if log = 2 then m.overflow else 0
    if 4 < log then d.reply 0x0100 rcInvalidInput []
    else d.reply 0x0100 rcSuccess ([b2n (ovr != 0) + 2 * b2n (decide (31 < es.length)), 0] ++ leBytes 2 ovr ++
      leBytes 8 (if ovr = 0 then 0 else m.overFirst) ++ leBytes 8 (if ovr = 0 then 0 else m.overLast) ++ leBytes 2 (min 31 es.length) ++
      List.replicate 10 0 ++ (es.take 31).flatten))
/-- GET_EVENT_RECORDS (R414). -/
def execGetEventRecords (inp : List Nat) (s : State) : Host.Outcome State Fault Refusal := s.onDev (Wf.getEventRecords inp) (getEventRecords inp)
/-- The handle of an event record. -/
def eventHandle (e : List Nat) : Nat := leAt e 0x14 2
/-- CLEAR_EVENT_RECORDS: all, or the oldest, by their handles in order. -/
def clearEventRecords (inp : List Nat) (d : Dev) : Dev :=
  let n := leAt inp 2 1
  d.mbox 0x0101 (inp.length == 6 + 2 * n) (fun d =>
    let log := leAt inp 0 1
    let hs := (upTo n).map (fun k => leAt inp (6 + 2 * k) 2)
    let es := d.eventLog log
    let keep (l : List (List Nat)) (d : Dev) : Dev := if log = 2 then d.setMbox (fun m => { m with events := l, overflow := 0, overFirst := 0, overLast := 0 }) else d
    if 4 < log then d.reply 0x0101 rcInvalidInput []
    else if bitAt (leAt inp 1 1) 0 then (keep [] d).reply 0x0101 rcSuccess []
    else if (es.take n).map eventHandle = hs then (keep (es.drop n) d).reply 0x0101 rcSuccess []
    else d.reply 0x0101 rcInvalidHandle [])
/-- CLEAR_EVENT_RECORDS (R414). -/
def execClearEventRecords (inp : List Nat) (s : State) : Host.Outcome State Fault Refusal := s.onDev (Wf.clearEventRecords inp) (clearEventRecords inp)
/-- GET_EVENT_INTERRUPT_POLICY: one byte a log, its mode with vector 2. -/
def getEventInterruptPolicy (inp : List Nat) (d : Dev) : Dev :=
  d.mbox 0x0102 (inp.length == 0) (fun d =>
    d.reply 0x0102 rcSuccess ((upTo 5).map (fun k => bitsOf d.host.mbox.intPolicy (8 * k) 2 + 0x20)))
/-- GET_EVENT_INTERRUPT_POLICY (R414). -/
def execGetEventInterruptPolicy (inp : List Nat) (s : State) : Host.Outcome State Fault Refusal :=
  s.onDev (Wf.getEventInterruptPolicy inp) (getEventInterruptPolicy inp)
/-- SET_EVENT_INTERRUPT_POLICY. -/
def setEventInterruptPolicy (inp : List Nat) (d : Dev) : Dev :=
  d.mbox 0x0103 (inp.length == 4 || inp.length == 5) (fun d =>
    (d.setMbox (fun m => { m with intPolicy := leNat inp })).reply 0x0103 rcSuccess [])
/-- SET_EVENT_INTERRUPT_POLICY (R414). -/
def execSetEventInterruptPolicy (inp : List Nat) (s : State) : Host.Outcome State Fault Refusal :=
  s.onDev (Wf.setEventInterruptPolicy inp) (setEventInterruptPolicy inp)
/-- GET_TIMESTAMP. -/
def getTimestamp (inp : List Nat) (d : Dev) : Dev := d.mbox 0x0300 (inp.length == 0) (fun d => d.reply 0x0300 rcSuccess (leBytes 8 d.eventTime))
/-- GET_TIMESTAMP (R414). -/
def execGetTimestamp (inp : List Nat) (s : State) : Host.Outcome State Fault Refusal := s.onDev (Wf.getTimestamp inp) (getTimestamp inp)
/-- SET_TIMESTAMP: the time unit is not affected. -/
def setTimestamp (inp : List Nat) (d : Dev) : Dev :=
  d.mbox 0x0301 (inp.length == 8) (fun d =>
    (d.setMbox (fun m => { m with timestamp := leNat inp, timestampTick := d.tick })).reply 0x0301 rcSuccess [])
/-- SET_TIMESTAMP (R414). -/
def execSetTimestamp (inp : List Nat) (s : State) : Host.Outcome State Fault Refusal := s.onDev (Wf.setTimestamp inp) (setTimestamp inp)

/-! ## Logs, memory and health (R414) -/

/-- The UUID of the command effects log. -/
def celUuid : List Nat := [0x0D, 0xA9, 0xC0, 0xB5, 0xBF, 0x41, 0x4B, 0x78, 0x8F, 0x79, 0x96, 0xB1, 0x62, 0x3B, 0x3F, 0x17]
/-- The command effects log: the commands of R414 and R415 with their effects (bit 1 configuration change immediate, bit 6
background operation, bit 0 configuration change after reset). -/
def celLog : List Nat :=
  [(0x0100, 0), (0x0101, 0), (0x0102, 0), (0x0103, 2), (0x0200, 0), (0x0201, 0x40), (0x0202, 1), (0x0300, 0), (0x0301, 2), (0x0400, 0),
    (0x0401, 0), (0x4000, 0), (0x4200, 0), (0xC000, 0), (0xC001, 0x42), (0xC002, 2), (0xC003, 2), (0xC004, 0), (0xC010, 0), (0xC011, 0),
    (0xC012, 2), (0xC013, 2)].flatMap (fun e => leBytes 2 e.1 ++ leBytes 2 e.2)
/-- GET_SUPPORTED_LOGS. -/
def getSupportedLogs (inp : List Nat) (d : Dev) : Dev :=
  d.mbox 0x0400 (inp.length == 0) (fun d => d.reply 0x0400 rcSuccess (leBytes 2 1 ++ List.replicate 6 0 ++ celUuid ++ leBytes 4 celLog.length))
/-- GET_SUPPORTED_LOGS (R414). -/
def execGetSupportedLogs (inp : List Nat) (s : State) : Host.Outcome State Fault Refusal := s.onDev (Wf.getSupportedLogs inp) (getSupportedLogs inp)
/-- GET_LOG. -/
def getLog (inp : List Nat) (d : Dev) : Dev :=
  d.mbox 0x0401 (inp.length == 24) (fun d =>
    let off := leAt inp 16 4
    let n := leAt inp 20 4
    if inp.take 16 != celUuid then d.reply 0x0401 rcInvalidLog []
    else if celLog.length < off + n then d.reply 0x0401 rcInvalidInput []
    else d.reply 0x0401 rcSuccess (cut celLog off n))
/-- GET_LOG (R414). -/
def execGetLog (inp : List Nat) (s : State) : Host.Outcome State Fault Refusal := s.onDev (Wf.getLog inp) (getLog inp)
/-- A number in hexadecimal digits. -/
def hexDigits (k n : Nat) : List Nat := ((upTo k).map (fun i => let x := bitsOf n (4 * i) 4; if x < 10 then 48 + x else 87 + x)).reverse
/-- The firmware revision as ASCII. -/
def Dev.fwRevision (d : Dev) : List Nat := hexDigits 16 (d.rget GLB_FW_VERSION).toNat
/-- IDENTIFY_MEMORY_DEVICE: 80 GiB volatile in multiples of 256 MiB, nothing persistent, no poison list. -/
def identifyMemoryDevice (inp : List Nat) (d : Dev) : Dev :=
  d.mbox 0x4000 (inp.length == 0) (fun d =>
    d.reply 0x4000 rcSuccess (d.fwRevision ++ leBytes 8 320 ++ leBytes 8 320 ++ leBytes 8 0 ++ leBytes 8 0 ++ leBytes 2 0 ++ leBytes 2 0 ++
      leBytes 2 64 ++ leBytes 2 0 ++ leBytes 4 0 ++ leBytes 3 0 ++ leBytes 2 0 ++ [0, 0] ++ leBytes 2 0))
/-- IDENTIFY_MEMORY_DEVICE (R414). -/
def execIdentifyMemoryDevice (inp : List Nat) (s : State) : Host.Outcome State Fault Refusal :=
  s.onDev (Wf.identifyMemoryDevice inp) (identifyMemoryDevice inp)
/-- GET_HEALTH_INFO: health status (bit 0 maintenance needed where a package is untrained or LPDDR5X has failed), the temperature
in °C, and the corrected and uncorrected LPDDR5X counts. -/
def getHealthInfo (inp : List Nat) (d : Dev) : Dev :=
  d.mbox 0x4200 (inp.length == 0) (fun d =>
    let bad := d.fget LPX_STATUS_PKG_TRAINED != 0x1F || d.dom 28 == dsFailed
    let sum (f : Nat → Fld) : Nat := min ((upTo 5).map (fun c => d.fget (f c))).sum (2 ^ 32 - 1)
    d.reply 0x4200 rcSuccess ([b2n bad, b2n bad, 0, 0xFF] ++ leBytes 2 (wrapTo 16 (d.fint PWR_STATUS_TEMP_MAX / 10)) ++ leBytes 4 0 ++
      leBytes 4 (sum LPX_ERR_CORRECTED) ++ leBytes 4 0 ++ leBytes 4 (sum LPX_ERR_UNCORRECTED)))
/-- GET_HEALTH_INFO (R414). -/
def execGetHealthInfo (inp : List Nat) (s : State) : Host.Outcome State Fault Refusal := s.onDev (Wf.getHealthInfo inp) (getHealthInfo inp)
/-- MAILBOX_UNSUPPORTED (R414). -/
def execMailboxUnsupported (opcode : Nat) (inp : List Nat) (s : State) : Host.Outcome State Fault Refusal :=
  s.onDev (Wf.mailboxUnsupported opcode inp) (fun d => d.mbox opcode true (fun d => d.reply opcode rcUnsupported []))

/-! ## Firmware update (R550) -/

/-- R550: programming is in progress. -/
def Dev.programming (d : Dev) : Bool := d.fget SEC_UPDATE_UPDATE_STATE == 2
/-- GET_FW_INFO: one slot, the staged one where an image has been programmed. -/
def getFwInfo (inp : List Nat) (d : Dev) : Dev :=
  d.mbox 0x0200 (inp.length == 0) (fun d =>
    d.reply 0x0200 rcSuccess ([1, 1 + 8 * b2n (d.fget SEC_UPDATE_UPDATE_STATE == 3), 0] ++ List.replicate 13 0 ++ d.fwRevision ++ List.replicate 48 0))
/-- GET_FW_INFO (R414). -/
def execGetFwInfo (inp : List Nat) (s : State) : Host.Outcome State Fault Refusal := s.onDev (Wf.getFwInfo inp) (getFwInfo inp)
/-- A background command starts, and completes. -/
def Dev.background (d : Dev) (op code : Nat) (bs : List Nat) : Dev := (d.reply op rcBackground []).reply op code bs
/-- A part of an image joins those staged; the last one makes it STAGED. -/
def Dev.stage (d : Dev) (bs : List Nat) (last : Bool) : Dev :=
  if fwMax < bs.length then (d.setMbox (fun m => { m with staged := [], transferring := false })).background 0x0201 rcInvalidInput []
  else
    let d := d.setMbox (fun m => { m with staged := bs, transferring := !last })
    (if last then d.fset SEC_UPDATE_UPDATE_STATE 1 else d).background 0x0201 rcSuccess []
/-- TRANSFER_FW: actions 0 full, 1 initiate, 2 continue, 3 end, 4 abort, each part at its offset. -/
def transferFw (inp : List Nat) (d : Dev) : Dev :=
  d.mbox 0x0201 (decide (128 ≤ inp.length)) (fun d =>
    let m := d.host.mbox
    let act := leAt inp 0 1
    let off := 128 * leAt inp 4 4
    let part := inp.drop 128
    if d.programming then d.reply 0x0201 rcBusy []
    else if 4 < act then d.reply 0x0201 rcInvalidInput []
    else if act = 4 then (d.setMbox (fun m => { m with staged := [], transferring := false })).reply 0x0201 rcSuccess []
    else if (act = 0 ∨ act = 3) ∧ 1 < leAt inp 1 1 then d.reply 0x0201 rcInvalidSlot []
    else if act ≤ 1 then (if m.transferring then d.reply 0x0201 rcTransferring [] else d.stage part (act == 0))
    else if !m.transferring || off != m.staged.length then d.reply 0x0201 rcOutOfOrder []
    else d.stage (m.staged ++ part) (act == 3))
/-- TRANSFER_FW (R414, R550). -/
def execTransferFw (inp : List Nat) (s : State) : Host.Outcome State Fault Refusal := s.onDev (Wf.transferFw inp) (transferFw inp)
/-- ACTIVATE_FW: verification, then programming begins. -/
def activateFw (inp : List Nat) (d : Dev) : Dev :=
  d.mbox 0x0202 (inp.length == 2) (fun d =>
    if d.programming then d.reply 0x0202 rcBusy []
    else if leAt inp 0 1 ≠ 1 then d.reply 0x0202 rcInvalidInput []
    else if 1 < leAt inp 1 1 then d.reply 0x0202 rcInvalidSlot []
    else if fwCheck d.host.mbox.staged (max d.owner.minSvn d.owner.minFwSvn) ≠ 0 then
      (d.fset SEC_UPDATE_UPDATE_STATE 4).reply 0x0202 rcInvalidInput []
    else (d.fsets [(SEC_UPDATE_UPDATE_STATE, 2), (SEC_UPDATE_PROGRAMMED_KIB, 0)]).reply 0x0202 rcSuccess [])
/-- ACTIVATE_FW (R414, R550). -/
def execActivateFw (inp : List Nat) (s : State) : Host.Outcome State Fault Refusal := s.onDev (Wf.activateFw inp) (activateFw inp)
/-- FW_PROGRAMMING_DONE: flash holds the staged image; in recovery mode the device resets itself. -/
def fwProgrammingDone (ok : Bool) (d : Dev) : Dev :=
  if !d.programming || d.rce.dead then d
  else if !ok then { d.fset SEC_UPDATE_UPDATE_STATE 5 with boot := { d.boot with torn := true } }
  else
    let bs := d.host.mbox.staged
    let d := { d with flash := memPuts d.flash 0 (fwImage bs), boot := { d.boot with torn := false } }
    let d := d.fsets [(SEC_UPDATE_UPDATE_STATE, 3), (SEC_UPDATE_PROGRAMMED_KIB, ceilDiv (fwImage bs).length 1024)]
    if d.flag GLB_STATUS_RECOVERY then d.resetDevice else d
/-- FW_PROGRAMMING_DONE (R550). -/
def execFwProgrammingDone (ok : Bool) (s : State) : Host.Outcome State Fault Refusal := s.onDev (Wf.fwProgrammingDone ok) (fwProgrammingDone ok)

/-! ## Vendor commands (R415 to R417) -/

/-- R415: the failed units among a list. -/
def Dev.failedOf (d : Dev) (us : List Nat) : Nat := (us.filter (fun u => d.fab.failed.contains u)).length
/-- R415: usable tiles: a block's sound spare serves one failed tile. -/
def Dev.usableTiles (d : Dev) : Nat :=
  ((upTo 256).map (fun b => 16 - (d.failedOf ((upTo 16).map (tileId b)) - b2n (!d.fab.failed.contains (tileId b 16))))).sum
/-- R415: usable VUs: a domain's sound spares serve as many failed VUs. -/
def Dev.usableVus (d : Dev) : Nat :=
  ((upTo 16).map (fun k => 32 - (d.failedOf ((domainBlocks k).flatMap (fun b => [unitId 1 b 0, unitId 1 b 1])) -
    (2 - d.failedOf [unitId 7 k 0, unitId 7 k 1])))).sum
/-- R415: usable MUs. -/
def Dev.usableMus (d : Dev) : Nat := 256 - d.failedOf ((upTo 256).map (fun b => unitId 2 b 0))
/-- GET_DEVICE_INFO. -/
def getDeviceInfo (inp : List Nat) (d : Dev) : Dev :=
  d.mbox 0xC000 (inp.length == 0) (fun d => d.vanswer 0xC000 vsOk (leBytes 8 (d.rget GLB_ID).toNat ++ leBytes 8 (d.rget GLB_SERIAL).toNat ++
    leBytes 8 (d.rget GLB_FW_VERSION).toNat ++ leBytes 4 d.usableTiles ++ leBytes 4 d.usableVus ++ leBytes 4 d.usableMus ++ leBytes 4 d.vatWords))
/-- GET_DEVICE_INFO (R415). -/
def execGetDeviceInfo (inp : List Nat) (s : State) : Host.Outcome State Fault Refusal := s.onDev (Wf.getDeviceInfo inp) (getDeviceInfo inp)
/-- REGION_CREATE. -/
def regionCreate (inp : List Nat) (d : Dev) : Dev :=
  d.mbox 0xC001 (inp.length == 5) (fun d =>
    let kind := leAt inp 0 1
    let vs (d : Dev) (v : Nat) (bs : List Nat) : Dev := d.background 0xC001 rcSuccess (leBytes 4 v ++ bs)
    if kind = 0 ∨ 4 < kind then vs d vsBadKind []
    else match d.regionAlloc kind (leAt inp 1 4) with
      | none => vs d vsNoSpace []
      | some (k, e) => vs e vsOk ([k] ++ leBytes 4 (e.fget (LPX_REGION_BASE_MIB k))))
/-- REGION_CREATE (R416). -/
def execRegionCreate (inp : List Nat) (s : State) : Host.Outcome State Fault Refusal := s.onDev (Wf.regionCreate inp) (regionCreate inp)
/-- R416: an address lies in a region. -/
def Dev.inEntry (d : Dev) (k a : Nat) : Bool := decide ((d.regionSpan k).1 ≤ a) && decide (a < (d.regionSpan k).1 + (d.regionSpan k).2)
/-- R416: the region is in use. -/
def Dev.regionInUse (d : Dev) (k : Nat) : Bool :=
  (d.flag VAT_CURD_CTRL_ENABLE && d.inEntry k (d.fget VAT_CURD_AREA_BASE_4K * 0x1000)) ||
    (d.flag GLB_CQ_CFG_ENABLE && d.fget GLB_CQ_BASE_LOC == 1 && d.inEntry k d.cqAddr) ||
    d.rce.regions.contains k || d.rce.installed.any (fun e => d.inEntry k e.2.addr) ||
    ((d.rce.image.map (fun im => im.slots.any (fun e => ((d.bank? e.bank).map (fun b => d.inEntry k b.addr)).getD false))).getD false)
/-- REGION_FREE. -/
def regionFree (inp : List Nat) (d : Dev) : Dev :=
  d.mbox 0xC002 (inp.length == 1) (fun d =>
    let k := leAt inp 0 1
    let kind := d.fget (LPX_REGION_KIND k)
    if 15 < k ∨ kind = 0 ∨ 5 ≤ kind then d.vanswer 0xC002 vsNotPermitted []
    else if d.regionInUse k then d.vanswer 0xC002 vsInUse []
    else
      let e := if kind = 3 then { d with rce := { d.rce with library := d.rce.library.filter (fun b => !d.inEntry k b.addr) } } else d
      (e.regionDrop k).vanswer 0xC002 vsOk [])
/-- REGION_FREE (R416). -/
def execRegionFree (inp : List Nat) (s : State) : Host.Outcome State Fault Refusal := s.onDev (Wf.regionFree inp) (regionFree inp)
/-- RESET: refused while programming is in progress (R550), else the device resets after its response. -/
def reset (inp : List Nat) (d : Dev) : Dev :=
  d.mbox 0xC003 (inp.length == 1) (fun d =>
    if d.programming then d.vanswer 0xC003 vsInUse []
    else
      let d := d.vanswer 0xC003 vsOk []
      (if bitAt (leAt inp 0 1) 0 then d.selfRefresh else d).resetDevice)
/-- RESET (R415, R417, R550). -/
def execReset (inp : List Nat) (s : State) : Host.Outcome State Fault Refusal := s.onDev (Wf.reset inp) (reset inp)
/-- LOG_INFO: the run log's base, size and write offset. -/
def logInfo (inp : List Nat) (d : Dev) : Dev :=
  d.mbox 0xC004 (inp.length == 0) (fun d =>
    let size := d.fget (LPX_REGION_SIZE_MIB 0) * 0x100000
    d.vanswer 0xC004 vsOk (leBytes 8 (d.fget (LPX_REGION_BASE_MIB 0) * 0x100000) ++ leBytes 8 size ++
      leBytes 8 ((4096 * d.obs.logPages.length + d.obs.logCur.length) % size)))
/-- LOG_INFO (R415, R484). -/
def execLogInfo (inp : List Nat) (s : State) : Host.Outcome State Fault Refusal := s.onDev (Wf.logInfo inp) (logInfo inp)

end Sys2Proof.Machine
end

