-- ==== Sys2Proof/Machine/RegWrite.lean ====
section
/-!
DEFINITION. REGISTER_WRITE (R10 to R12, R396, R397): a host write of four or eight bytes to a register: the size and alignment
check, the blocks that respond, fields by access code, the clamps and conditions of each register, and the operations that a
field starts, each as its own command makes it.
-/

namespace Sys2Proof.Machine

open Sys2Proof

/-! ## The parts of a write -/

/-- A write that has reached a register: its offset, the value of the whole register as the write would leave it, the bits
written as 0 or 1, and the bits of them that are 1. -/
structure RegW where
  off : Nat
  v : Nat
  mask : Nat
  ones : Nat

/-- R10: a write of a size at an address to a register that holds a value. -/
def regW (old addr size data : Nat) : RegW :=
  let lo := 8 * (addr % 8)
  let mask := (2 ^ (8 * size) - 1) <<< lo
  let ones := (data <<< lo) &&& mask
  { off := addr - addr % 8, v := (old - (old &&& mask)) + ones, mask := mask, ones := ones }
/-- The index of a register in an array of a stride. -/
def RegW.index (w : RegW) (base stride : Nat) : Nat := (w.off - base) / stride
/-- The register lies in an array. -/
def RegW.within (w : RegW) (base stride count : Nat) : Bool :=
  decide (base ≤ w.off) && decide (w.off < base + stride * count) && (w.off - base) % stride == 0
/-- A field of the value as written. -/
def RegW.get (w : RegW) (f : Fld) : Nat := bitsOf w.v f.lsb f.width
/-- A one was written to a field of one bit. -/
def RegW.one (w : RegW) (f : Fld) : Bool := bitAt w.ones f.lsb
/-- The write reaches a field. -/
def RegW.touches (w : RegW) (f : Fld) : Bool := bitsOf w.mask f.lsb f.width != 0
/-- The effect of a command on the device. -/
def Dev.via (d : Dev) (g : State → Host.Outcome State Fault Refusal) : Dev :=
  match g { dev := d, jtag := {}, pending := [] } with
  | .next s => s.dev
  | .fault _ => d
  | .refused _ => d
/-- A field takes what was written where the write reaches it and a condition holds. -/
def Dev.take (d : Dev) (w : RegW) (c : Bool) (f : Fld) (g : Nat → Nat) : Dev := if c && w.touches f then d.fset f (g (w.get f)) else d
/-- R11: the RW fields of a register take what was written. -/
def Dev.storeRw (d : Dev) (w : RegW) (rw : Nat) : Dev :=
  let old := (d.rget w.off).toNat
  d.rset w.off (BitVec.ofNat 64 ((old - (old &&& rw)) + (w.v &&& rw)))

/-! ## Registers whose writes do more (by block) -/

/-- GLB (R407, R423, R424). -/
def Dev.writeGlb (d : Dev) (w : RegW) (r : RegDesc) : Dev :=
  if w.off = GLB_CQ_BASE then (if d.flag GLB_CQ_CFG_ENABLE then d else d.storeRw w r.rw)
  else if w.off = GLB_CQ_CFG then
    let d := d.when (w.one GLB_CQ_CFG_STAT_CLEAR) (fun d => d.via execCqStatClear)
    if !w.touches GLB_CQ_CFG_ENABLE then d
    else if w.get GLB_CQ_CFG_ENABLE = 1 then d.via (execCqEnable w.v)
    else (d.cqConfigure w.v).fset GLB_CQ_CFG_ENABLE 0
  else if w.off = GLB_CQ_HEAD then (if w.touches GLB_CQ_HEAD_HEAD then d.via (execCqHeadWrite (w.get GLB_CQ_HEAD_HEAD)) else d)
  else (d.storeRw w r.rw).clearMask w.off (w.ones &&& r.w1c)
/-- RCE (R275, R277 to R282). -/
def Dev.writeRce (d : Dev) (w : RegW) (r : RegDesc) : Dev :=
  if w.off = RCE_SUBMIT then
    (if w.touches RCE_SUBMIT_TASKS then d.via (execGraphSubmit (bitsOf w.ones 32 16) (bitsOf w.ones 0 13)) else d)
  else if w.off = RCE_LOAD_CFG then (if w.touches RCE_LOAD_CFG_MARGIN_PCT then d.via (execLoadCfgWrite w.v) else d)
  else if w.off = RCE_CHAR_QUERY then (if w.touches RCE_CHAR_QUERY_VFLOOR_MV then d.via (execCharQueryWrite w.v) else d)
  else if w.within (RCE_GRAPH 0) 8 16 then
    let g := w.index (RCE_GRAPH 0) 8
    d.when (w.one (RCE_GRAPH_ABORT g)) (fun d => d.via (execGraphAbort g))
  else (d.storeRw w r.rw).clearMask w.off (w.ones &&& r.w1c)
/-- DP (R401, R406, R429, R430). -/
def Dev.writeDp (d : Dev) (w : RegW) (r : RegDesc) : Dev :=
  if w.off = DP_CTRL ∧ w.one DP_CTRL_ABORT then
    (if d.flag DP_STATUS_BUSY then d else d.storeRw w r.rw).via execDpAbort
  else if w.off = DP_CTRL ∧ w.one DP_CTRL_START then d.via (execDpStart w.v)
  else if d.flag DP_STATUS_BUSY then d
  else d.storeRw w r.rw
/-- TU (R288, R297, R302, R313, R315 to R337). -/
def Dev.writeTu (d : Dev) (w : RegW) (r : RegDesc) : Dev :=
  if w.off = TU_CTRL then
    let d := d.storeRw w r.rw
    let d := d.when (w.one TU_CTRL_COUNT_CLEAR) (fun d => d.via execTuCountClear)
    d.when (w.one TU_CTRL_RESYNC) (fun d => d.via execResync)
  else if w.off = TU_SERVO then
    let d := d.storeRw w r.rw
    (d.fsetInt TU_SERVO_MANUAL_PPB (clampI (-500000) 500000 (d.fint TU_SERVO_MANUAL_PPB))).retune
  else if w.off = TU_TIME_SET then d.via (execTimeSet w.ones)
  else if w.off = TU_STEP_CFG then
    let d := d.storeRw w r.rw
    let d := d.fset TU_STEP_CFG_LEAD_US (max 20 (min 10000 (d.fget TU_STEP_CFG_LEAD_US)))
    if w.touches TU_STEP_CFG_STEP_PHASE_NS then { d with tu := { d.tu with phaseQ := 4 * w.get TU_STEP_CFG_STEP_PHASE_NS } } else d
  else if w.within (TU_TRGOUT_CFG 0) 8 32 then
    let t := w.index (TU_TRGOUT_CFG 0) 8
    let e := d.storeRw w r.rw
    e.when (d.lineOut t != e.lineOut t) (fun e => e.emit (.trgout t (e.tick * 1250) (e.lineOut t)))
  else if w.within (TU_TCAP_CFG 0) 8 8 then
    let i := w.index (TU_TCAP_CFG 0) 8
    (d.storeRw w r.rw).when (w.one (TU_TCAP_CFG_POP i)) (fun d => d.via (execTcapPop i))
  else if w.off = TU_SCHED_SEL then
    let d := (d.storeRw w r.rw).clearMask w.off (w.ones &&& r.w1c)
    let d := d.when (w.one TU_SCHED_SEL_POP) (fun d => d.via execSchedEventPop)
    let i := d.fget TU_SCHED_SEL_INDEX
    match bitsOf w.ones 8 3 with
    | 1 => d.via (execSchedWrite i)
    | 2 => d.via (execSchedRead i)
    | 3 => d.via (execSchedCancel i)
    | _ => d
  else (d.storeRw w r.rw).clearMask w.off (w.ones &&& r.w1c)
/-- RIND (R40 to R57). -/
def Dev.writeRind (d : Dev) (w : RegW) (r : RegDesc) : Dev :=
  if w.off = RIND_CTRL then
    let d := d.when (w.touches RIND_CTRL_CLOSE_INPUTS) (fun d => d.via (execCloseInputs (w.get RIND_CTRL_CLOSE_INPUTS == 1)))
    let d := d.when (w.one RIND_CTRL_SLACK_CLEAR) (fun d => d.via execSlackClear)
    d.when (w.one RIND_CTRL_COUNT_CLEAR) (fun d => d.via execRindCountClear)
  else if w.off = RIND_STAMP_SEL then
    d.when (w.touches RIND_STAMP_SEL_ESQ) (fun d => d.via (execStampSelWrite (w.get RIND_STAMP_SEL_ESQ)))
  else if w.within (RIND_PORT_ALIGN 0) 8 64 then
    let p := w.index (RIND_PORT_ALIGN 0) 8
    d.take w (decide (d.runState ≤ stArmed)) (RIND_PORT_ALIGN_DELAY_TICKS p) (min 1600)
  else if w.within (RIND_STREAM_CFG 0) 0x100 8 then
    let s := w.index (RIND_STREAM_CFG 0) 0x100
    d.when (w.touches (RIND_STREAM_CFG_POLICY s)) (fun d => d.via (execStreamCfgWrite s w.v))
  else (d.storeRw w r.rw).clearMask w.off (w.ones &&& r.w1c)
/-- FAB (R87, R463, R464, R470, R490 to R492). -/
def Dev.writeFab (d : Dev) (w : RegW) (r : RegDesc) : Dev :=
  if w.off = FAB_CTRL then
    let d := d.when (w.one FAB_CTRL_TURN_MIN_CLEAR) (fun d => d.via execTurnMinClear)
    d.when (w.one FAB_CTRL_TIE_COUNT_CLEAR) (fun d => d.via execTieCountClear)
  else if w.off = FAB_LEDGER_CTRL then
    let d := d.when (w.one FAB_LEDGER_CTRL_COUNT_CLEAR) (fun d => d.via execLedgerCountClear)
    d.when (w.one FAB_LEDGER_CTRL_CLEAR) (fun d => d.via execLedgerClear)
  else if w.off = FAB_LEDGER_SEL then
    d.when (w.touches FAB_LEDGER_SEL_INDEX) (fun d => d.via (execLedgerSelWrite (w.get FAB_LEDGER_SEL_INDEX)))
  else if w.off = FAB_ESQ_LEDGER then d.when (w.touches FAB_ESQ_LEDGER_ESQ) (fun d => d.via (execEsqLedgerWrite (w.get FAB_ESQ_LEDGER_ESQ)))
  else if w.off = FAB_OBS_CTRL then
    let d := (d.take w true FAB_OBS_CTRL_FAIL_SELECTOR id).take w true FAB_OBS_CTRL_TAKE_SELECTOR id
    let d := d.when (w.touches FAB_OBS_CTRL_FREEZE) (fun d => d.via (execFreeze (w.get FAB_OBS_CTRL_FREEZE == 1)))
    let d := d.when (w.one FAB_OBS_CTRL_STALL_CLEAR) (fun d => d.via execStallClear)
    d.when (w.one FAB_OBS_CTRL_TAKE) (fun d => d.via execTake)
  else if w.off = FAB_SNAP_AREA then d.via (execSnapAreaWrite w.v)
  else if w.off = FAB_DL_CFG then
    let d := d.storeRw w r.rw
    d.when (!d.flag FAB_DL_CFG_ENABLE) Dev.dropProbes
  else (d.storeRw w r.rw).clearMask w.off (w.ones &&& r.w1c)
/-- PL_CFG (R376): fields that may change only in some run states; then the port and its group follow `TRAIN_EN`. -/
def Dev.writePlCfg (d : Dev) (w : RegW) (p : Nat) : Dev :=
  let still := [stIdle, stLoaded, stDrained].contains d.runState
  let d := (d.take w (d.runState == stIdle) (PL_CFG_ROLE p) id).take w still (PL_CFG_PAYLOAD_BYTES p) id
  let d := (((d.take w still (PL_CFG_RESULT_STREAM p) id).take w still (PL_CFG_RESULT_EN p) id).take w still (PL_CFG_CREDIT_EN p) id).take w
    still (PL_CFG_RETRY_EN p) id
  let d := (((d.take w true (PL_CFG_SRC_ID p) id).take w true (PL_CFG_VERSION_MAX p) id).take w true (PL_CFG_AUTO_RETRY p) id).take w true
    (PL_CFG_TRAIN_EN p) id
  (d.domainsFollow).followTrainEn p
/-- PL (R363, R365, R368 to R373, R376 to R392). -/
def Dev.writePl (d : Dev) (w : RegW) (r : RegDesc) : Dev :=
  let p := w.index (PL_CFG 0) 0x4000
  let l := (w.off % 0x4000 - 0x200) / 0x40
  if w.off = PL_CFG p then d.writePlCfg w p
  else if w.off = PL_CTRL p then
    let d := d.when (w.touches (PL_CTRL_LOOPBACK p) && w.get (PL_CTRL_LOOPBACK p) != d.fget (PL_CTRL_LOOPBACK p)) (fun d => d.via (execTestSettingWrite p 4 w.v))
    let d := d.when (w.touches (PL_CTRL_IDLE_REQ p)) (fun d => d.via (execIdleReq p (w.get (PL_CTRL_IDLE_REQ p) == 1)))
    let d := d.when (w.one (PL_CTRL_LOG_POP p)) (fun d => d.via (execLogPop p))
    let d := d.when (w.one (PL_CTRL_COUNT_CLEAR p)) (fun d => d.via (execPlCountClear p))
    d.when (w.one (PL_CTRL_RETRAIN p)) (fun d => d.via (execRetrain p))
  else if w.off = PL_LANE_SLIP p l then d.when (w.one (PL_LANE_SLIP_SLIP p l)) (fun d => d.via (execSlip p l))
  else if w.off = PL_LANE_PRBS p l then
    if !w.touches (PL_LANE_PRBS_TX_PATTERN p l) then d
    else (d.via (execTestSettingWrite p l w.v)).when (w.one (PL_LANE_PRBS_INJECT_ONE p l)) (fun d => d.via (execInjectOne p l))
  else if w.off = PL_LANE_EQ p l then
    let d := d.when (w.one (PL_LANE_EQ_FREEZE p l)) (fun d => d.freezeTaps p l)
    d.storeRw w r.rw
  else (d.storeRw w r.rw).clearMask w.off (w.ones &&& r.w1c)
/-- VAT (R237 to R246). -/
def Dev.writeVat (d : Dev) (w : RegW) (r : RegDesc) : Dev :=
  if w.off = VAT_CURD_CTRL then
    let d := d.when (w.one VAT_CURD_CTRL_COUNT_CLEAR) (fun d => d.via execCurdCountClear)
    d.when (w.touches VAT_CURD_CTRL_ENABLE) (fun d => d.via (execCurdEnableWrite (w.get VAT_CURD_CTRL_ENABLE == 1)))
  else if w.off = VAT_CURD_AREA then d.via (execCurdAreaWrite w.v)
  else if w.off = VAT_CURD_PTR then d.when (w.touches VAT_CURD_PTR_RD) (fun d => d.via (execCurdRdWrite w.v))
  else if w.within (VAT_CURD_RULE 0) 0x20 16 then d.via (execCurdRuleWrite (w.index (VAT_CURD_RULE 0) 0x20) w.v)
  else (d.storeRw w r.rw).clearMask w.off (w.ones &&& r.w1c)
/-- R507: the thresholds, each held in its range. -/
def Dev.clampTherm (d : Dev) : Dev :=
  let top := bitsOf (regReset PWR_THERM_CFG).toNat 16 16
  let c := max 410 (min top (d.fget PWR_THERM_CFG_CRIT_DC))
  d.fsets [(PWR_THERM_CFG_CRIT_DC, c), (PWR_THERM_CFG_WARN_DC, max 400 (min (c - 10) (d.fget PWR_THERM_CFG_WARN_DC)))]
/-- PWR (R502, R503, R506, R507, R510, R513 to R518). -/
def Dev.writePwr (d : Dev) (w : RegW) (r : RegDesc) : Dev :=
  if w.off = PWR_STATUS then
    (d.clearMask w.off (w.ones &&& (PWR_STATUS_UV_WARN.mask ||| PWR_STATUS_REQ_REFUSED.mask))).when (w.one PWR_STATUS_HOT_LOCK) (fun d => d.via execHotLockWrite)
  else if w.off = PWR_THERM_CFG then
    (d.storeRw w r.rw).clampTherm.when (w.one PWR_THERM_CFG_PEAK_CLEAR) (fun d => d.via execPeakClear)
  else if w.off = PWR_AVC_CFG then
    let d := d.storeRw w r.rw
    (d.fset PWR_AVC_CFG_INTERVAL_US (max 10 (min 4000 (d.fget PWR_AVC_CFG_INTERVAL_US)))).trimVolts
  else if w.within (PWR_DOMAIN_CTRL 0) 8 30 then
    let k := w.index (PWR_DOMAIN_CTRL 0) 8
    let d := (d.take w (decide (k < 16)) (PWR_DOMAIN_CTRL_FIXED_MV k) id).trimVolts
    if w.touches (PWR_DOMAIN_CTRL_REQ k) then d.request k (w.get (PWR_DOMAIN_CTRL_REQ k)) else d
  else (d.storeRw w r.rw).clearMask w.off (w.ones &&& r.w1c)

/-! ## The write (R11, R89, R396, R397) -/

/-- R396: the effect of a write on a register, by its block. -/
def Dev.writeReg (d : Dev) (w : RegW) (r : RegDesc) : Dev :=
  if w.off < 0x10000 then d.writeGlb w r
  else if w.off < 0x20000 then d.writeRce w r
  else if w.off < 0x30000 then d.writeDp w r
  else if w.off < 0x40000 then d.writeTu w r
  else if w.off < 0x80000 then d.writeRind w r
  else if w.off < 0x100000 then d.writeFab w r
  else if w.off < 0x200000 then d.writePl w r
  else if w.off < 0x280000 then d.writeVat w r
  else if 0x300000 ≤ w.off ∧ w.off < 0x380000 then d.writePwr w r
  else d
/-- R397: the blocks that respond before READY and in recovery mode. -/
def alwaysResponds (addr : Nat) : Bool := decide (addr < 0x10000) || (decide (0x380000 ≤ addr) && decide (addr < 0x400000))
/-- R10, R11, R397: what a host's read of BAR0 returns, and the device after it: one half or all of a register as it shows at this
instant, WO and reserved bits as zero; zero for a bad access, with BAD_ACCESS, and at a reserved offset, with UNMAPPED. The table
of commands has no row for a read but those of TU_TIME and of the DP window (log entry 154). -/
def Dev.registerRead (d : Dev) (addr size : Nat) : Nat × Dev :=
  if !(size == 4 || size == 8) || addr % size != 0 then (0, d.event GLB_STATUS_BAD_ACCESS)
  else if !d.ready && !alwaysResponds addr then (0, d)
  else
    let off := addr - addr % 8
    match regAt off with
    | none => (0, d.event GLB_STATUS_UNMAPPED)
    | some _ => (bitsOf (d.view off) (8 * (addr % 8)) (8 * size), d)
/-- R395: word k of BAR2 is written: of an MSI-X vector's control the mask alone, with which a pending message leaves; the pending bits
take none. -/
def Dev.bar2Put (d : Dev) (k v : Nat) : Dev :=
  let set (v : Nat) : Dev := { d with host := { d.host with bar2 := pput k v d.host.bar2 } }
  if 0xC000 ≤ k then d
  else if 0x8000 ≤ k then
    if 0x8010 ≤ k then d
    else if k % 4 ≠ 3 then set v
    else
      let d := set (v % 2)
      let n := (k - 0x8000) / 4
      if v % 2 = 0 ∧ bitAt d.host.msixPending n then { d with host := { d.host with msixPending := setBits d.host.msixPending n 1 0 } }.signal n else d
  else set v
/-- R395: a write of four or eight bytes to BAR2, aligned; any other does nothing. -/
def Dev.bar2Write (d : Dev) (off size data : Nat) : Dev :=
  if !(size == 4 || size == 8) || off % size != 0 then d
  else d.each (upTo (size / 4)) (fun d k => d.bar2Put (off / 4 + k) (bitsOf data (32 * k) 32))
/-- R395: word k of BAR2 as the host reads it. -/
def Dev.bar2Read (d : Dev) (k : Nat) : Nat := if 0xC000 ≤ k then (if k = 0xC000 then d.host.msixPending else 0) else d.bar2Word k
/-- REGISTER_WRITE: an address from 2²⁶ on is BAR2's. -/
def registerWrite (addr size data : Nat) (d : Dev) : Dev :=
  if 2 ^ 26 ≤ addr then d.bar2Write (addr - 2 ^ 26) size data else
  if dpWindow ≤ addr ∧ addr < dpWindow + 0x1000 then d
  else if !(size == 4 || size == 8) || addr % size != 0 then d.event GLB_STATUS_BAD_ACCESS
  else if !d.ready && !alwaysResponds addr then d
  else
    let off := addr - addr % 8
    match regAt off with
    | none => d.event GLB_STATUS_UNMAPPED
    | some r =>
      if r.cfg then d.event FAB_STATUS_CFG_WRITE_DROP
      else d.writeReg (regW (d.rget off).toNat addr size (data % 2 ^ (8 * size))) r
/-- REGISTER_WRITE (R10, R11, R397). -/
def execRegisterWrite (addr size data : Nat) (s : State) : Host.Outcome State Fault Refusal :=
  s.onDev (Wf.registerWrite addr size data) (registerWrite addr size data)

end Sys2Proof.Machine
end

