-- ==== Sys2Proof/Machine/Scan.lean ====
section
/-!
DEFINITION. The promenade's scans (R487 to R489): SCAN_OUT and SCAN_IN.
-/

namespace Sys2Proof.Machine

open Sys2Proof

/-! ## Tokens as bits (R69) -/

/-- R69: a parity bit that makes it and the bits it covers even. -/
def evenParity (w n : Nat) : Nat := popCount w n % 2
/-- R70: the code of a token's kind. -/
def kindCode : TokKind → Nat
  | .data => 0
  | .mark => 1
  | .flush => 2
  | .cond => 3
/-- R69: ESQ, KIND and HPAR, as the top 15 bits of a token. -/
def headerBits (t : Token) : Nat :=
  let h := t.esq * 4 + kindCode t.kind
  h * 2 + evenParity 14 h
/-- R69: a token of a network as a number. -/
def tokenBits (net : Nat) (t : Token) : Nat :=
  let p := t.payload.toNat
  if net = 1 then headerBits t * 2 ^ 528 + ((upTo 16).map (fun i => evenParity 32 (bitsOf p (32 * i) 32) * 2 ^ i)).sum * 2 ^ 512 + p
  else
    let w := if net = 0 then 32 else 16
    headerBits t * 2 ^ (w + 1) + evenParity w (p % 2 ^ w) * 2 ^ w + p % 2 ^ w
/-- R488: a token as a scan writes it. -/
def tokenBytes (net : Nat) (t : Token) : List Nat := leBytes (if net = 1 then 72 else 8) (tokenBits net t)

/-! ## The records of SCAN_OUT (R488) -/

/-- R488: the sink record of a sink that holds tokens. -/
def Dev.sinkRecord (d : Dev) (b net i : Nat) : List Nat :=
  let ts := pgetD d.fab.queues (qnum b net i) []
  if ts = [] then [] else [net, i, ts.length, 0, 0, 0, 0, 0] ++ ts.flatMap (tokenBytes net)
/-- R488: the sink records of a block, by network and index. -/
def Dev.sinkRecords (d : Dev) (b : Nat) : List (List Nat) :=
  ((upTo 3).flatMap (fun net => (upTo (sinkCount net)).map (d.sinkRecord b net))).filter (fun r => r != [])
/-- R488: the units of a block that the image uses, its selected spare VUs included. -/
def Dev.blockUnits (d : Dev) (b : Nat) : List Nat :=
  ((upTo 17).map (tileId b) ++ [d.physVu b 0, d.physVu b 1, unitId 2 b 0]).filter d.unitUsed
/-- A value of a scan: its bytes, and whether its parity is known bad. -/
abbrev ScanValue := List Nat × Bool
/-- A value held in a register. -/
def Dev.scanReg (d : Dev) (u off : Nat) (locs : List Nat) : ScanValue := (leBytes 8 (d.view off), locs.any (d.isBad u))
/-- R488: the values of a unit. -/
def Dev.unitValues (d : Dev) (u : Nat) (muData : Bool) : List ScanValue :=
  let b := unitWhere u
  if unitClass u = 0 then
    let t := unitIndex u
    [d.scanReg u (BLK_TILE_STATE b t) []] ++ (upTo 16).map (fun i => d.scanReg u (BLK_TILE_GREG b t i) [i]) ++
      [d.scanReg u (BLK_TILE_COUNTERS b t) [20, 21, 22, 23]] ++
      (upTo 64).map (fun j => d.scanReg u (BLK_TILE_LUT b t j) ((upTo 4).map (fun i => 32 + 4 * j + i)))
  else if unitClass u = 2 then
    [d.scanReg u (BLK_MU_STATUS b) [], d.scanReg u (BLK_MU_AGU_ADDR b 0) [], d.scanReg u (BLK_MU_AGU_ADDR b 1) []] ++
      (if muData then (upTo 7680).map (fun w => (d.bytes (muWordAddr b w) 64, d.isBad u w)) else [])
  else
    let w := vuWindow u
    [d.scanReg u (BLK_VU_STATE w) []] ++ (upTo 4).map (fun k => d.scanReg u (BLK_VU_S2 w k) [256 + k]) ++
      (upTo 4).map (fun k => d.scanReg u (BLK_VU_S2_LIM w k) [256 + k])
/-- R488: the values of a scan are written as zero where their parity fails; `at_` numbers the first of them. -/
def scanValues (bad : List Nat) : Nat → List ScanValue → List Nat × Nat
  | _, [] => ([], 0)
  | n, v :: l =>
    let r := scanValues bad (n + 1) l
    if v.2 || bad.contains n then (List.replicate v.1.length 0 ++ r.1, r.2 + 1) else (v.1 ++ r.1, r.2)
/-- R488: the unit records of a list: their bytes, the values written so far, and the values written as zero. -/
def Dev.unitRecords (d : Dev) (muData : Bool) (bad : List Nat) : Nat → List Nat → List Nat × Nat × Nat
  | n, [] => ([], n, 0)
  | n, u :: l =>
    let vs := d.unitValues u muData
    let r := scanValues bad n vs
    let x := d.unitRecords muData bad (n + vs.length) l
    (leBytes 4 u ++ leBytes 4 vs.length ++ r.1 ++ x.1, x.2.1, r.2 + x.2.2)
/-- R488: the record of a block. -/
def Dev.blockRecord (d : Dev) (muData : Bool) (bad : List Nat) (n b : Nat) : List Nat × Nat × Nat :=
  let sinks := d.sinkRecords b
  let us := d.blockUnits b
  let x := d.unitRecords muData bad n us
  let len := 32 + sinks.flatten.length + x.1.length
  (leBytes 2 b ++ leBytes 2 1 ++ leBytes 4 len ++ leBytes 2 sinks.length ++ leBytes 2 us.length ++ leBytes 2 (b2n muData) ++ leBytes 2 0 ++
    leBytes 4 (d.fget RCE_RUN_CTX_RUN_CTX) ++ leBytes 4 0 ++ leBytes 8 d.tick ++ sinks.flatten ++ x.1, x.2)
/-- R488: the records of a list of blocks, and the values written as zero. -/
def Dev.blockRecords (d : Dev) (muData : Bool) (bad : List Nat) : Nat → List Nat → List Nat × Nat
  | _, [] => ([], 0)
  | n, b :: l =>
    let x := d.blockRecord muData bad n b
    let r := d.blockRecords muData bad x.2.1 l
    (x.1 ++ r.1, x.2.2 + r.2)

/-! ## SCAN_OUT (R487) -/

/-- R487: the blocks that a scan's mask selects. -/
def Dev.scanBlocks (d : Dev) (a : Nat) : List Nat := if a = 0 then upTo 256 else onesOf 256 (d.leMem a 32)
/-- R487: a scan task runs, or waits for the break. -/
def Dev.scanBegins (d : Dev) (slot idx op : Nat) : Bool :=
  d.taskBegins slot idx op || (d.taskStatus slot idx == tsRunning && d.taskOp slot idx == op && (d.waiters .scan).contains (slot, idx))
/-- R487: in SEGMENT_BREAK a scan waits until the break is reached. -/
def Dev.scanWaits (d : Dev) (slot idx : Nat) (hold : Bool) : Dev :=
  if (d.waiters .scan).contains (slot, idx) then d
  else
    let d := d.await slot idx .scan
    if hold then { d with rce := { d.rce with scanHolds := d.rce.scanHolds + 1 } } else d
/-- SCAN_OUT. -/
def scanOut (slot idx : Nat) (bad : List Nat) (d : Dev) : Dev :=
  if !d.scanBegins slot idx 0x0111 then d
  else if ! [stLoaded, stArmed, stBreak, stDrained].contains d.runState then d.finish slot idx tsWrongState 0
  else if d.runState = stBreak ∧ !d.rce.broken then d.scanWaits slot idx false
  else
    let dest := d.taskArg slot idx 0 8
    let mask := d.taskArg slot idx 0x10 8
    let r := d.blockRecords (bitAt (d.taskArg slot idx 0x18 1) 0) bad 0 (d.scanBlocks mask)
    if decide (d.taskArg slot idx 8 8 < r.1.length) || !d.inRegion [1] dest r.1.length || !(mask == 0 || inLpddr mask 32) then
      d.finish slot idx tsBadArgument 0
    else (d.put dest r.1).finish slot idx tsDone r.2
/-- SCAN_OUT: `bad` are the values, numbered in the order written, whose parity fails on the promenade. -/
def execScanOut (slot idx : Nat) (bad : List Nat) (s : State) : Host.Outcome State Fault Refusal :=
  s.onDev (Wf.scanOut slot idx bad) (scanOut slot idx bad)

/-! ## SCAN_IN (R487, R489) -/

/-- R488: the size of each value of a unit. -/
def valueSizes (u : Nat) (muData : Bool) : List Nat :=
  if unitClass u = 0 then List.replicate 82 8
  else if unitClass u = 2 then List.replicate 3 8 ++ (if muData then List.replicate 7680 64 else [])
  else List.replicate 9 8
/-- R489: the unit records of a block record, each unit with its values; none where one is not as R488 has it. -/
def Dev.parseUnits (d : Dev) (b : Nat) (muData : Bool) : Nat → List Nat → Option (List (Nat × List Nat))
  | 0, bs => if bs = [] then some [] else none
  | n + 1, bs =>
    let u := leAt bs 0 4
    let sizes := valueSizes u muData
    if (d.blockUnits b).contains u && leAt bs 4 4 == sizes.length && decide (8 + sizes.sum ≤ bs.length) then
      (d.parseUnits b muData n (bs.drop (8 + sizes.sum))).map (fun l => (u, cut bs 8 sizes.sum) :: l)
    else none
/-- R489: the block records of a scan, all checked; the first number bounds how many there can be. -/
def Dev.parseScan (d : Dev) : Nat → List Nat → Option (List (Nat × List Nat))
  | 0, bs => if bs = [] then some [] else none
  | n + 1, bs =>
    if bs = [] then some []
    else
      let len := leAt bs 4 4
      let ok := decide (32 ≤ len) && decide (len ≤ bs.length) && decide (leAt bs 0 2 < 256) && leAt bs 2 2 == 1 &&
        leAt bs 8 2 == 0 && leAt bs 0x10 4 == d.fget RCE_RUN_CTX_RUN_CTX
      if !ok then none
      else (d.parseUnits (leAt bs 0 2) (bitAt (leAt bs 0xC 2) 0) (leAt bs 0xA 2) (cut bs 32 (len - 32))).bind (fun us =>
        (d.parseScan n (bs.drop len)).map (fun l => us ++ l))
/-- R489: the architectural state that a unit takes from its values: g, p, c, the LUT and the descriptor position; `S2` and
`FLOOR_RUN`; `PTR` and the image area. -/
def Dev.scanUnit (d : Dev) (u : Nat) (bs : List Nat) : Dev :=
  let v (i : Nat) : Nat := leAt bs (8 * i) 8
  let b := unitWhere u
  if unitClass u = 0 then
    let t := unitIndex u
    let st := v 0
    let d := d.fsets [(BLK_TILE_STATE_PRED b t, bitsOf st 32 4), (BLK_TILE_STATE_NEXT_DESC b t, bitsOf st 4 2)]
    let d := d.each (upTo 16) (fun d i => d.fset (BLK_TILE_GREG_VALUE b t i) (v (1 + i) % 2 ^ 32))
    let d := d.rset (BLK_TILE_COUNTERS b t) (BitVec.ofNat 64 (v 17))
    let d := d.each (upTo 64) (fun d j => d.rset (BLK_TILE_LUT b t j) (BitVec.ofNat 64 (v (18 + j))))
    d.mend u (upTo 16 ++ [20, 21, 22, 23] ++ (upTo 256).map (fun j => 32 + j))
  else if unitClass u = 2 then
    let d := d.each (upTo 2) (fun d a => d.fset (BLK_MU_AGU_ADDR_PTR b a) (bitsOf (v (1 + a)) 32 17))
    if bs.length ≤ 24 then d else (d.poke (muWordAddr b 0) (bs.drop 24)).mend u (upTo 7680)
  else
    let w := vuWindow u
    let d := d.each (upTo 4) (fun d k => d.fsets [(BLK_VU_S2_S2 w k, bitsOf (v (1 + k)) 0 16), (BLK_VU_S2_LIM_FLOOR_RUN w k, bitsOf (v (5 + k)) 24 4)])
    d.mend u ((upTo 4).map (fun k => 256 + k))
/-- R268: a scan that held the break holds it no more. -/
def Dev.scanEnds (d : Dev) (slot idx : Nat) : Dev :=
  if (d.waiters .scan).contains (slot, idx) then { d with rce := { d.rce with scanHolds := d.rce.scanHolds - 1 } } else d
/-- SCAN_IN. -/
def scanIn (slot idx : Nat) (d : Dev) : Dev :=
  if !d.scanBegins slot idx 0x0112 then d
  else if d.runState ≠ stBreak then d.finish slot idx tsWrongState 0
  else if !d.rce.broken then d.scanWaits slot idx true
  else
    let src := d.taskArg slot idx 0 8
    let len := d.taskArg slot idx 8 8
    let d := d.scanEnds slot idx
    if !inLpddr src len then d.finish slot idx tsBadArgument 0
    else
      match d.parseScan (len / 32) (d.bytes src len) with
      | none => d.finish slot idx tsBadArgument 0
      | some us => (d.each us (fun d e => (d.scanUnit e.1 e.2).stateLost e.1)).finish slot idx tsDone us.length
/-- SCAN_IN. -/
def execScanIn (slot idx : Nat) (s : State) : Host.Outcome State Fault Refusal := s.onDev (Wf.scanIn slot idx) (scanIn slot idx)

end Sys2Proof.Machine
end

