-- ==== Sys2Proof/Machine/Security.lean ====
section
/-!
DEFINITION. The security commands of the mailbox: GET_CERTIFICATE (R553), OWNER_ENROL (R554), OWNER_POLICY (R555) and ATTEST
(R557, R558).
-/

namespace Sys2Proof.Machine

open Sys2Proof

/-! ## The certificate (R553) -/

/-- GET_CERTIFICATE: the part after the last one returned. -/
def getCertificate (inp : List Nat) (d : Dev) : Dev :=
  d.mbox 0xC010 (inp.length == 0) (fun d =>
    let k := d.host.mbox.certPart
    let bs := if k = 0 then d.certificate.take 4088 else d.certificate.drop 4088
    (d.setMbox (fun m => { m with certPart := 1 - k })).vanswer 0xC010 vsOk ([k, 2] ++ leBytes 2 bs.length ++ bs))
/-- GET_CERTIFICATE (R415, R553). -/
def execGetCertificate (inp : List Nat) (s : State) : Host.Outcome State Fault Refusal := s.onDev (Wf.getCertificate inp) (getCertificate inp)

/-! ## Owners (R554, R555) -/

/-- R554: the enrolment's magic, format, flags and zero bytes. -/
def enrolmentFormed (e : List Nat) : Bool :=
  e.take 4 == [0x45, 0x56, 0x58, 0x45] && leAt e 4 2 == 1 && zeroAt e 6 2 && decide (leAt e 0x14 4 < 2) && zeroAt e 0x18 8
/-- OWNER_ENROL. -/
def ownerEnrol (inp : List Nat) (d : Dev) : Dev :=
  d.mbox 0xC012 (inp.length == 3469) (fun d =>
    if d.runState ≠ stIdle then d.vanswer 0xC012 vsWrongState []
    else if !(enrolmentFormed inp && bothVerify Config.vendorEdPk Config.vendorMlPk
        (sigMessage "EVX-T4 ENROLMENT" (Config.sha3 (inp.take 0x60))) (cut inp 0x60 64) (cut inp 0xA0 3309)) then
      d.vanswer 0xC012 vsVerifyFailed []
    else if leAt inp 8 8 ≠ d.fget GLB_SERIAL_SERIAL ∨ leAt inp 0x10 4 ≤ d.owner.enrolSeq then d.vanswer 0xC012 vsNotPermitted []
    else
      let clear := bitAt (leAt inp 0x14 4) 0
      let o : Owner := { d.owner with
        enrolled := !clear
        edDigest := if clear then 0 else leAt inp 0x20 32
        mlDigest := if clear then 0 else leAt inp 0x40 32
        enrolSeq := leAt inp 0x10 4
        policySeq := 0
        requireSigned := false
        minFwSvn := 0 }
      ({ d with owner := o }.showOwner).vanswer 0xC012 vsOk [])
/-- OWNER_ENROL (R415, R554). -/
def execOwnerEnrol (inp : List Nat) (s : State) : Host.Outcome State Fault Refusal := s.onDev (Wf.ownerEnrol inp) (ownerEnrol inp)
/-- R555: the policy's magic, format, flags and zero bytes. -/
def policyFormed (p : List Nat) : Bool :=
  p.take 4 == [0x45, 0x56, 0x58, 0x50] && leAt p 4 2 == 1 && zeroAt p 6 2 && decide (leAt p 0x14 4 < 2) && zeroAt p 0x1C 4 && zeroAt p 0xD4D 3
/-- R555: the owner's keys and signatures of a policy hold. -/
def Dev.policyVerifies (d : Dev) (p : List Nat) : Bool :=
  let a := leAt p 0xD50 8
  let ml := d.bytes a 1952
  let ed := cut p 0xD58 32
  policyFormed p && d.inRegion [1] a 1952 && d.ownerKeys ed ml &&
    bothVerify ed ml (sigMessage "EVX-T4 POLICY" (Config.sha3 (p.take 0x20))) (cut p 0x20 64) (cut p 0x60 3309)
/-- OWNER_POLICY. -/
def ownerPolicy (inp : List Nat) (d : Dev) : Dev :=
  d.mbox 0xC013 (inp.length == 3448) (fun d =>
    let serial := leAt inp 8 8
    if d.runState ≠ stIdle then d.vanswer 0xC013 vsWrongState []
    else if !d.owner.enrolled || !(serial == 0 || serial == d.fget GLB_SERIAL_SERIAL) || decide (leAt inp 0x10 4 ≤ d.owner.policySeq) then
      d.vanswer 0xC013 vsNotPermitted []
    else if !d.policyVerifies inp then d.vanswer 0xC013 vsVerifyFailed []
    else
      let o : Owner := { d.owner with policySeq := leAt inp 0x10 4, requireSigned := bitAt (leAt inp 0x14 4) 0, minFwSvn := leAt inp 0x18 4 }
      ({ d with owner := o }.showOwner).vanswer 0xC013 vsOk [])
/-- OWNER_POLICY (R415, R555). -/
def execOwnerPolicy (inp : List Nat) (s : State) : Host.Outcome State Fault Refusal := s.onDev (Wf.ownerPolicy inp) (ownerPolicy inp)

/-! ## Attestation (R557, R558) -/

/-- ATTEST: between run tasks only: it waits for one in progress. -/
def attest (inp : List Nat) (d : Dev) : Dev :=
  d.mbox 0xC011 (inp.length == 32) (fun d =>
    if !d.flag SEC_STATUS_IDENTITY_OK then d.vanswer 0xC011 vsNotPermitted []
    else if d.runTaskRuns then d.setMbox (fun m => { m with attests := m.attests ++ [inp] })
    else d.attestNow inp)
/-- ATTEST (R415, R557, R558). -/
def execAttest (inp : List Nat) (s : State) : Host.Outcome State Fault Refusal := s.onDev (Wf.attest inp) (attest inp)

end Sys2Proof.Machine
end

