-- ==== Sys2Proof/Machine/Spdm.lean ====
section
/-!
DEFINITION. The SPDM 1.2 responder and IDE key management (R560). Message layouts, codes and the order of a connection are
those of DSP0274 1.2 and of the CXL IDE key management protocol (PRESUMED, log entry 61).
-/

namespace Sys2Proof.Machine

open Sys2Proof

/-! ## Responses -/

/-- The connection's state changed. -/
def Dev.setSpdm (d : Dev) (f : Spdm → Spdm) : Dev := { d with host := { d.host with spdm := f d.host.spdm } }
/-- A message of version 1.2: its code, its two parameters, and the rest. -/
def spdmMsg (code p1 p2 : Nat) (bs : List Nat) : List Nat := [0x12, code, p1, p2] ++ bs
/-- A response leaves; it and its request join the transcript. -/
def Dev.respond (d : Dev) (req : List Nat) (code p1 p2 : Nat) (bs : List Nat) : Dev :=
  (d.setSpdm (fun x => { x with transcript := x.transcript ++ req ++ spdmMsg code p1 p2 bs })).emit (.spdm code (spdmMsg code p1 p2 bs))
/-- An ERROR response; it joins no transcript. -/
def Dev.spdmError (d : Dev) (code data : Nat) : Dev := d.emit (.spdm 0x7F (spdmMsg 0x7F code data []))
/-- ERROR codes: InvalidRequest. -/
def seInvalid : Nat := 0x01
/-- UnexpectedRequest. -/
def seUnexpected : Nat := 0x04
/-- Unspecified. -/
def seUnspecified : Nat := 0x05
/-- VersionMismatch. -/
def seVersion : Nat := 0x41
/-- A request reaches the responder: it is of the right code and version, long enough, and the connection has come far
enough. -/
def Dev.spdmTakes (d : Dev) (req : List Nat) (code phase len : Nat) (f : Dev → Dev) : Dev :=
  if !d.mboxUp then d
  else if leAt req 0 1 ≠ 0x12 then d.spdmError seVersion 0
  else if leAt req 1 1 ≠ code ∨ req.length < len then d.spdmError seInvalid 0
  else if d.host.spdm.phase < phase then d.spdmError seUnexpected 0
  else f d
/-- R560: what needs a proven identity is answered with Unspecified while IDENTITY_OK is clear. -/
def Dev.withIdentity (d : Dev) (f : Dev → Dev) : Dev := if d.flag SEC_STATUS_IDENTITY_OK then f d else d.spdmError seUnspecified 0
/-- The signing context of SPDM 1.2: the version string four times, zeros, the purpose, and the digest of the transcript. -/
def spdmSigned (purpose : String) (t : List Nat) : List Nat :=
  let prefix64 := (List.replicate 4 ("dmtf-spdm-v1.2.*".toList.map Char.toNat)).flatten
  let p := purpose.toList.map Char.toNat
  prefix64 ++ List.replicate (36 - p.length) 0 ++ p ++ leBytes 32 (Config.sha3 t)
/-- R560: the responder's Ed25519 signature of a transcript. -/
def spdmSign (purpose : String) (t : List Nat) : List Nat := padTo 64 (Config.devEdSign (spdmSigned purpose t))
/-- Fresh random bytes. -/
def Dev.draw (d : Dev) (n : Nat) : List Nat × Dev := (padTo n (Config.spdmRandom d.freeIdx), { d with freeIdx := d.freeIdx + 1 })
/-- R560: the digest of the chain of slot 0. -/
def chainDigest : List Nat := leBytes 32 (Config.sha3 Config.spdmChain)

/-! ## The connection -/

/-- SPDM_GET_VERSION: version 1.2; the connection begins anew. -/
def spdmGetVersion (req : List Nat) (d : Dev) : Dev :=
  if !d.mboxUp then d
  else if leAt req 0 1 ≠ 0x10 then d.spdmError seVersion 0
  else if leAt req 1 1 ≠ 0x84 ∨ req.length < 4 then d.spdmError seInvalid 0
  else
    let bs := [0x10, 0x04, 0, 0, 0, 1] ++ leBytes 2 0x1200
    (d.setSpdm (fun x => { x with phase := 1, transcript := req ++ bs, opening := [], sessions := [] })).emit (.spdm 0x04 bs)
/-- SPDM_GET_VERSION (R560). -/
def execSpdmGetVersion (req : List Nat) (s : State) : Host.Outcome State Fault Refusal := s.onDev (Wf.spdmGetVersion req) (spdmGetVersion req)
/-- R560: CAPABILITIES' flags: certificates, challenges, signed measurements, encryption, message authentication, key exchange. -/
def spdmFlags : Nat := 0x2 + 0x4 + 0x10 + 0x40 + 0x80 + 0x200
/-- SPDM_GET_CAPABILITIES. -/
def spdmGetCapabilities (req : List Nat) (d : Dev) : Dev :=
  d.spdmTakes req 0xE1 1 4 (fun d =>
    let d := d.respond req 0x61 0 0 ([0, Config.spdmSize 0 % 256, 0, 0] ++ leBytes 4 spdmFlags ++ leBytes 4 (Config.spdmSize 1) ++ leBytes 4 (Config.spdmSize 2))
    d.setSpdm (fun x => { x with phase := max x.phase 2 }))
/-- SPDM_GET_CAPABILITIES (R560). -/
def execSpdmGetCapabilities (req : List Nat) (s : State) : Host.Outcome State Fault Refusal :=
  s.onDev (Wf.spdmGetCapabilities req) (spdmGetCapabilities req)
/-- R560: what NEGOTIATE_ALGORITHMS asks for and the responder supports: Ed25519, SHA3-256, secp384r1 and AES-256-GCM. -/
def spdmChosen (req : List Nat) : Nat × Nat × List Nat :=
  let n := leAt req 2 1
  let structs := (upTo n).map (fun k => cut req (32 + 4 * k) 4)
  (bitsOf (leAt req 8 4) 9 1 * 2 ^ 9, bitsOf (leAt req 12 4) 3 1 * 8,
    structs.flatMap (fun e =>
      let ty := leAt e 0 1
      let asked := leAt e 2 2
      let got := if ty = 2 then asked &&& 0x10 else if ty = 3 then asked &&& 2 else if ty = 5 then asked &&& 1 else 0
      [ty, 0x20] ++ leBytes 2 got))
/-- SPDM_NEGOTIATE_ALGORITHMS. -/
def spdmNegotiateAlgorithms (req : List Nat) (d : Dev) : Dev :=
  d.spdmTakes req 0xE3 2 32 (fun d =>
    let c := spdmChosen req
    let d := d.respond req 0x63 (leAt req 2 1) 0 (leBytes 2 (36 + c.2.2.length) ++ [1, 0] ++ leBytes 4 0x10 ++ leBytes 4 c.1 ++ leBytes 4 c.2.1 ++
      List.replicate 12 0 ++ [0, 0, 0, 0] ++ c.2.2)
    d.setSpdm (fun x => { x with phase := max x.phase 3 }))
/-- SPDM_NEGOTIATE_ALGORITHMS (R560). -/
def execSpdmNegotiateAlgorithms (req : List Nat) (s : State) : Host.Outcome State Fault Refusal :=
  s.onDev (Wf.spdmNegotiateAlgorithms req) (spdmNegotiateAlgorithms req)

/-! ## Identity and measurements -/

/-- SPDM_GET_DIGESTS: slot 0 alone. -/
def spdmGetDigests (req : List Nat) (d : Dev) : Dev := d.spdmTakes req 0x81 3 4 (fun d => d.respond req 0x01 0 1 chainDigest)
/-- SPDM_GET_DIGESTS (R560). -/
def execSpdmGetDigests (req : List Nat) (s : State) : Host.Outcome State Fault Refusal := s.onDev (Wf.spdmGetDigests req) (spdmGetDigests req)
/-- SPDM_GET_CERTIFICATE: a portion of the chain of slot 0. -/
def spdmGetCertificate (req : List Nat) (d : Dev) : Dev :=
  d.spdmTakes req 0x82 3 8 (fun d =>
    let off := leAt req 4 2
    let bs := cut Config.spdmChain off (leAt req 6 2)
    if leAt req 2 1 % 16 ≠ 0 ∨ (off ≠ 0 ∧ Config.spdmChain.length ≤ off) then d.spdmError seInvalid 0
    else d.respond req 0x02 0 0 (leBytes 2 bs.length ++ leBytes 2 (Config.spdmChain.length - off - bs.length) ++ bs))
/-- SPDM_GET_CERTIFICATE (R560). -/
def execSpdmGetCertificate (req : List Nat) (s : State) : Host.Outcome State Fault Refusal :=
  s.onDev (Wf.spdmGetCertificate req) (spdmGetCertificate req)
/-- R560: the four measurements. -/
def Dev.measurement (d : Dev) (k : Nat) : Nat :=
  if k = 1 then d.fwDigestShown else if k = 2 then d.imageDigest else if k = 3 then d.rce.regDigest else d.ownerDigest
/-- A measurement block: its index, DMTF's form, and a digest. -/
def Dev.measBlock (d : Dev) (k : Nat) : List Nat := [k, 1] ++ leBytes 2 35 ++ [k] ++ leBytes 2 32 ++ leBytes 32 (d.measurement k)
/-- The hash of all measurements, where a request asks for one. -/
def Dev.measSummary (d : Dev) (ty : Nat) : List Nat := if ty = 0 then [] else leBytes 32 (Config.sha3 ((upTo 4).flatMap (fun k => d.measBlock (k + 1))))
/-- SPDM_CHALLENGE. -/
def spdmChallenge (req : List Nat) (d : Dev) : Dev :=
  d.spdmTakes req 0x83 3 36 (fun d => d.withIdentity (fun d =>
    if leAt req 2 1 ≠ 0 then d.spdmError seInvalid 0
    else
      let r := d.draw 32
      let body := chainDigest ++ r.1 ++ r.2.measSummary (leAt req 3 1) ++ leBytes 2 0
      r.2.respond req 0x03 0 1 (body ++ spdmSign "responder-challenge_auth signing" (r.2.host.spdm.transcript ++ req ++ spdmMsg 0x03 0 1 body))))
/-- SPDM_CHALLENGE (R560). -/
def execSpdmChallenge (req : List Nat) (s : State) : Host.Outcome State Fault Refusal := s.onDev (Wf.spdmChallenge req) (spdmChallenge req)
/-- SPDM_GET_MEASUREMENTS: operation 0 asks how many there are, 0xFF for all, else for one; bit 0 of the attributes asks for a
signature, over a nonce. -/
def spdmGetMeasurements (req : List Nat) (d : Dev) : Dev :=
  let signed := bitAt (leAt req 2 1) 0
  d.spdmTakes req 0xE0 3 (if signed then 37 else 4) (fun d => d.withIdentity (fun d =>
    let op := leAt req 3 1
    let ks := if op = 0 then [] else if op = 0xFF then [1, 2, 3, 4] else [op]
    if op ≠ 0xFF ∧ 4 < op then d.spdmError seInvalid 0
    else
      let rec_ := ks.flatMap d.measBlock
      let p1 := if op = 0 then 4 else 0
      let r := d.draw 32
      let body := [ks.length] ++ leBytes 3 rec_.length ++ rec_ ++ r.1 ++ leBytes 2 0
      let sig := if signed then spdmSign "responder-measurements signing" (r.2.host.spdm.transcript ++ req ++ spdmMsg 0x60 p1 0 body) else []
      r.2.respond req 0x60 p1 0 (body ++ sig)))
/-- SPDM_GET_MEASUREMENTS (R560). -/
def execSpdmGetMeasurements (req : List Nat) (s : State) : Host.Outcome State Fault Refusal :=
  s.onDev (Wf.spdmGetMeasurements req) (spdmGetMeasurements req)

/-! ## Sessions -/

/-- SPDM_KEY_EXCHANGE: a session begins its handshake; its identifier joins both sides' halves. -/
def spdmKeyExchange (req : List Nat) (d : Dev) : Dev :=
  d.spdmTakes req 0xE4 3 136 (fun d => d.withIdentity (fun d =>
    if leAt req 3 1 ≠ 0 then d.spdmError seInvalid 0
    else
      let half := (1 + d.host.spdm.sessions.length + d.host.spdm.opening.length) % 2 ^ 16
      let sid := leAt req 4 2 + half * 2 ^ 16
      let r := d.draw 32
      let e := r.2.draw 96
      let body := leBytes 2 half ++ [0, 0] ++ r.1 ++ e.1 ++ e.2.measSummary (leAt req 2 1) ++ leBytes 2 0
      let t := e.2.host.spdm.transcript ++ req ++ spdmMsg 0x64 0 0 body
      let sig := spdmSign "responder-key_exchange_rsp signing" t
      (e.2.respond req 0x64 0 0 (body ++ sig ++ padTo 32 (Config.spdmVerify 0 (t ++ sig)))).setSpdm (fun x => { x with opening := [sid] })))
/-- SPDM_KEY_EXCHANGE (R560). -/
def execSpdmKeyExchange (req : List Nat) (s : State) : Host.Outcome State Fault Refusal := s.onDev (Wf.spdmKeyExchange req) (spdmKeyExchange req)
/-- SPDM_FINISH: the requester's verify data holds, and the session is established. -/
def spdmFinish (req : List Nat) (d : Dev) : Dev :=
  d.spdmTakes req 0xE5 3 36 (fun d =>
    match d.host.spdm.opening with
    | [] => d.spdmError seUnexpected 0
    | sid :: _ =>
      let t := d.host.spdm.transcript ++ req.take 4
      if cut req 4 32 != padTo 32 (Config.spdmVerify 1 t) then (d.setSpdm (fun x => { x with opening := [] })).spdmError 0x06 0
      else (d.respond req 0x65 0 0 (padTo 32 (Config.spdmVerify 2 (t ++ cut req 4 32)))).setSpdm (fun x =>
        { x with opening := [], sessions := x.sessions ++ [sid] }))
/-- SPDM_FINISH (R560). -/
def execSpdmFinish (req : List Nat) (s : State) : Host.Outcome State Fault Refusal := s.onDev (Wf.spdmFinish req) (spdmFinish req)
/-- SPDM_END_SESSION: the session established last ends. -/
def spdmEndSession (req : List Nat) (d : Dev) : Dev :=
  d.spdmTakes req 0xEC 3 4 (fun d =>
    if d.host.spdm.sessions = [] then d.spdmError seUnexpected 0
    else (d.respond req 0x6C 0 0 []).setSpdm (fun x => { x with sessions := x.sessions.dropLast }))
/-- SPDM_END_SESSION (R560). -/
def execSpdmEndSession (req : List Nat) (s : State) : Host.Outcome State Fault Refusal := s.onDev (Wf.spdmEndSession req) (spdmEndSession req)

/-! ## IDE key management (R393, R560) -/

/-- R393: the key of a sub-stream: by protocol (0 CXL.io, else CXL.cachemem), stream and sub-stream. -/
def ideKey (proto stream sub : Nat) : Nat := 65536 * min proto 1 + 256 * stream + sub
/-- R393: the streams of a protocol that hold keys. -/
def Spdm.ideStreams (x : Spdm) (proto : Nat) : List Nat := ((x.ideKeys.map Prod.fst).filter (fun k => k / 65536 == min proto 1)).map (fun k => k / 256 % 256) |>.eraseDups
/-- R393: a stream may hold keys: one link stream and up to two selective streams of CXL.io, one of CXL.cachemem (DEDUCED, log entry
158). -/
def Spdm.ideRoom (x : Spdm) (proto stream : Nat) : Bool :=
  (x.ideStreams proto).contains stream || decide ((x.ideStreams proto).length < if proto = 0 then 3 else 1)
/-- IDE_KEY_EXCHANGE: in a session: QUERY, KEY_PROG, K_SET_GO and K_SET_STOP, by object identifier, stream and key sub-stream. -/
def ideKeyExchange (req : List Nat) (d : Dev) : Dev :=
  if !d.mboxUp then d
  else if d.host.spdm.sessions = [] then d.spdmError seUnexpected 0
  else
    let proto := leAt req 0 1
    let obj := leAt req 1 1
    let stream := leAt req 4 1
    let sub := leAt req 6 1
    let k := ideKey proto stream sub
    let ack (d : Dev) (code : Nat) (bs : List Nat) : Dev := d.emit (.spdm code ([proto, code] ++ bs))
    if obj = 0 then ack d 1 [0, leAt req 3 1, 0, 0, 0, 0]
    else if obj = 2 then
      if req.length < 48 then ack d 3 [0, 0, stream, 1, sub, leAt req 7 1]
      else if !d.host.spdm.ideRoom proto stream then ack d 3 [0, 0, stream, 3, sub, leAt req 7 1]
      else ack (d.setSpdm (fun x => { x with ideKeys := pput k (cut req 8 40) x.ideKeys })) 3 [0, 0, stream, 0, sub, leAt req 7 1]
    else if obj = 4 then
      let keyed := (pget d.host.spdm.ideKeys k).isSome
      ack (d.setSpdm (fun x => { x with ideOn := if keyed then x.ideOn.filter (fun y => y != k) ++ [k] else x.ideOn })) 6
        [0, 0, stream, 0, sub, leAt req 7 1]
    else if obj = 5 then
      ack (d.setSpdm (fun x => { x with ideOn := x.ideOn.filter (fun y => y != k), ideKeys := pdel k x.ideKeys })) 6
        [0, 0, stream, 0, sub, leAt req 7 1]
    else d.spdmError seInvalid 0
/-- IDE_KEY_EXCHANGE (R393, R560). -/
def execIdeKeyExchange (req : List Nat) (s : State) : Host.Outcome State Fault Refusal := s.onDev (Wf.ideKeyExchange req) (ideKeyExchange req)

end Sys2Proof.Machine
end

