-- ==== Sys2Proof/Machine/Dispatch.lean ====
section
/-!
DEFINITION. One arm per command: its meaning, on everything but the queue of waiting commands.
-/

namespace Sys2Proof.Machine

open Sys2Proof

def exec (i : Instr) (s : State) : Host.Outcome State Fault Refusal :=
  match i with
  | .registerWrite addr size data => Sys2Proof.Machine.execRegisterWrite addr size data s
  | .frameBoundary => Sys2Proof.Machine.execFrameBoundary s
  | .frameEligible p => Sys2Proof.Machine.execFrameEligible p s
  | .lookbackDelivery b a bad rereads => Sys2Proof.Machine.execLookbackDelivery b a bad rereads s
  | .resultArrival e => Sys2Proof.Machine.execResultArrival e s
  | .faultNotice k => Sys2Proof.Machine.execFaultNotice k s
  | .tieReport k => Sys2Proof.Machine.execTieReport k s
  | .deadline st esq => Sys2Proof.Machine.execDeadline st esq s
  | .horizon st esq => Sys2Proof.Machine.execHorizon st esq s
  | .timeBaseLoss => Sys2Proof.Machine.execTimeBaseLoss s
  | .holdoverEnd => Sys2Proof.Machine.execHoldoverEnd s
  | .rindCountClear => Sys2Proof.Machine.execRindCountClear s
  | .slackClear => Sys2Proof.Machine.execSlackClear s
  | .closeInputs v => Sys2Proof.Machine.execCloseInputs v s
  | .stampSelWrite esq => Sys2Proof.Machine.execStampSelWrite esq s
  | .streamCfgWrite st v => Sys2Proof.Machine.execStreamCfgWrite st v s
  | .tokenTransfer b net n o => Sys2Proof.Machine.execTokenTransfer b net n o s
  | .turnMonWindow rates => Sys2Proof.Machine.execTurnMonWindow rates s
  | .turnMinClear => Sys2Proof.Machine.execTurnMinClear s
  | .tieCountClear => Sys2Proof.Machine.execTieCountClear s
  | .tileFiringStart b t f gap => Sys2Proof.Machine.execTileFiringStart b t f gap s
  | .nop x => Sys2Proof.Machine.execNop x s
  | .end_ x => Sys2Proof.Machine.execEnd x s
  | .br x target => Sys2Proof.Machine.execBr x target s
  | .loop x ck target => Sys2Proof.Machine.execLoop x ck target s
  | .add x rd ra rb => Sys2Proof.Machine.execAdd x rd ra rb s
  | .sub x rd ra rb => Sys2Proof.Machine.execSub x rd ra rb s
  | .and_ x rd ra rb => Sys2Proof.Machine.execAnd x rd ra rb s
  | .or_ x rd ra rb => Sys2Proof.Machine.execOr x rd ra rb s
  | .xor_ x rd ra rb => Sys2Proof.Machine.execXor x rd ra rb s
  | .shl x rd ra rb => Sys2Proof.Machine.execShl x rd ra rb s
  | .shr x rd ra rb => Sys2Proof.Machine.execShr x rd ra rb s
  | .sra x rd ra rb => Sys2Proof.Machine.execSra x rd ra rb s
  | .adds x rd ra rb => Sys2Proof.Machine.execAdds x rd ra rb s
  | .subs x rd ra rb => Sys2Proof.Machine.execSubs x rd ra rb s
  | .min_ x rd ra rb => Sys2Proof.Machine.execMin x rd ra rb s
  | .max_ x rd ra rb => Sys2Proof.Machine.execMax x rd ra rb s
  | .minu x rd ra rb => Sys2Proof.Machine.execMinu x rd ra rb s
  | .maxu x rd ra rb => Sys2Proof.Machine.execMaxu x rd ra rb s
  | .mul x rd ra rb => Sys2Proof.Machine.execMul x rd ra rb s
  | .mulu x rd ra rb => Sys2Proof.Machine.execMulu x rd ra rb s
  | .addi x rd ra imm => Sys2Proof.Machine.execAddi x rd ra imm s
  | .andi x rd ra imm => Sys2Proof.Machine.execAndi x rd ra imm s
  | .ori x rd ra imm => Sys2Proof.Machine.execOri x rd ra imm s
  | .xori x rd ra imm => Sys2Proof.Machine.execXori x rd ra imm s
  | .shli x rd ra n => Sys2Proof.Machine.execShli x rd ra n s
  | .shri x rd ra n => Sys2Proof.Machine.execShri x rd ra n s
  | .srai x rd ra n => Sys2Proof.Machine.execSrai x rd ra n s
  | .movi x rd imm => Sys2Proof.Machine.execMovi x rd imm s
  | .movhi x rd imm => Sys2Proof.Machine.execMovhi x rd imm s
  | .extu x rd ra pos len => Sys2Proof.Machine.execExtu x rd ra pos len s
  | .exts x rd ra pos len => Sys2Proof.Machine.execExts x rd ra pos len s
  | .ins x rd ra pos len => Sys2Proof.Machine.execIns x rd ra pos len s
  | .popc x rd ra => Sys2Proof.Machine.execPopc x rd ra s
  | .clz x rd ra => Sys2Proof.Machine.execClz x rd ra s
  | .sel x rd ra rb ps => Sys2Proof.Machine.execSel x rd ra rb ps s
  | .rget x rd ra => Sys2Proof.Machine.execRget x rd ra s
  | .rput x ra rb => Sys2Proof.Machine.execRput x ra rb s
  | .lut x rd ra => Sys2Proof.Machine.execLut x rd ra s
  | .luts x rd ra => Sys2Proof.Machine.execLuts x rd ra s
  | .lutw x ra rb => Sys2Proof.Machine.execLutw x ra rb s
  | .cmpCc x cc pd ra rb => Sys2Proof.Machine.execCmpCc x cc pd ra rb s
  | .cmpiCc x cc pd ra imm => Sys2Proof.Machine.execCmpiCc x cc pd ra imm s
  | .plog x pd pa pb fn => Sys2Proof.Machine.execPlog x pd pa pb fn s
  | .pget_ x rd => Sys2Proof.Machine.execPget x rd s
  | .pput_ x ra => Sys2Proof.Machine.execPput x ra s
  | .cldi x ck imm => Sys2Proof.Machine.execCldi x ck imm s
  | .cld x ck ra => Sys2Proof.Machine.execCld x ck ra s
  | .cget x rd ck => Sys2Proof.Machine.execCget x rd ck s
  | .cstep x ck pd => Sys2Proof.Machine.execCstep x ck pd s
  | .recv x rd port pe pd => Sys2Proof.Machine.execRecv x rd port pe pd s
  | .send x port ra => Sys2Proof.Machine.execSend x port ra s
  | .sendM x port ra => Sys2Proof.Machine.execSendM x port ra s
  | .sendc x ps => Sys2Proof.Machine.execSendc x ps s
  | .tileFlush b t => Sys2Proof.Machine.execTileFlush b t s
  | .failedUnitConsume unit input => Sys2Proof.Machine.execFailedUnitConsume unit input s
  | .steer b u => Sys2Proof.Machine.execSteer b u s
  | .mergeBoth b u => Sys2Proof.Machine.execMergeBoth b u s
  | .mergeSelected b u => Sys2Proof.Machine.execMergeSelected b u s
  | .join b u => Sys2Proof.Machine.execJoin b u s
  | .suFlush b u => Sys2Proof.Machine.execSuFlush b u s
  | .vuCycleStart unit bad => Sys2Proof.Machine.execVuCycleStart unit bad s
  | .vuRowIntake unit bad => Sys2Proof.Machine.execVuRowIntake unit bad s
  | .endOfAccumulation unit bad => Sys2Proof.Machine.execEndOfAccumulation unit bad s
  | .vuTransform unit bad => Sys2Proof.Machine.execVuTransform unit bad s
  | .vuOutput unit bad => Sys2Proof.Machine.execVuOutput unit bad s
  | .vuFlush unit => Sys2Proof.Machine.execVuFlush unit s
  | .aguRead b a x => Sys2Proof.Machine.execAguRead b a x s
  | .aguWrite b a x => Sys2Proof.Machine.execAguWrite b a x s
  | .aguWindow b a x => Sys2Proof.Machine.execAguWindow b a x s
  | .requestRead b a x => Sys2Proof.Machine.execRequestRead b a x s
  | .requestWrite b a x => Sys2Proof.Machine.execRequestWrite b a x s
  | .requestAdd b a x => Sys2Proof.Machine.execRequestAdd b a x s
  | .fetch b => Sys2Proof.Machine.execFetch b s
  | .fetchComplete b tag x => Sys2Proof.Machine.execFetchComplete b tag x s
  | .wait b => Sys2Proof.Machine.execWait b s
  | .post b => Sys2Proof.Machine.execPost b s
  | .muFlush b => Sys2Proof.Machine.execMuFlush b s
  | .curdRecord => Sys2Proof.Machine.execCurdRecord s
  | .curdSlotRead bad rereads => Sys2Proof.Machine.execCurdSlotRead bad rereads s
  | .curdCaptureComplete => Sys2Proof.Machine.execCurdCaptureComplete s
  | .curdEnableWrite v => Sys2Proof.Machine.execCurdEnableWrite v s
  | .curdCountClear => Sys2Proof.Machine.execCurdCountClear s
  | .curdAreaWrite v => Sys2Proof.Machine.execCurdAreaWrite v s
  | .curdRdWrite v => Sys2Proof.Machine.execCurdRdWrite v s
  | .curdRuleWrite r v => Sys2Proof.Machine.execCurdRuleWrite r v s
  | .memoryWake mem => Sys2Proof.Machine.execMemoryWake mem s
  | .graphSubmit tag tasks => Sys2Proof.Machine.execGraphSubmit tag tasks s
  | .taskDispatch slot idx => Sys2Proof.Machine.execTaskDispatch slot idx s
  | .graphAbort slot => Sys2Proof.Machine.execGraphAbort slot s
  | .load slot idx => Sys2Proof.Machine.execLoad slot idx s
  | .unload slot idx => Sys2Proof.Machine.execUnload slot idx s
  | .arm slot idx => Sys2Proof.Machine.execArm slot idx s
  | .start slot idx => Sys2Proof.Machine.execStart slot idx s
  | .stop slot idx => Sys2Proof.Machine.execStop slot idx s
  | .segmentBreak slot idx => Sys2Proof.Machine.execSegmentBreak slot idx s
  | .segmentOpen slot idx => Sys2Proof.Machine.execSegmentOpen slot idx s
  | .install slot idx => Sys2Proof.Machine.execInstall slot idx s
  | .registerBank slot idx => Sys2Proof.Machine.execRegisterBank slot idx s
  | .march slot idx x => Sys2Proof.Machine.execMarch slot idx x s
  | .copy slot run => Sys2Proof.Machine.execCopy slot run s
  | .taskNop slot idx => Sys2Proof.Machine.execTaskNop slot idx s
  | .breakReached => Sys2Proof.Machine.execBreakReached s
  | .drainTimeout => Sys2Proof.Machine.execDrainTimeout s
  | .drainedReached => Sys2Proof.Machine.execDrainedReached s
  | .relocation fails bad => Sys2Proof.Machine.execRelocation fails bad s
  | .loadCfgWrite v => Sys2Proof.Machine.execLoadCfgWrite v s
  | .charQueryWrite v => Sys2Proof.Machine.execCharQueryWrite v s
  | .servoUpdate => Sys2Proof.Machine.execServoUpdate s
  | .revertToPrimary => Sys2Proof.Machine.execRevertToPrimary s
  | .ppsInEdge sub => Sys2Proof.Machine.execPpsInEdge sub s
  | .time p sym rx => Sys2Proof.Machine.execTime p sym rx s
  | .step p sym => Sys2Proof.Machine.execStep p sym s
  | .timeSymbolSend p => Sys2Proof.Machine.execTimeSymbolSend p s
  | .stepSymbolSend p => Sys2Proof.Machine.execStepSymbolSend p s
  | .sourceLoss => Sys2Proof.Machine.execSourceLoss s
  | .stepAtReached => Sys2Proof.Machine.execStepAtReached s
  | .resync => Sys2Proof.Machine.execResync s
  | .timeSet ns => Sys2Proof.Machine.execTimeSet ns s
  | .timeRead => Sys2Proof.Machine.execTimeRead s
  | .tuCountClear => Sys2Proof.Machine.execTuCountClear s
  | .schedWrite n => Sys2Proof.Machine.execSchedWrite n s
  | .schedRead n => Sys2Proof.Machine.execSchedRead n s
  | .schedCancel n => Sys2Proof.Machine.execSchedCancel n s
  | .schedEventPop => Sys2Proof.Machine.execSchedEventPop s
  | .scheduleFire n => Sys2Proof.Machine.execScheduleFire n s
  | .trgoutEdge t => Sys2Proof.Machine.execTrgoutEdge t s
  | .tcapEdge n falling sub => Sys2Proof.Machine.execTcapEdge n falling sub s
  | .tcapPop n => Sys2Proof.Machine.execTcapPop n s
  | .ppsOutEdge => Sys2Proof.Machine.execPpsOutEdge s
  | .frameAssembled p f => Sys2Proof.Machine.execFrameAssembled p f s
  | .protoErrDeferred p => Sys2Proof.Machine.execProtoErrDeferred p s
  | .quarantineProtoErr p => Sys2Proof.Machine.execQuarantineProtoErr p s
  | .violationWindowEnd p => Sys2Proof.Machine.execViolationWindowEnd p s
  | .align p lane m => Sys2Proof.Machine.execAlign p lane m s
  | .alignSend p => Sys2Proof.Machine.execAlignSend p s
  | .credit p grant => Sys2Proof.Machine.execCredit p grant s
  | .idleEnter p => Sys2Proof.Machine.execIdleEnter p s
  | .retrainReq p => Sys2Proof.Machine.execRetrainReq p s
  | .retry p seq => Sys2Proof.Machine.execRetry p seq s
  | .portRecordSend p => Sys2Proof.Machine.execPortRecordSend p s
  | .resultFrameSend p => Sys2Proof.Machine.execResultFrameSend p s
  | .captureSegmentSend p => Sys2Proof.Machine.execCaptureSegmentSend p s
  | .creditTimeout p => Sys2Proof.Machine.execCreditTimeout p s
  | .signalDetect p => Sys2Proof.Machine.execSignalDetect p s
  | .train p w => Sys2Proof.Machine.execTrain p w s
  | .equaliseDone p taps => Sys2Proof.Machine.execEqualiseDone p taps s
  | .alignDone p => Sys2Proof.Machine.execAlignDone p s
  | .trainTimeout p => Sys2Proof.Machine.execTrainTimeout p s
  | .darkEnd p => Sys2Proof.Machine.execDarkEnd p s
  | .downRetry p signal => Sys2Proof.Machine.execDownRetry p signal s
  | .linkDrop p loss => Sys2Proof.Machine.execLinkDrop p loss s
  | .idleExit p => Sys2Proof.Machine.execIdleExit p s
  | .idleTimeout p signal => Sys2Proof.Machine.execIdleTimeout p signal s
  | .laserMeasure k power => Sys2Proof.Machine.execLaserMeasure k power s
  | .marginWarn p bits => Sys2Proof.Machine.execMarginWarn p bits s
  | .retrain p => Sys2Proof.Machine.execRetrain p s
  | .idleReq p v => Sys2Proof.Machine.execIdleReq p v s
  | .logPop p => Sys2Proof.Machine.execLogPop p s
  | .plCountClear p => Sys2Proof.Machine.execPlCountClear p s
  | .testSettingWrite p lane v => Sys2Proof.Machine.execTestSettingWrite p lane v s
  | .slip p lane => Sys2Proof.Machine.execSlip p lane s
  | .injectOne p lane => Sys2Proof.Machine.execInjectOne p lane s
  | .cxlMemRead addr x => Sys2Proof.Machine.execCxlMemRead addr x s
  | .cxlMemWrite addr bytes => Sys2Proof.Machine.execCxlMemWrite addr bytes s
  | .snoop addr => Sys2Proof.Machine.execSnoop addr s
  | .hdmCommit bi => Sys2Proof.Machine.execHdmCommit bi s
  | .cxlLinkDown => Sys2Proof.Machine.execCxlLinkDown s
  | .cxlLinkUp m => Sys2Proof.Machine.execCxlLinkUp m s
  | .dpStart v => Sys2Proof.Machine.execDpStart v s
  | .dpAbort => Sys2Proof.Machine.execDpAbort s
  | .dpWindowWrite off bytes => Sys2Proof.Machine.execDpWindowWrite off bytes s
  | .dpWindowRead off size x => Sys2Proof.Machine.execDpWindowRead off size x s
  | .dpBurstDone => Sys2Proof.Machine.execDpBurstDone s
  | .cqEnable v => Sys2Proof.Machine.execCqEnable v s
  | .cqHeadWrite v => Sys2Proof.Machine.execCqHeadWrite v s
  | .cqStatClear => Sys2Proof.Machine.execCqStatClear s
  | .cqEntryWrite => Sys2Proof.Machine.execCqEntryWrite s
  | .cqInterrupt => Sys2Proof.Machine.execCqInterrupt s
  | .getEventRecords inp => Sys2Proof.Machine.execGetEventRecords inp s
  | .clearEventRecords inp => Sys2Proof.Machine.execClearEventRecords inp s
  | .getEventInterruptPolicy inp => Sys2Proof.Machine.execGetEventInterruptPolicy inp s
  | .setEventInterruptPolicy inp => Sys2Proof.Machine.execSetEventInterruptPolicy inp s
  | .getFwInfo inp => Sys2Proof.Machine.execGetFwInfo inp s
  | .transferFw inp => Sys2Proof.Machine.execTransferFw inp s
  | .activateFw inp => Sys2Proof.Machine.execActivateFw inp s
  | .fwProgrammingDone ok => Sys2Proof.Machine.execFwProgrammingDone ok s
  | .getTimestamp inp => Sys2Proof.Machine.execGetTimestamp inp s
  | .setTimestamp inp => Sys2Proof.Machine.execSetTimestamp inp s
  | .getSupportedLogs inp => Sys2Proof.Machine.execGetSupportedLogs inp s
  | .getLog inp => Sys2Proof.Machine.execGetLog inp s
  | .identifyMemoryDevice inp => Sys2Proof.Machine.execIdentifyMemoryDevice inp s
  | .getHealthInfo inp => Sys2Proof.Machine.execGetHealthInfo inp s
  | .mailboxUnsupported opcode inp => Sys2Proof.Machine.execMailboxUnsupported opcode inp s
  | .getDeviceInfo inp => Sys2Proof.Machine.execGetDeviceInfo inp s
  | .regionCreate inp => Sys2Proof.Machine.execRegionCreate inp s
  | .regionFree inp => Sys2Proof.Machine.execRegionFree inp s
  | .reset inp => Sys2Proof.Machine.execReset inp s
  | .logInfo inp => Sys2Proof.Machine.execLogInfo inp s
  | .getCertificate inp => Sys2Proof.Machine.execGetCertificate inp s
  | .attest inp => Sys2Proof.Machine.execAttest inp s
  | .ownerEnrol inp => Sys2Proof.Machine.execOwnerEnrol inp s
  | .ownerPolicy inp => Sys2Proof.Machine.execOwnerPolicy inp s
  | .spdmGetVersion req => Sys2Proof.Machine.execSpdmGetVersion req s
  | .spdmGetCapabilities req => Sys2Proof.Machine.execSpdmGetCapabilities req s
  | .spdmNegotiateAlgorithms req => Sys2Proof.Machine.execSpdmNegotiateAlgorithms req s
  | .spdmGetDigests req => Sys2Proof.Machine.execSpdmGetDigests req s
  | .spdmGetCertificate req => Sys2Proof.Machine.execSpdmGetCertificate req s
  | .spdmChallenge req => Sys2Proof.Machine.execSpdmChallenge req s
  | .spdmGetMeasurements req => Sys2Proof.Machine.execSpdmGetMeasurements req s
  | .spdmKeyExchange req => Sys2Proof.Machine.execSpdmKeyExchange req s
  | .spdmFinish req => Sys2Proof.Machine.execSpdmFinish req s
  | .spdmEndSession req => Sys2Proof.Machine.execSpdmEndSession req s
  | .stallReport b net n => Sys2Proof.Machine.execStallReport b net n s
  | .probeResult b net n => Sys2Proof.Machine.execProbeResult b net n s
  | .ledgerClear => Sys2Proof.Machine.execLedgerClear s
  | .ledgerCountClear => Sys2Proof.Machine.execLedgerCountClear s
  | .ledgerSelWrite n => Sys2Proof.Machine.execLedgerSelWrite n s
  | .esqLedgerWrite esq => Sys2Proof.Machine.execEsqLedgerWrite esq s
  | .take => Sys2Proof.Machine.execTake s
  | .stallClear => Sys2Proof.Machine.execStallClear s
  | .freeze v => Sys2Proof.Machine.execFreeze v s
  | .snapAreaWrite v => Sys2Proof.Machine.execSnapAreaWrite v s
  | .snapshotWritten => Sys2Proof.Machine.execSnapshotWritten s
  | .snapshot slot idx => Sys2Proof.Machine.execSnapshot slot idx s
  | .scanOut slot idx bad => Sys2Proof.Machine.execScanOut slot idx bad s
  | .scanIn slot idx => Sys2Proof.Machine.execScanIn slot idx s
  | .reqOff g => Sys2Proof.Machine.execReqOff g s
  | .reqLow g => Sys2Proof.Machine.execReqLow g s
  | .reqOn g => Sys2Proof.Machine.execReqOn g s
  | .reqAuto g => Sys2Proof.Machine.execReqAuto g s
  | .regulatorFault g cause => Sys2Proof.Machine.execRegulatorFault g cause s
  | .avcInterval d => Sys2Proof.Machine.execAvcInterval d s
  | .tempReading temps => Sys2Proof.Machine.execTempReading temps s
  | .hotLockWrite => Sys2Proof.Machine.execHotLockWrite s
  | .peakClear => Sys2Proof.Machine.execPeakClear s
  | .mainUndervoltage mv => Sys2Proof.Machine.execMainUndervoltage mv s
  | .powerDown => Sys2Proof.Machine.execPowerDown s
  | .coldReset => Sys2Proof.Machine.execColdReset s
  | .deviceReset src => Sys2Proof.Machine.execDeviceReset src s
  | .bootStart x => Sys2Proof.Machine.execBootStart x s
  | .bootReady => Sys2Proof.Machine.execBootReady s
  | .smbStatus => Sys2Proof.Machine.execSmbStatus s
  | .smbTempMax => Sys2Proof.Machine.execSmbTempMax s
  | .smbPower => Sys2Proof.Machine.execSmbPower s
  | .smbMainMv => Sys2Proof.Machine.execSmbMainMv s
  | .smbSerial => Sys2Proof.Machine.execSmbSerial s
  | .smbId => Sys2Proof.Machine.execSmbId s
  | .smbLaserPower => Sys2Proof.Machine.execSmbLaserPower s
  | .smbPortState => Sys2Proof.Machine.execSmbPortState s
  | .smbQuiesce key => Sys2Proof.Machine.execSmbQuiesce key s
  | .smbAlertResponse => Sys2Proof.Machine.execSmbAlertResponse s
  | .bypass => Sys2Proof.Machine.execBypass s
  | .idcode => Sys2Proof.Machine.execIdcode s
  | .samplePreload bits => Sys2Proof.Machine.execSamplePreload bits s
  | .extest => Sys2Proof.Machine.execExtest s
  | .clamp => Sys2Proof.Machine.execClamp s
  | .highz => Sys2Proof.Machine.execHighz s
  | .acExtestInstruction => Sys2Proof.Machine.execAcExtestInstruction s
  | .tapReset => Sys2Proof.Machine.execTapReset s
  | .rxLock p lane errs => Sys2Proof.Machine.execRxLock p lane errs s
  | .protoErr p => Sys2Proof.Machine.execProtoErr p s
  | .idleBlock p => Sys2Proof.Machine.execIdleBlock p s
  | .recordBlock p => Sys2Proof.Machine.execRecordBlock p s
  | .invalidBlock p kind => Sys2Proof.Machine.execInvalidBlock p kind s
  | .opticalGroupOn g => Sys2Proof.Machine.execOpticalGroupOn g s
  | .retrainReqEnd p => Sys2Proof.Machine.execRetrainReqEnd p s
  | .rceWatchdog => Sys2Proof.Machine.execRceWatchdog s
  | .powerAverage mw da mv => Sys2Proof.Machine.execPowerAverage mw da mv s
  | .resetNRise => Sys2Proof.Machine.execResetNRise s
  | .cxlCacheEnable => Sys2Proof.Machine.execCxlCacheEnable s
  | .ideKeyExchange req => Sys2Proof.Machine.execIdeKeyExchange req s
  | .smbOtherCode code => Sys2Proof.Machine.execSmbOtherCode code s

end Sys2Proof.Machine
end

