-- ==== Sys2Proof/Machine/Step.lean ====
section
/-!
DEFINITION. One step of the block: the command at the front of the queue has its effect; on an empty queue one tick of
the 800 MHz clock passes (R24, R287).
-/

namespace Sys2Proof.Machine

open Sys2Proof

/-- DESIGN CHOICE (log entry 1): with no command waiting, one tick passes. -/
def State.idle (s : State) : State := { s with dev := s.dev.adv 1 }

/-- One step: the command at the front of the queue, run with the queue's rest, or an idle tick. -/
def step (s : State) : Host.Outcome State Fault Refusal :=
  match s.pending with
  | [] => .next s.idle
  | c :: rest => exec c { s with pending := rest }

/-- The state with the command a word spells put at the front of its queue; no word spells one. -/
def State.withFetchWord (s : State) (nbits w : Nat) : State :=
  match decodeTableWord nbits w with
  | some c => { s with pending := c :: s.pending }
  | none => s

end Sys2Proof.Machine
end

