-- ==== Sys2Proof/Safety.lean ====
section
/-!
DEFINITION. The vocabulary of the statements: what it is for a command to complete with an effect, what a command leaves
alone, and the conditions on the state under which a unit, a task, a port or the host interface does its work.
-/

namespace Sys2Proof.Machine

open Sys2Proof

/-! ## Completion and frames -/

/-- A command completes: its outcome is a next state that differs in the device alone, of which P holds. The queue of
waiting commands and the test access port are as before. -/
def Does (c : Instr) (s : State) (P : Dev → Prop) : Prop := ∃ d, exec c s = .next { s with dev := d } ∧ P d

/-- Every register but those listed holds what it held. -/
def RegsBut (offs : List Nat) (d e : Dev) : Prop := ∀ o, o ∉ offs → e.rget o = d.rget o

/-- Every byte of memory and of flash reads as it read. -/
def MemSame (d e : Dev) : Prop := ∀ a, memGet e.mem a = memGet d.mem a ∧ memGet e.flash a = memGet d.flash a

/-! ## Lattice tiles -/

/-- The tile an issue is about. -/
abbrev tc (x : Issue) : Tc := ⟨x.block, x.tile⟩

/-- What a tile reads in register gi: zero while its parity is wrong (R116). -/
def greg (d : Dev) (x : Issue) (i : Nat) : Nat := (d.g (tc x) i).toNat

/-- The program counter of a tile. -/
def tilePc (d : Dev) (x : Issue) : Nat := d.fget (BLK_TILE_STATE_PC x.block x.tile)

/-- R104, R107, R117: the sequencer of a tile comes to issue an instruction of this word: the tile serves a place of its
block, its domain is ON, it is firing and has not failed, the word stands at its program counter and a read of it is
right before the fourth, and the firing's limit of instructions is not reached. -/
structure Issues (d : Dev) (x : Issue) (word : Nat) : Prop where
  serves : (d.logTile x.block x.tile).isSome = true
  powered : d.powered x.block = true
  firing : d.flag (BLK_TILE_STATE_FIRING x.block x.tile) = true
  sound : d.flag (BLK_TILE_STATE_FAILED x.block x.tile) = false
  word : d.imem (tc x) (tilePc d x) = word
  fetched : x.fetchBad < 4
  below : (d.firing (tc x)).issued < d.fget (BLK_TILE_FIRE_MAX_INSTR x.block x.tile (d.firing (tc x)).desc)

/-- No location of the tile has bad parity (R116). -/
def TileClean (d : Dev) (x : Issue) : Prop := d.badLocs (tileId x.block x.tile) = [] ∧ x.upsets = []

/-- The tile issues this instruction and its guard passes (R107). -/
structure Runs (d : Dev) (x : Issue) (i : Instr) : Prop where
  wf : i.wf = true
  issues : ∃ w, tileWord i = some w ∧ Issues d x w
  guard : guardOk d (tc x) x.guard = true
  clean : TileClean d x

/-- The sequencer has issued one instruction and goes on at another: BLK_TILE_STATE is `st` with that program counter, one
more instruction of the firing is issued, the trigger ports received are `got`, the fabric but for the firing is `fab`, and
but for the registers listed and the tile's counts nothing else of the device has changed. -/
structure TileGoesTo (d : Dev) (x : Issue) (pc : Nat) (st : Reg) (got : Nat) (fab : Fabric) (regs : List Nat) (e : Dev) : Prop where
  state : e.rget (BLK_TILE_STATE x.block x.tile) = withField st (BLK_TILE_STATE_PC x.block x.tile) pc
  firing : e.firing (tc x) = { d.firing (tc x) with issued := (d.firing (tc x)).issued + 1, received := got }
  regs : RegsBut (BLK_TILE_STATE x.block x.tile :: BLK_UNIT_BUSY x.block x.tile :: BLK_TILE_ERR x.block x.tile :: regs) d e
  rest : e = { d with regs := e.regs, fresh := e.fresh, fab := { fab with firings := e.fab.firings } }

/-- The trigger ports that a firing has received. -/
abbrev tileGot (d : Dev) (x : Issue) : Nat := (d.firing (tc x)).received

/-- As `TileGoesTo`, to the next word, with no port received and the fabric as it was. From the last word there is no next:
the firing ends (R104), as another statement says. -/
def TileWent (d : Dev) (x : Issue) (st : Reg) (regs : List Nat) (e : Dev) : Prop :=
  tilePc d x ≠ 127 → TileGoesTo d x (tilePc d x + 1) st (tileGot d x) d.fab regs e

/-- BLK_TILE_STATE of a tile. -/
abbrev tileState (d : Dev) (x : Issue) : Reg := d.rget (BLK_TILE_STATE x.block x.tile)

/-- The instruction writes a value into register rd and goes on; nothing else changes. -/
def TileWrites (i : Instr) (s : State) (x : Issue) (rd v : Nat) : Prop :=
  Does i s (fun e => e.fget (BLK_TILE_GREG_VALUE x.block x.tile rd) = v ∧
    TileWent s.dev x (tileState s.dev x) [BLK_TILE_GREG x.block x.tile rd] e)

/-- The instruction writes predicate pd, and besides the registers listed nothing else changes. -/
def TilePredicates (i : Instr) (s : State) (x : Issue) (pd : Nat) (v : Bool) (regs : List Nat) (P : Dev → Prop) : Prop :=
  Does i s (fun e => (∀ k < 4, e.p (tc x) k = if k = pd then v else s.dev.p (tc x) k) ∧
    TileWent s.dev x (withField (tileState s.dev x) (BLK_TILE_STATE_PRED x.block x.tile)
      (setBits (s.dev.fget (BLK_TILE_STATE_PRED x.block x.tile)) pd 1 (b2n v))) regs e ∧ P e)

/-- The trigger tokens of a firing that it has not received (R103, R105), by port. -/
def unreceived (d : Dev) (x : Issue) (k : Nat) : Bool :=
  (d.descMask (tc x) (d.firing (tc x)).desc).testBit k && !(tileGot d x).testBit k

/-- A firing has ended (R101, R105): the tile is at rest at its next descriptor, the trigger tokens not received are taken
from their inputs, and every other input, register and part of the device is as it was. -/
structure TileEnds (d : Dev) (x : Issue) (l : Nat) (lane : List Notice) (e : Dev) : Prop where
  firing : e.flag (BLK_TILE_STATE_FIRING x.block x.tile) = false
  position : e.fget (BLK_TILE_STATE_NEXT_DESC x.block x.tile) =
    if d.flag (BLK_TILE_CFG_READY_ORDER x.block x.tile) then d.fget (BLK_TILE_STATE_NEXT_DESC x.block x.tile)
    else d.nextDesc (tc x) (d.firing (tc x)).desc
  pred : ∀ k, e.p (tc x) k = d.p (tc x) k
  count : e.fget (BLK_TILE_FIRINGS_FIRINGS x.block x.tile) = min (d.fget (BLK_TILE_FIRINGS_FIRINGS x.block x.tile) + 1) (2 ^ 48 - 1)
  heads : ∀ k < 5, e.queue (tileQ x.block l k) ++ e.spill (tileQ x.block l k) =
    if unreceived d x k then (d.queue (tileQ x.block l k) ++ d.spill (tileQ x.block l k)).tail
    else d.queue (tileQ x.block l k) ++ d.spill (tileQ x.block l k)
  others : ∀ q, (∀ k < 5, q ≠ tileQ x.block l k) → e.queue q = d.queue q ∧ e.spill q = d.spill q
  regs : RegsBut ([BLK_TILE_STATE x.block x.tile, BLK_UNIT_BUSY x.block x.tile, BLK_TILE_ERR x.block x.tile, BLK_TILE_FIRINGS x.block x.tile]
    ++ (List.range 5).map (fun k => (BLK_QSTAT_SPILL_HELD x.block (tileIn l k).1 (tileIn l k).2).off)) d e
  rest : e = { d with regs := e.regs, fresh := e.fresh, fab := { d.fab with
    firings := e.fab.firings, queues := e.fab.queues, spilled := e.fab.spilled, readyOrder := e.fab.readyOrder, lane := lane } }

/-- R104, R433: the priority lane with the FIRE_OVERRUN notice of a tile. -/
def overrunLane (d : Dev) (x : Issue) : List Notice :=
  laneAdd ⟨d.fireEsq (tc x), 5, tileId x.block x.tile, tileId x.block x.tile, blockBit (tileId x.block x.tile), 1⟩ d.fab.lane

/-- The instruction sets counter ck; the other counters keep their values. -/
def CounterSet (d : Dev) (x : Issue) (ck v : Nat) (e : Dev) : Prop :=
  ∀ k < 4, e.fget (cntFld (tc x) k) = if k = ck then v else d.fget (cntFld (tc x) k)

/-- R113: a RECV has taken a token that is not FLUSH: rd holds its payload (16 bits from the control port), the token has
left its sink, the port counts as received, and with `pe` the predicate says whether the kind is not DATA. An ESQ other than
the firing's sends a TAG_MISMATCH notice for each of the two, naming the origin of the route, and counts. -/
structure TileReceives (d : Dev) (x : Issue) (l rd port : Nat) (pe : Bool) (pd : Nat) (t : Token) (e : Dev) : Prop where
  value : e.fget (BLK_TILE_GREG_VALUE x.block x.tile rd) = t.payload.toNat % 2 ^ (if port = 4 then 16 else 32)
  pred : ∀ k < 4, e.p (tc x) k = if pe = true ∧ k = pd then decide (t.kind ≠ .data) else d.p (tc x) k
  count : e.fget (BLK_TILE_ERR_TAG_MISMATCH x.block x.tile) = if t.esq = d.fireEsq (tc x)
    then d.fget (BLK_TILE_ERR_TAG_MISMATCH x.block x.tile) else min (d.fget (BLK_TILE_ERR_TAG_MISMATCH x.block x.tile) + 1) (2 ^ 16 - 1)
  taken : tilePc d x ≠ 127 → e.queue (tileQ x.block l port) ++ e.spill (tileQ x.block l port) =
    (d.queue (tileQ x.block l port) ++ d.spill (tileQ x.block l port)).tail
  others : tilePc d x ≠ 127 → ∀ q, q ≠ tileQ x.block l port → e.queue q = d.queue q ∧ e.spill q = d.spill q
  lane : tilePc d x ≠ 127 → e.fab.lane = if t.esq = d.fireEsq (tc x) then d.fab.lane else
    let n (q : Nat) : Notice := ⟨q, 3, d.origin x.block (tileIn l port).1 (tileIn l port).2, tileId x.block x.tile, blockBit (tileId x.block x.tile), 1⟩
    laneAdd (n (d.fireEsq (tc x))) (laneAdd (n t.esq) d.fab.lane)
  goes : tilePc d x ≠ 127 → TileGoesTo d x (tilePc d x + 1)
    (withField (tileState d x) (BLK_TILE_STATE_PRED x.block x.tile) (e.fget (BLK_TILE_STATE_PRED x.block x.tile)))
    (tileGot d x ||| 2 ^ port) { d.fab with queues := e.fab.queues, spilled := e.fab.spilled, readyOrder := e.fab.readyOrder, lane := e.fab.lane }
    [BLK_TILE_GREG x.block x.tile rd, (BLK_QSTAT_SPILL_HELD x.block (tileIn l port).1 (tileIn l port).2).off] e

/-- But for its registers a device is another one. -/
def Apart (e d : Dev) : Prop := e = { d with regs := e.regs, fresh := e.fresh }

/-- The offset of the register that shows a sink's spilled tokens (R477). -/
def spillReg (q : Nat) : Nat := (BLK_QSTAT_SPILL_HELD (q / 1024) (q / 256 % 4) (q % 256)).off

/-- R72, R447: the tokens of a sink, spilled ones behind. -/
def Dev.tokens (d : Dev) (q : Nat) : List Token := d.queue q ++ d.spill q

/-- R447: spilled tokens stand only behind a queue that holds some. -/
def NoGap (d : Dev) (q : Nat) : Prop := d.queue q = [] → d.spill q = []

/-- R72: the head token of each of these sinks is taken; the other sinks are as they were. -/
def HeadsTaken (qs : List Nat) (d e : Dev) : Prop :=
  (∀ q ∈ qs, e.tokens q = (d.tokens q).tail) ∧ ∀ q, q ∉ qs → e.tokens q = d.tokens q

/-- R106, R121, R159: every one of these inputs holds FLUSH and every one of these output stages is empty. -/
def FlushReady (d : Dev) (qs outs : List Nat) : Prop :=
  (∀ q ∈ qs, ∃ t, d.headOf q = some t ∧ t.kind = .flush) ∧ ∀ o ∈ outs, d.stageOf o = none

/-- FLUSH goes on: it is taken from every input and stands at every output, under the ESQ it came in on at the first input;
no other sink or stage changes. -/
def FlushSent (d : Dev) (qs outs : List Nat) (e : Dev) : Prop :=
  HeadsTaken qs d e ∧ ∀ o, e.stageOf o = if o ∈ outs then
    some ⟨(((qs.head?).bind d.headOf).map Token.esq).getD 0, .flush, 0#512⟩ else d.stageOf o

/-- What stands ahead of a sink's FLUSH. -/
def aheadOf (d : Dev) (q : Nat) : List Token := (d.tokens q).takeWhile (fun t => t.kind != .flush)

/-- What stands ahead of FLUSH at each of these inputs is discarded; no FLUSH is taken, and nothing is sent. -/
def FlushWaits (d : Dev) (qs : List Nat) (e : Dev) : Prop :=
  (∀ q ∈ qs, e.tokens q = (d.tokens q).drop (aheadOf d q).length) ∧ (∀ q, q ∉ qs → e.tokens q = d.tokens q) ∧
    ∀ o, e.stageOf o = d.stageOf o

/-- How many tokens that is. -/
def flushAhead (d : Dev) (qs : List Nat) : Nat := (qs.map (fun q => (aheadOf d q).length)).sum

/-- A counter of `w` bits has counted n (R13). -/
def Counts (d e : Dev) (f : Fld) (n : Nat) : Prop := e.fget f = min (d.fget f + n) (2 ^ f.width - 1)

/-! ## Steering units -/

/-- An SU has taken the heads of `ins` (sink, token), sent `outs` (output, token), those of an output with DISCARD set
excepted, and consumed `lost` more (R119); where the ESQs of `ins` differ, MISMATCH counts (R120). -/
structure SuMoved (d : Dev) (b u : Nat) (ins outs : List (Nat × Token)) (lost : Nat) (e : Dev) : Prop where
  taken : HeadsTaken (ins.map Prod.fst) d e
  sent : ∀ n, e.stageOf n = match outs.find? (fun o => !d.suDrops b u o.1 && qnum b (d.suNet b u) (suOut (d.suNet b u) u o.1) == n) with
    | some o => some o.2
    | none => d.stageOf n
  out0 : Counts d e (BLK_SU_COUNT_TO_OUT0 b u) (outs.filter (fun o => o.1 == 0 && !d.suDrops b u o.1)).length
  out1 : Counts d e (BLK_SU_COUNT_TO_OUT1 b u) (outs.filter (fun o => o.1 == 1 && !d.suDrops b u o.1)).length
  discarded : Counts d e (BLK_SU_ERR_DISCARDED b u) (lost + (outs.filter (fun o => d.suDrops b u o.1)).length)
  mismatch : Counts d e (BLK_SU_ERR_MISMATCH b u) (b2n (esqsDiffer (ins.map Prod.snd)))
  lane : esqsDiffer (ins.map Prod.snd) = false → e.fab.lane = d.fab.lane
  regs : RegsBut ([BLK_SU_ERR b u, BLK_SU_COUNT b u, BLK_UNIT_BUSY b (20 + u)] ++ ins.map (fun i => spillReg i.1)) d e
  rest : Apart e { d with fab := { d.fab with queues := e.fab.queues, spilled := e.fab.spilled, stages := e.fab.stages, lane := e.fab.lane } }

/-- A token other than FLUSH stands at the head of a sink. -/
def Ready (d : Dev) (q : Nat) (t : Token) : Prop := d.headOf q = some t ∧ t.kind ≠ .flush

/-- R119, R120: the output or input that a condition token selects, or DEFAULT where the ESQs differ. -/
def suRoute (d : Dev) (b u : Nat) (c : Token) (ts : List Token) : Nat :=
  if esqsDiffer (c :: ts) then d.fget (BLK_SU_CFG_DEFAULT b u) else d.suChoice b u c

/-- R12, R13: a command clears a counter or a W1C field: it holds what the events of this tick alone make it. -/
def Cleared (d e : Dev) (f : Fld) : Prop := e.fget f = bitsOf (d.freshGet f.off).toNat f.lsb f.width

/-! ## Fabric -/

/-- The parts of the fabric that a transfer of a token changes are as they stand in `e`; the rest of it is as it was. -/
def tokenFab (d e : Dev) : Fabric := { d.fab with
  queues := e.fab.queues, spilled := e.fab.spilled, stages := e.fab.stages, ingress := e.fab.ingress, maskBuf := e.fab.maskBuf,
  lookback := e.fab.lookback, taken := e.fab.taken, replay := e.fab.replay, lastEsq := e.fab.lastEsq, muxLast := e.fab.muxLast, readyOrder := e.fab.readyOrder }

/-- R72, R78: a branch that has accepted a source's token leaves the sender empty where every other branch of the source has
accepted it too, and otherwise leaves it offering the token to the others. -/
structure SenderAcked (d : Dev) (b net i : Nat) (t : Token) (e : Dev) : Prop where
  waits : ¬ (∀ k ∈ d.feeds b net (d.fget (BLK_SW_SRC b net i)), k = i ∨ k ∈ d.takenBy b net (d.fget (BLK_SW_SRC b net i))) →
    i ∈ e.takenBy b net (d.fget (BLK_SW_SRC b net i)) ∧ (∀ p, p ≠ qnum b net i → e.tokens p = d.tokens p) ∧
      e.fab.stages = d.fab.stages ∧ e.fab.ingress = d.fab.ingress ∧ e.fab.maskBuf = d.fab.maskBuf ∧ e.fab.lookback = d.fab.lookback
  mesh : (∀ k ∈ d.feeds b net (d.fget (BLK_SW_SRC b net i)), k = i ∨ k ∈ d.takenBy b net (d.fget (BLK_SW_SRC b net i))) →
    ∀ n k, isMesh net (d.fget (BLK_SW_SRC b net i)) = true → meshFeed b net (d.fget (BLK_SW_SRC b net i)) = some (n, k) →
      e.tokens (qnum n net k) = (d.tokens (qnum n net k)).tail ∧
        ∀ p, p ≠ qnum b net i → p ≠ qnum n net k → e.tokens p = d.tokens p
  stage : (∀ k ∈ d.feeds b net (d.fget (BLK_SW_SRC b net i)), k = i ∨ k ∈ d.takenBy b net (d.fget (BLK_SW_SRC b net i))) →
    isMesh net (d.fget (BLK_SW_SRC b net i)) = false → (∀ p, p ≠ qnum b net i → e.tokens p = d.tokens p) ∧
      (d.stageOf (qnum b net (d.fget (BLK_SW_SRC b net i))) = some t →
        ¬ (net = 1 ∧ 20 ≤ d.fget (BLK_SW_SRC b net i)) → ¬ (net = 2 ∧ d.fget (BLK_SW_SRC b net i) = 28) →
        e.stageOf (qnum b net (d.fget (BLK_SW_SRC b net i))) = none)
  ingress : (∀ k ∈ d.feeds b net (d.fget (BLK_SW_SRC b net i)), k = i ∨ k ∈ d.takenBy b net (d.fget (BLK_SW_SRC b net i))) →
    net = 1 → 20 ≤ d.fget (BLK_SW_SRC b net i) → ∀ p, p = injPort b (d.fget (BLK_SW_SRC b net i)) →
      pgetD e.fab.ingress p [] = (pgetD d.fab.ingress p []).tail

/-- R72: a token stands before a sink that can take it: the sink's domain is ON, its route is valid, its source holds the token
and this branch has not accepted it, the sink has room, and the arbiter of its link grants it. -/
structure Offered (d : Dev) (b net i : Nat) (o : Offer) (t : Token) : Prop where
  wf : (Instr.tokenTransfer b net i o).wf = true
  powered : d.powered b = true
  valid : d.flag (BLK_SW_VALID b net i) = true
  head : d.srcHead b net (d.fget (BLK_SW_SRC b net i)) = some t
  branch : i ∉ d.takenBy b net (d.fget (BLK_SW_SRC b net i))
  room : d.sinkRoom b net i = true
  granted : d.muxGrants b net i o = true

/-! ## The rind -/

/-- What left before stays, in its order, and these leave besides, in their order. -/
def Emits (d e : Dev) (l : List Emit) : Prop := (∃ rest, e.out.Perm (d.out ++ l ++ rest)) ∧ d.out.Sublist e.out ∧ l.Sublist e.out

/-- A back-invalidation of a line of LPDDR5X (R400). -/
def Emit.invalidates : Emit → Bool
  | .backInvalidate _ => true
  | _ => false

/-- What has left the device but for back-invalidations, which any write of the device to LPDDR5X may cause (R400). -/
def Dev.said (d : Dev) : List Emit := d.out.filter (fun x => !x.invalidates)

/-- R395: what leaves as MSI-X vector v is signalled: nothing while it is masked. -/
def Dev.rings (d : Dev) (v : Nat) : List Emit := if d.vectorOn v then [.msix v] else []

/-- R395: the pending bits once vector v has been signalled. -/
def Dev.pended (d : Dev) (v : Nat) : Nat := if d.vectorOn v then d.host.msixPending else setBits d.host.msixPending v 1 1

/-- R31: the EPOCH_MARK that precedes a frame's record on a stream, where the frame is the first of its epoch and the mark is not
out. -/
def markDue (s tick esq : Nat) (st : Stamp) : List Emit :=
  match st.mark with
  | none => []
  | some (old, new) => if bitAt st.marked s then [] else
    [.record s tick (mkRecord 4 st.epoch esq st.time 0 (new % 2 ^ 16 + old % 2 ^ 16 * 2 ^ 16) st.runCtx 0 0)]

/-- R27, R28: the record due at a frame's deadline, as (KIND, ACCEPT, SCORE): NOT_EVALUATED, VOID, DECISION, LATE under
MARK_AT_DEADLINE, or none. -/
def deadlineKind (d : Dev) (s : Nat) (st : Stamp) : Option (Nat × Nat × Nat) :=
  if st.injected = false then some (3, 0, 0)
  else if st.voided = true ∨ bitAt st.dups s = true then some (2, 0, 0)
  else match pget st.results s with
    | some p => some (0, p.toNat % 2 ^ 16, p.toNat / 2 ^ 16 % 2 ^ 64)
    | none => if d.fget (RIND_STREAM_CFG_POLICY s) ≤ 1 then none else some (1, 0, 0)

/-- R32, R33: the record of a stamped frame. -/
def recordOf (st : Stamp) (esq kind accept score : Nat) : Record :=
  mkRecord kind st.epoch esq st.time accept score st.runCtx st.crc (if kind = 3 then 0 else st.ties)

/-- R27, R34, R35: a frame's record has been released on a stream in this tick: it left, ahead of the records of the tick that
belong behind it; its kind counts, the frame counts as released there, and every port of the stream that is ACTIVE and has room
holds it in its queue. -/
structure Released (d : Dev) (s esq : Nat) (st : Stamp) (kind accept score : Nat) (e : Dev) : Prop where
  record : Emits d e (markDue s e.tick esq st ++ [.record s e.tick (recordOf st esq kind accept score)])
  order : ∀ r, Emit.record s e.tick r ∈ e.out.takeWhile (fun x => x != .record s e.tick (recordOf st esq kind accept score)) →
    e.recordRank s r ≤ e.recordRank s (recordOf st esq kind accept score)
  count : Counts d e (RIND_KIND_COUNT_COUNT s kind) 1
  released : bitAt (e.stamp esq).released s = true
  ports : ∀ p < 64, bitAt (d.rget (RIND_STREAM_DEST s)).toNat p = true → (d.role p = rolePeer ∨ d.role p = roleReadout) →
    d.resultPort s p = false → d.pstate p = psActive → (d.port p).recs.length < 255 →
    (s, recordOf st esq kind accept score) ∈ (e.port p).recs

/-! ## Vector units -/

/-- R157: no read of a VU's stores fails, and no pipeline register. -/
def noBad : VuParity := ⟨[], [], [], [], [], false⟩

/-- R142: the weight of stage h for lane o and input i of its half, from the weight store: INT8 four, INT4 eight inputs a word. -/
def vuWeight (d : Dev) (u h base : Nat) (int4 : Bool) (o i : Nat) : Int :=
  if int4 = true then
    let byte := memGet d.mem (vuStore u + 0x8000 * h + 0x100 * (base + i / 8) + 4 * o + i % 8 / 2)
    sx 4 (if i % 2 = 0 then byte % 16 else byte / 16)
  else sx 8 (memGet d.mem (vuStore u + 0x8000 * h + 0x100 * (base + i / 4) + 4 * o + i % 4))

/-- R141: what a row adds to lane o of stage h: the sum of weight times code less zero point over the stage's 32 inputs. -/
def vuSum (d : Dev) (u h base : Nat) (int4 : Bool) (zp : Nat) (row : List Nat) (o : Nat) : Int :=
  ((List.range 32).map (fun i => vuWeight d u h base int4 o i * ((row.getD (32 * h + i) 0 : Int) - (zp : Int)))).sum

/-- R142, R150: the accumulator of lane o of stage 0 before the repetition's row: as it stands, or the bias or zero it begins
with. -/
def vuAcc0 (d : Dev) (u : Nat) (x : VuPos) (st : VuStep) (o : Nat) : Int :=
  if x.accOpen = true then x.acc0.getD o 0
  else if st.accInit = 2 then sx 32 (d.leMem (vuStore u + 0x100 * (st.bAddr + if st.wAdv = true then x.rep else 0) + 4 * o) 4)
  else 0

/-- The turns counter of a VU (R477). -/
def vuBusyReg (u : Nat) : Nat :=
  if unitClass u = 1 then BLK_UNIT_BUSY (unitWhere u) (17 + unitIndex u) else FAB_SPARE_UNIT_BUSY (2 * unitWhere u + unitIndex u)

/-- What a step of a VU leaves alone: all but its own registers, the turns counter and the spill counts of the sinks it
takes from, and of the fabric its own position, queues, stages and the priority lane. -/
def VuOnly (d : Dev) (u : Nat) (qs : List Nat) (e : Dev) : Prop :=
  RegsBut ([BLK_VU_STATE (vuWindow u), BLK_VU_ERR (vuWindow u), BLK_VU_CYCLES (vuWindow u), vuBusyReg u] ++
    (List.range 4).flatMap (fun k => BLK_VU_S2 (vuWindow u) k :: BLK_VU_S2_LIM (vuWindow u) k ::
      (List.range 4).map (fun j => (BLK_VU_QCOUNT_COUNT (vuWindow u) k j).off)) ++ qs.map spillReg) d e ∧
  Apart e { d with fab := { d.fab with
    vus := e.fab.vus, queues := e.fab.queues, spilled := e.fab.spilled, stages := e.fab.stages, lane := e.fab.lane } } ∧
  ∀ k, k ≠ u → e.vu k = d.vu k

/-- R145, R182: lane o of an accumulation rescaled to 16 bits. -/
def vuRescaled (d : Dev) (w : Nat) (st : VuStep) (a : VuAcc) (o : Nat) : Int :=
  let e := d.rescaleEntry w st.rsSel o
  sat16 (if st.scaleIn = true then
      rndDiv ((e.1 : Int) * ((a.lanes.getD o 0 - a.bias.getD o 0) * (a.q : Int) * (2 ^ a.e2 : Nat) + a.bias.getD o 0 * (2 ^ 40 : Nat))) (2 ^ (e.2 + 40))
    else rndDiv (a.lanes.getD o 0 * (e.1 : Int)) (2 ^ e.2))

/-- R145: with the elementwise operand added (EW 1) or subtracted (EW 2). -/
def vuElementwise (d : Dev) (w : Nat) (st : VuStep) (a : VuAcc) (ts : List Token) (o : Nat) : Int :=
  let t := sx 16 (((ts.getD (o / 32) default).payload.toNat / 2 ^ (16 * (o % 32))) % 2 ^ 16)
  if st.ew = 0 then vuRescaled d w st a o
  else if st.ew = 1 then sat16 (vuRescaled d w st a o + t)
  else sat16 (vuRescaled d w st a o - t)

/-! ## Memory units -/

/-- n bytes are written from an address on, little-endian, and no other byte of memory changes. -/
def Stored (addr n v : Nat) (d e : Dev) : Prop :=
  (∀ k < n, memGet e.mem (addr + k) = v / 256 ^ k % 256) ∧ ∀ a, (a < addr ∨ addr + n ≤ a) → memGet e.mem a = memGet d.mem a

/-- R193: the unit of an AGU's region at an offset from `PTR`. -/
def aguAt (d : Dev) (b a : Nat) (i : Int) : Nat :=
  d.fget (BLK_MU_AGU_ADDR_BASE b a) + (((d.fget (BLK_MU_AGU_ADDR_PTR b a) : Int) + i) % (d.fget (BLK_MU_AGU_CFG_WRAP b a) : Int)).toNat

/-- R193: `PTR` has moved on by n strides within the region. -/
def PtrMoved (d : Dev) (b a n : Nat) (e : Dev) : Prop :=
  e.fget (BLK_MU_AGU_ADDR_PTR b a) = (((d.fget (BLK_MU_AGU_ADDR_PTR b a) : Int) + (n : Int) * d.fint (BLK_MU_AGU_CFG_STRIDE b a)) %
    (d.fget (BLK_MU_AGU_CFG_WRAP b a) : Int)).toNat

/-- The token an AGU sends stands at its source, and no other stage has changed. -/
def AguSent (d : Dev) (b a esq v : Nat) (e : Dev) : Prop :=
  ∀ o, e.stageOf o = if o = qnum b (d.aguSource b a).1 (d.aguSource b a).2 then some ⟨esq, .data, BitVec.ofNat 512 v⟩ else d.stageOf o

/-- An access of a bank that no read fails and nothing races (R195, R198). -/
def cleanAccess : Access := ⟨0, none⟩

/-- What an AGU's access leaves alone: all registers but its own, the MU's counts and the spill counts of its sink; flash; and
every other part of the fabric than queues, stages, the AGUs, the bad locations and the priority lane. -/
def MuOnly (d : Dev) (b a : Nat) (qs : List Nat) (e : Dev) : Prop :=
  RegsBut ([BLK_MU_AGU_ADDR b a, BLK_MU_ACCESS b, BLK_MU_ERR b, BLK_UNIT_BUSY b 19] ++ qs.map spillReg) d e ∧
  Apart e { d with
    mem := e.mem
    fab := { d.fab with queues := e.fab.queues, spilled := e.fab.spilled, stages := e.fab.stages, agus := e.fab.agus,
                        badLocs := e.fab.badLocs, lane := e.fab.lane, portLost := e.fab.portLost } }

/-- The tokens of an input of an MU: a sink, or an AGU's look-back buffer. -/
def Dev.muTokens (d : Dev) (i : Bool × Nat) : List Token := if i.1 = true then pgetD d.fab.lookback i.2 [] else d.tokens i.2

/-- A token other than FLUSH of an MU's inputs. -/
def Token.stays (t : Token) : Bool := t.kind != .flush

/-- Each input of an MU holds what `f` leaves of it where it is one of these, and else what it held. -/
def MuInputs (d : Dev) (ins : List (Bool × Nat)) (f : List Token → List Token) (e : Dev) : Prop :=
  ∀ i, e.muTokens i = if i ∈ ins then f (d.muTokens i) else d.muTokens i

/-- R221: AGU a alone serves the decoupling queue's requests now: the other is in another mode, or has nothing in hand and no
request. -/
def DqAlone (d : Dev) (b a : Nat) : Prop :=
  d.aguMode b a = 6 ∧ (d.aguMode b (1 - a) ≠ 6 ∨ ((d.agu b (1 - a)).op = 0 ∧ d.headOf (qnum b 0 (88 + (1 - a))) = none))

/-- What a command on a decoupling queue leaves alone: all registers but these, and every other part of the device than its memory,
what leaves it, the queues, stages, AGUs, inbound entries and priority lane. -/
def DqOnly (d : Dev) (regs : List Nat) (e : Dev) : Prop :=
  RegsBut regs d e ∧ Apart e { d with
    mem := e.mem
    out := e.out
    fab := { d.fab with queues := e.fab.queues, spilled := e.fab.spilled, stages := e.fab.stages, agus := e.fab.agus, dq := e.fab.dq, lane := e.fab.lane } }

/-- R139: lanes of a width in one payload, lane 0 lowest. -/
def packed (w : Nat) (xs : List Int) : Nat := (xs.zipIdx.map (fun e => wrapTo w e.1 * 2 ^ (w * e.2))).sum

/-- R146, R177, R178: the row stage 3 makes of an accumulation, and its row code with its flag. -/
def vuRow (d : Dev) (w : Nat) (st : VuStep) (a : VuAcc) : List Int := a.out.map (d.activate w st.act)
/-- See `vuRow`. -/
def vuCode (d : Dev) (w : Nat) (st : VuStep) (a : VuAcc) : Nat × Nat :=
  quantCode st.fixed (d.fget (BLK_VU_S2_FIXED_Q w st.slot)) (d.fget (BLK_VU_S2_OUT_ZP w st.slot)) (d.fget (BLK_VU_S2_S2 w st.slot))
    (quantMag (d.fget (BLK_VU_S2_OUT_ZP w st.slot)) (vuRow d w st a))
/-- R179: the codes of the row. -/
def vuCodes (d : Dev) (w : Nat) (st : VuStep) (a : VuAcc) : List Nat :=
  (vuRow d w st a).map (quantLane (vuCode d w st a).1 (d.fget (BLK_VU_S2_OUT_ZP w st.slot)) (d.fget (BLK_VU_S2_S2 w st.slot)))

/-- R139, R140, R147, R148, R151: what one accumulation sends, in order, as (network, payload): the row as codes, as 16-bit
lanes in two tokens or one, or as accumulators in four; the scale token of codes; the reduction. -/
def vuRowTokens (d : Dev) (w : Nat) (st : VuStep) (a : VuAcc) : List (Nat × Nat) :=
  let s2 := d.fget (BLK_VU_S2_S2 w st.slot)
  let f := (vuCode d w st a).2
  (if st.outFmt = 1 then [(1, packed 8 ((vuCodes d w st a).map (fun c : Nat => (c : Int))))]
   else if st.outFmt = 2 then [(1, packed 16 ((vuRow d w st a).take 32)), (1, packed 16 ((vuRow d w st a).drop 32))]
   else if st.outFmt = 3 then [(1, packed 16 ((vuRow d w st a).take 32))]
   else if st.outFmt = 4 then (List.range 4).map (fun k => (1, packed 32 ((a.lanes.drop (16 * k)).take 16)))
   else []) ++
  (if st.outFmt = 1 ∧ d.flag (BLK_VU_CFG_SCALE_OUT w) = true then
    [(0, (vuCode d w st a).1 % 2 ^ 8 + s2 / 2 ^ 10 % 2 ^ 6 * 2 ^ 8 + (if f = fNone then 0 else 2 ^ (13 + f)))] else []) ++
  (if st.red = 0 then [] else [(0, reduceRow st.red (vuRow d w st a))])

/-! ## Tasks -/

/-- R272, R275: every task of a graph has its final status once task `idx` has `status`. -/
def lastTask (g : Graph) (idx status : Nat) : Bool := (g.status.set idx status).all (fun x => decide (2 ≤ x))

/-- R275, R286, R400, R409: a task of `b` has got its final status: its descriptor holds status and result and the rest of memory is
as it was, its line having been back-invalidated; it waits for nothing; the other graphs are as they were. While another task of its graph is not final, the graph
stays in flight and its register shows its tasks. With the last one of a host's graph the entry GRAPH_DONE is made. -/
structure TaskEnds (slot idx status result : Nat) (b e : Dev) : Prop where
  words : Stored (b.descAt slot idx + 0x38) 8 (status + 2 ^ 32 * (result % 2 ^ 32)) b e
  waits : e.rce.waits = b.rce.waits.filter (fun w => !(w.1 == slot && w.2.1 == idx))
  others : ∀ k, k ≠ slot → e.graph k = b.graph k
  flight : ∀ g, b.graph slot = some g → lastTask g idx status = false →
    e.graph slot = some { g with status := g.status.set idx status } ∧ e.host = b.host ∧
    e.fget (RCE_GRAPH_TAG slot) = g.tag % 2 ^ 16 ∧ e.fget (RCE_GRAPH_STATE slot) = (if g.aborting then 3 else 1) ∧
    e.fget (RCE_GRAPH_FINISHED slot) = ((g.status.set idx status).filter (fun x => decide (2 ≤ x))).length % 2 ^ 13 ∧
    e.fget (RCE_GRAPH_FAILED slot) = ((g.status.set idx status).filter (fun x => decide (3 ≤ x))).length % 2 ^ 13
  ended : ∀ g, b.graph slot = some g → lastTask g idx status = true → slot ≠ 15 →
    ∃ body, e.host = { b.host with hold := b.host.hold ++
      [⟨cqBytes 1 (g.tag + slot * 2 ^ 16 + b2n g.aborting * 2 ^ 20) b.timeOr0 body, some slot⟩] }
  firmware : ∀ g, b.graph slot = some g → lastTask g idx status = true → slot = 15 → e.graph 15 = none ∧ e.host = b.host ∧
    e.fget (RCE_GRAPH_STATE 15) = 2
  regs : RegsBut [RCE_GRAPH slot, RCE_STATUS] b e
  rest : e = { b with
    mem := e.mem
    out := b.out ++ b.invalidated (b.descAt slot idx + 0x38) 4 ++ b.invalidated (b.descAt slot idx + 0x3C) 4
    regs := e.regs
    host := e.host
    rce := { b.rce with graphs := e.rce.graphs, waits := e.rce.waits } }

/-- R558: a task of `b` has ended, and the ATTEST commands that waited for a run task have been answered where none is in progress
any more. -/
def TaskOver (slot idx status result : Nat) (b e : Dev) : Prop :=
  ∃ m, TaskEnds slot idx status result b m ∧ e = m.answerAttests

/-- A task completes: its own effect makes of the device one of which P holds, and it ends as DONE with a result. -/
def TaskDone (c : Instr) (s : State) (slot idx result : Nat) (P : Dev → Prop) : Prop :=
  Does c s (fun e => ∃ b, P b ∧ TaskOver slot idx 2 result b e)

/-- A task ends with a status other than DONE and no other effect. -/
def TaskFails (c : Instr) (s : State) (slot idx status result : Nat) : Prop :=
  Does c s (fun e => TaskOver slot idx status result s.dev e)

/-- A task waits for something, and nothing else changes but what is listed. -/
def TaskWaits (d : Dev) (slot idx : Nat) (w : WaitFor) (e : Dev) : Prop := e.rce.waits = d.rce.waits ++ [(slot, idx, w)]

/-! ## The time unit -/

/-- R287, R291, R293: a servo update with an offset in ps over u µs of a device whose source is not FREE: within 1 µs the two
terms move, above it the slew is zero and an own opening of the step is announced where `opens`; the increment follows the
terms, and LOCKED the run of offsets within 20 ns. -/
structure Servoed (d : Dev) (off : Int) (u : Nat) (opens : Bool) (e : Dev) : Prop where
  shown : e.fint TU_OFFSET_SOURCE_PS = satPs off
  small : off.natAbs ≤ 1000000 → e.tu.openings = d.tu.openings ∧
    e.fint TU_SERVO_STATE_F_I = clampI (-500000) 500000 (d.fint TU_SERVO_STATE_F_I - rndDiv ((d.fget TU_SERVO_KI : Int) * off * 1000) (65536 * u)) ∧
    e.fint TU_SERVO_STATE_F_P = clampI (-200000) 200000 (-(rndDiv ((d.fget TU_SERVO_KP : Int) * off * 1000) (256 * u)))
  large : 1000000 < off.natAbs → e.fint TU_SERVO_STATE_F_I = d.fint TU_SERVO_STATE_F_I ∧ e.fint TU_SERVO_STATE_F_P = 0 ∧
    e.flag TU_STATUS_LOCKED = false ∧ (opens = false → e.tu.openings = d.tu.openings) ∧
    (opens = true → ∃ o, e.tu.openings = d.tu.openings.filter (fun x => !x.own) ++ [o] ∧ o.delta = -(rndDiv off 1000) ∧
      o.epoch = (d.epoch + 1) % 2 ^ 16 ∧ o.own = true ∧ o.stepAt = some (d.stepAt % 2 ^ 64) ∧ e.flag TU_STATUS_STEP_PENDING = true)
  inc : e.fget TU_INC_INC = wrapTo 64 (0x140000000 +
    rndDiv (clampI (-500000) 500000 (e.fint TU_SERVO_STATE_F_I + e.fint TU_SERVO_STATE_F_P) * 0x140000000) 1000000000)
  run : e.tu.lockRun = if off.natAbs ≤ 20000 then d.tu.lockRun + 1 else 0
  lock : off.natAbs ≤ 20000 → 8 ≤ d.tu.lockRun + 1 → e.flag TU_STATUS_LOCKED = true
  time : e.time = d.time ∧ e.tick = d.tick

/-- R293: the source is lost: the integral term is held, the slew is zero. -/
def SourceLost (d e : Dev) : Prop :=
  e.flag TU_STATUS_SOURCE_LOST = true ∧ (d.flag TU_STATUS_SOURCE_LOST = false → e.flag TU_STATUS_LOCKED = false ∧
    e.fint TU_SERVO_STATE_F_P = 0 ∧ e.fint TU_SERVO_STATE_F_I = d.fint TU_SERVO_STATE_F_I ∧ e.tu.lockRun = 0)

/-- R297, R300: an opening has taken effect in the device b: the time steps and the epoch is the opening's. -/
structure Opened (b : Dev) (o : Opening) (e : Dev) : Prop where
  time : e.time = wrapTo 96 ((b.time : Int) + o.delta * 2 ^ 32)
  tick : e.tick = b.tick
  epoch : e.epoch = o.epoch % 2 ^ 16 ∧ e.fget RIND_STATUS_EPOCH = o.epoch % 2 ^ 16
  counted : e.flag TU_STATUS_OPENED = true ∧ e.fget TU_STEP_INFO_OPENINGS = min (b.fget TU_STEP_INFO_OPENINGS + 1) (2 ^ 32 - 1)
  gone : e.tu.openings = b.tu.openings.erase o

/-- R302: entry i of the schedule has changed to x; the other entries are as they were. -/
def EntrySet (d : Dev) (i : Nat) (x : SchedEntry) (e : Dev) : Prop := e.sch i = x ∧ ∀ k, k ≠ i → e.sch k = d.sch k

/-- R310: a report joins the event queue where 64 do not wait, and else counts as lost. -/
def Reported (d : Dev) (code i value : Nat) (e : Dev) : Prop :=
  (d.tu.events.length < 64 → e.tu.events = d.tu.events ++ [code + i * 2 ^ 8 + d.epoch * 2 ^ 16 + min value (2 ^ 32 - 1) * 2 ^ 32]) ∧
  (64 ≤ d.tu.events.length → e.tu.events = d.tu.events ∧ Counts d e TU_SCHED_STAT_EVENTS_LOST 1)

/-! ## Peust ports -/

/-- Port p is x; the other ports are as they were. -/
def PortIs (d : Dev) (p : Nat) (x : Port) (e : Dev) : Prop := e.port p = x ∧ ∀ q, q ≠ p → e.port q = d.port q

/-- R368: an event joins a port's log where 64 do not wait, and else counts as lost. -/
def Logged (d : Dev) (p code seq : Nat) (e : Dev) : Prop :=
  ((d.port p).log.length < 64 → (e.port p).log = (d.port p).log ++ [⟨code, seq, d.ns, d.epoch⟩]) ∧
  (64 ≤ (d.port p).log.length → (e.port p).log = (d.port p).log ∧ Counts d e (PL_EVENT_INFO_LOG_LOST p) 1)

/-- R369: the violation window of a port once one more violation counts: its end and its count. -/
def windowNow (d : Dev) (p : Nat) : Nat × Nat :=
  match (d.port p).window with
  | some (t, n) => if d.tick < t then (t, n + 1) else (d.tick + 800 * max 1 (d.fget (PL_QUAR_CFG_WINDOW_US p)), 1)
  | none => (d.tick + 800 * max 1 (d.fget (PL_QUAR_CFG_WINDOW_US p)), 1)

/-- R369: the violation does not exceed LIMIT. -/
def Calm (d : Dev) (p : Nat) : Prop :=
  d.fget (PL_QUAR_CFG_LIMIT p) = 0 ∨ (windowNow d p).2 ≤ d.fget (PL_QUAR_CFG_LIMIT p)

/-- R367 to R369: a violation on an ACTIVE port has been counted; within LIMIT it is logged and counts in its window, beyond it the
port is in QUARANTINE; it is answered at once, or deferred within 1 µs of the last answer, or counted to those deferred. -/
structure Violated (d : Dev) (p code seq : Nat) (answered : Bool) (e : Dev) : Prop where
  count : Counts d e (PL_VIOL_CNT_COUNT p code) 1
  calm : Calm d p → Logged d p code seq e ∧ (e.port p).window = some (windowNow d p) ∧ e.pstate p = d.pstate p
  over_ : ¬ Calm d p → e.pstate p = psQuarantine ∧ (e.port p).window = none ∧ (e.port p).quarErr = d.tick ∧ (e.port p).recs = []
  silent : answered = false → (e.port p).deferred = (d.port p).deferred ∧ (e.port p).lastErr = (d.port p).lastErr
  first : answered = true → (d.port p).deferred = none → (∀ t, (d.port p).lastErr = some t → t + 800 ≤ d.tick) →
    e.out = d.out ++ [.protoErr p code seq (d.ns % 2 ^ 48) 0] ∧ (e.port p).lastErr = some d.tick ∧ (e.port p).deferred = none
  later : answered = true → (d.port p).deferred = none → (∃ t, (d.port p).lastErr = some t ∧ d.tick < t + 800) →
    e.out = d.out ∧ (e.port p).deferred = some (code, seq, d.ns % 2 ^ 48) ∧ (e.port p).more = 0
  more : answered = true → ∀ x, (d.port p).deferred = some x →
    e.out = d.out ∧ (e.port p).deferred = some x ∧ (e.port p).more = min ((d.port p).more + 1) (2 ^ 16 - 1)
  others : ∀ q, q ≠ p → e.port q = d.port q

/-- R355, R359, R365, R370, R375, R389: a port has left ACTIVE or another state: what waited on it is lost and counted, no version is in
force, its lanes hold the settings they had, and it shows nothing of TEST. -/
structure Left (d : Dev) (p : Nat) (e : Dev) : Prop where
  records : Counts d e (PL_TX_CNT_RECORDS_LOST p) ((d.port p).recs.length + (d.port p).results.length)
  captures : Counts d e (PL_TX_CNT_CAPTURES_LOST p) (d.port p).caps.length
  empty : (e.port p).recs = [] ∧ (e.port p).results = [] ∧ (e.port p).caps = [] ∧ (e.port p).retryFor = none ∧ (e.port p).badRun = 0 ∧
    (e.port p).alignPs = none ∧ (e.port p).exiting = none
  version : e.version p = 0 ∧ e.flag (PL_SEQ_SEQ_VALID p) = false ∧ e.flag (PL_STATUS_MARGIN_WARN p) = false
  taps : (e.port p).taps = if d.pstate p = psActive then (List.range 52).map (d.tapNow p) else (d.port p).taps
  test : d.pstate p = psTest → ∀ l < 4, e.flag (PL_LANE_PRBS_RX_LOCK p l) = false ∧ e.fget (PL_LANE_SLIP_SLIP_TOTAL p l) = 0
  others : ∀ q, q ≠ p → e.port q = d.port q ∧ (q < 64 → e.pstate q = d.pstate q)

/-- R361, R362: an attempt of a port begins at DETECT, with a nonce and the offer in force. -/
structure Began (d : Dev) (p : Nat) (e : Dev) : Prop where
  state : e.pstate p = psDetect
  port : (e.port p).since = e.tick ∧ (e.port p).dark = none ∧ (e.port p).reqEnd = none ∧ (e.port p).offer = none ∧
    (e.port p).agree = 0 ∧ (e.port p).ack = false ∧ (e.port p).lanes = [] ∧ (e.port p).ownMax = d.versionMax p
  nonce : (e.port p).nonce = Config.nonce d.freeIdx % 2 ^ 16 ∧ e.freeIdx = d.freeIdx + 1

/-- R363: a new set of attempts has begun; `single` makes it one attempt. -/
def SetBegan (d : Dev) (p : Nat) (single : Bool) (e : Dev) : Prop :=
  Began d p e ∧ e.fget (PL_STATUS_ATTEMPTS p) = 1 ∧ (e.port p).single = single

/-- R363: the attempt of a port has failed: dark for 10 ms, or DOWN after the third or a single one. -/
def AttemptFailed (d : Dev) (p cause : Nat) (e : Dev) : Prop :=
  e.fget (PL_STATUS_FAIL_STATE p) = d.pstate p ∧ e.fget (PL_STATUS_FAIL_CAUSE p) = cause ∧
  ((d.port p).single = true ∨ 3 ≤ d.fget (PL_STATUS_ATTEMPTS p) → e.pstate p = psDown ∧ Left d p e) ∧
  ((d.port p).single = false → d.fget (PL_STATUS_ATTEMPTS p) < 3 → e.pstate p = psDetect ∧
    (e.port p).dark = some (d.tick + 8000000) ∧ (e.port p).since = d.tick ∧ ∀ q, q ≠ p → e.port q = d.port q)

/-- R364: the link of a port has dropped: counted, logged, and without loss of signal RETRAIN_REQ for 1 µs; else a new set. -/
structure Dropped (d : Dev) (p : Nat) (loss : Bool) (e : Dev) : Prop where
  count : Counts d e (PL_STATUS_LINK_DROPS p) 1
  logged : Logged d p 14 0 e
  left : Left d p e
  state : e.pstate p = psDetect
  asks : loss = false → e.out = d.out ++ [.control p 0x78 0] ∧ (e.port p).reqEnd = some (d.tick + 800)
  anew : loss = true → SetBegan d p false e ∧ e.out = d.out

/-- R351, R361, R365: a port has become ACTIVE at its version; a request for IDLE made meanwhile takes it to IDLE on Peust 2 and 3. -/
structure Activated (d : Dev) (p : Nat) (e : Dev) : Prop where
  active : ¬ (d.flag (PL_CTRL_IDLE_REQ p) = true ∧ 2 ≤ (d.port p).version) → e.pstate p = psActive ∧
    e.version p = (d.port p).version % 4 ∧ e.out = d.out ∧ (e.port p).txSeq = 0 ∧ (e.port p).capSeq = 0 ∧ (e.port p).sent = [] ∧ (e.port p).missed = 0 ∧
    (e.port p).exiting = none ∧
    (e.port p).since = d.tick ∧ (e.port p).recs = (d.port p).recs
  idle : d.flag (PL_CTRL_IDLE_REQ p) = true → 2 ≤ (d.port p).version → e.pstate p = psIdle ∧ e.out = d.out ++ [.control p 0x66 0]
  credit : e.fget (PL_CREDIT_CREDIT p) = 0
  others : ∀ q, q ≠ p → e.port q = d.port q

/-! ## The mailbox and the SPDM responder -/

/-- R414: a mailbox command has completed with a return code and a payload, signalled on vector 1; every command but
GET_CERTIFICATE puts its part back to 0 (R553). -/
def Replied (d : Dev) (op code : Nat) (bs : List Nat) (e : Dev) : Prop :=
  e = { d with
    out := d.out ++ [.mailbox op code bs] ++ d.rings 1
    host := { d.host with
      msixPending := d.pended 1
      mbox := { d.host.mbox with certPart := if op = 0xC010 then d.host.mbox.certPart else 0 } } }

/-- R414: a background command has completed: told that it started, then its outcome. -/
def RepliedLater (d : Dev) (op code : Nat) (bs : List Nat) (e : Dev) : Prop :=
  e = { d with
    out := d.out ++ [.mailbox op 1 []] ++ d.rings 1 ++ [.mailbox op code bs] ++ d.rings 1
    host := { d.host with
      msixPending := d.pended 1
      mbox := { d.host.mbox with certPart := 0 } } }

/-- The device with this mailbox. -/
def boxed (d : Dev) (m : Mailbox) : Dev := { d with host := { d.host with mbox := m } }

/-- R415: the payload of a vendor command: its VSTATUS and its output. -/
def vendor (vs : Nat) (bs : List Nat) : List Nat := leBytes 4 vs ++ bs

/-- R415: the mailbox answers, and accepts this command now. -/
def Takes (d : Dev) (op : Nat) : Prop := d.mboxUp = true ∧ d.mboxAccepts op = true

/-- R529, R530: every register and memory is as after reset, but flash, the owner records, the repair cache and THERM_TRIP_N
are kept; LPDDR5X, its region table and the bank library too where it was in self-refresh, except the regions the loader
made. What left the device so far is `out`. -/
structure ResetTo (d : Dev) (out : List Emit) (kept : Bool) (e : Dev) : Prop where
  erased : kept = false → e = { Dev.reset with
    flash := d.flash
    owner := d.owner
    boot := { torn := d.boot.torn || d.fget SEC_UPDATE_UPDATE_STATE == 2 }
    pins := { d.pins with smbAlert := false }
    pwr := { repair := d.pwr.repair }
    freeIdx := d.freeIdx
    out := out }
  retained : kept = true → e = { Dev.reset with
    regs := e.regs
    mem := e.mem
    flash := d.flash
    owner := d.owner
    boot := { torn := d.boot.torn || d.fget SEC_UPDATE_UPDATE_STATE == 2, kept := true }
    pins := { d.pins with smbAlert := false }
    pwr := { repair := d.pwr.repair }
    rce := { Dev.reset.rce with library := d.rce.library }
    freeIdx := d.freeIdx
    out := out }
  memory : kept = true → (∀ a < 0x1400000000, pget e.mem a = pget d.mem a) ∧ ∀ a, 0x1400000000 ≤ a → pget e.mem a = none
  regions : kept = true → RegsBut ((List.range 16).map LPX_REGION) Dev.reset e ∧ (∀ k < 3, e.rget (LPX_REGION k) = Dev.reset.rget (LPX_REGION k)) ∧
    ∀ k, 3 ≤ k → k < 16 → e.rget (LPX_REGION k) = if k ∈ d.rce.regions then Dev.reset.rget (LPX_REGION k) else d.rget (LPX_REGION k)

/-- R416: a region of `mib` MiB fits at `base`: below the firmware's 1 GiB, and apart from every region in use. -/
def Fits (d : Dev) (base mib : Nat) : Prop :=
  base + mib ≤ 0x13C00 ∧ ∀ k < 16, d.fget (LPX_REGION_KIND k) = 0 ∨ base + mib ≤ d.fget (LPX_REGION_BASE_MIB k) ∨
    d.fget (LPX_REGION_BASE_MIB k) + d.fget (LPX_REGION_SIZE_MIB k) ≤ base

/-- The registers that show the owner records (R561, R563, R565 to R567). -/
def ownerRegs : List Nat := [SEC_STATUS, SEC_FW, SEC_OWNER_SEQ, SEC_OWNER_MIN] ++ (List.range 4).map SEC_OWNER_DIGEST

/-- The registers show the owner records `o`. -/
structure OwnerShown (o : Owner) (e : Dev) : Prop where
  flags : e.flag SEC_STATUS_OWNER_ENROLLED = o.enrolled ∧ e.flag SEC_STATUS_REQUIRE_SIGNED = o.requireSigned
  seqs : e.fget SEC_OWNER_SEQ_POLICY_SEQ = o.policySeq % 2 ^ 32 ∧ e.fget SEC_OWNER_SEQ_ENROL_SEQ = o.enrolSeq % 2 ^ 32
  least : e.fget SEC_OWNER_MIN_MIN_FW_SVN = o.minFwSvn % 2 ^ 32
  digest : ∀ k < 4, e.fget (SEC_OWNER_DIGEST_DIGEST k) = (if o.enrolled then
    Config.sha3 (leBytes 32 o.edDigest ++ leBytes 32 o.mlDigest) else 0) / 2 ^ (64 * k) % 2 ^ 64

/-- The owner records `o` are shown, and nothing else of the registers has changed. -/
structure OwnerSet (d : Dev) (o : Owner) (e : Dev) : Prop where
  shown : OwnerShown o e
  rest : RegsBut ownerRegs d e ∧ e.fget SEC_FW_SVN = d.fget SEC_FW_SVN ∧ e.flag SEC_STATUS_IDENTITY_OK = d.flag SEC_STATUS_IDENTITY_OK

/-- R557: the bytes of an attestation report before its signatures. -/
structure Reports (d : Dev) (nonce bs : List Nat) : Prop where
  head : bs.take 8 = [0x45, 0x56, 0x58, 0x41, 1, 0, 0, 0]
  serial : leAt bs 8 8 = d.fget GLB_SERIAL_SERIAL
  nonce : (bs.drop 0x10).take 32 = nonce
  firmware : ∀ k < 4, leAt bs (0x30 + 8 * k) 8 = d.fget (SEC_FW_DIGEST_DIGEST k)
  version : leAt bs 0x50 8 = (d.rget GLB_FW_VERSION).toNat ∧ leAt bs 0x58 4 = d.fget SEC_FW_SVN
  flags : (leAt bs 0x5C 4).testBit 0 = d.rce.image.isSome ∧ (leAt bs 0x5C 4).testBit 2 = d.owner.enrolled ∧
    (leAt bs 0x5C 4).testBit 3 = d.owner.requireSigned ∧ (leAt bs 0x5C 4).testBit 5 = decide (d.fget SEC_UPDATE_UPDATE_STATE = 3) ∧
    ∀ im, d.rce.image = some im → (leAt bs 0x5C 4).testBit 1 = im.signed ∧ (leAt bs 0x5C 4).testBit 4 = im.figures.any Figure.t2
  image : leAt bs 0x60 32 = (d.rce.image.elim 0 Image.digest) % 2 ^ 256 ∧ leAt bs 0x80 32 = d.rce.regDigest % 2 ^ 256
  owner : leAt bs 0xA0 32 = (if d.owner.enrolled then Config.sha3 (leBytes 32 d.owner.edDigest ++ leBytes 32 d.owner.mlDigest) else 0) % 2 ^ 256 ∧
    leAt bs 0xC0 4 = d.owner.policySeq % 2 ^ 32
  run : leAt bs 0xC4 4 = d.fget RCE_RUN_CTX_RUN_CTX ∧ bs.getD 0xC8 0 = d.runState ∧ bs.getD 0xC9 0 = d.fget GLB_ID_STEPPING ∧
    bs.getD 0xCA 0 = d.fget GLB_ID_GRADE ∧ bs.getD 0xCB 0 = 0
  time : leAt bs 0xD8 8 = d.tick % 2 ^ 64

/-- R560: an ERROR response has left; nothing else has changed. -/
def SpdmFailed (d : Dev) (code : Nat) (e : Dev) : Prop := e = { d with out := d.out ++ [.spdm 0x7F [0x12, 0x7F, code, 0]] }

/-- R560: a response has left; it and its request have joined the transcript, and the connection is otherwise `x`. -/
def Responded (d : Dev) (req : List Nat) (code p1 p2 : Nat) (bs : List Nat) (x : Spdm) (e : Dev) : Prop :=
  let msg := [0x12, code, p1, p2] ++ bs
  e = { d with
    out := d.out ++ [.spdm code msg]
    host := { d.host with spdm := { x with transcript := d.host.spdm.transcript ++ req ++ msg } } }

/-- A request reaches the responder: version 1.2, this code, long enough, and the connection has come far enough. -/
structure Asks (d : Dev) (req : List Nat) (code phase len : Nat) : Prop where
  up : d.mboxUp = true
  version : leAt req 0 1 = 0x12
  code : leAt req 1 1 = code
  long : len ≤ req.length
  phase : phase ≤ d.host.spdm.phase

/-- Random bytes of the k-th draw from now on. -/
def drawn (d : Dev) (k n : Nat) : List Nat := padTo n (Config.spdmRandom (d.freeIdx + k))

/-- The device after k draws. -/
def drew (d : Dev) (k : Nat) : Dev := { d with freeIdx := d.freeIdx + k }

/-! ## The ledger, the deadlock detector and snapshots -/

/-- R440: a report merges into an entry of its kind and suspect that opened within 2 µs, or of a hard kind in the same segment where
the suspect has failed. -/
def MergesInto (d : Dev) (kind suspect : Nat) (x : LedgerEntry) : Bool :=
  decide (x.kind = kind ∧ x.suspect = suspect ∧ (d.tick ≤ x.tick + 1600 ∨
    (kind ∈ [2, 6, 8, 10] ∧ suspect ∈ d.fab.failed ∧ x.segment = d.fget RCE_STATUS_SEGMENTS)))

/-- R439 to R442: a report has reached the ledger: merged, or a new entry, or lost where 1,024 stand; a voiding kind enters the
index of its ESQ where that has no entry. -/
structure Ledgered (d : Dev) (kind suspect esq reporter blocks n : Nat) (e : Dev) : Prop where
  merged : ∀ i, d.led.entries.findIdx? (MergesInto d kind suspect) = some i → e.led.entries = d.led.entries.modify i (fun x =>
    { x with count := min (x.count + n) (2 ^ 32 - 1), lastEsq := esq, blocks := x.blocks ||| blocks })
  opened : (∀ x ∈ d.led.entries, MergesInto d kind suspect x = false) → d.led.entries.length < 1024 →
    e.led.entries = d.led.entries ++ [{
      kind := kind, suspect := suspect, count := n, firstEsq := esq, lastEsq := esq, stamp := (d.stamp esq).time % 2 ^ 48
      epoch := (d.stamp esq).epoch, reporter := reporter, blocks := blocks, runCtx := d.fget RCE_RUN_CTX_RUN_CTX
      segment := d.fget RCE_STATUS_SEGMENTS, tick := d.tick }] ∧ e.flag FAB_LEDGER_STATUS_NEW = true
  lost : (∀ x ∈ d.led.entries, MergesInto d kind suspect x = false) → 1024 ≤ d.led.entries.length →
    e.led.entries = d.led.entries ∧ Counts d e FAB_LEDGER_STATUS_LEDGER_LOST 1
  index : 1 ≤ kind → kind ≤ 11 → pget d.led.index esq = none → d.led.entries.length < 1024 → pget e.led.index esq =
    some ((d.led.entries.findIdx? (MergesInto d kind suspect)).getD d.led.entries.length)
  keeps : ∀ q, kind = 0 ∨ 11 < kind ∨ q ≠ esq ∨ pget d.led.index esq ≠ none → pget e.led.index q = pget d.led.index q

/-- R444, R477: a sink is full: configured, and holding more tokens than its DEPTH, those spilled among them. -/
def SinkFull (d : Dev) (b net i : Nat) : Prop :=
  d.powered b = true ∧ d.flag (BLK_SW_VALID b net i) = true ∧ d.fget (BLK_SW_DEPTH b net i) < (d.tokens (qnum b net i)).length

/-- R448: a spill has failed: reported and counted, and a break asked for. -/
structure SpillFailed (d : Dev) (q : Nat) (e : Dev) : Prop where
  counted : Counts d e FAB_DL_STAT_EXHAUSTED 1
  breaks : d.runState = stRunning → d.rce.dead = false → e.runState = stBreak ∧ e.rce.fwHold = true
  queues : ∀ r, e.queue r = d.queue r ∧ e.spill r = d.spill r

/-- R479 to R483: a snapshot is latched as of this tick: its selector, source, header and sections. -/
structure Latches (d : Dev) (sel source entry : Nat) (tasks : List (Nat × Nat)) (l : Latched) : Prop where
  names : l.selector = sel ∧ l.source = source ∧ l.entry = entry ∧ l.tick = d.tick ∧ l.tasks = tasks
  head : l.head = leBytes 8 d.tick ++ leBytes 8 (if d.flag TU_STATUS_TIME_VALID then d.ns else 0) ++ leBytes 2 d.epoch ++ [source, entry] ++
    leBytes 4 (d.fget RCE_RUN_CTX_RUN_CTX) ++ leBytes 8 (d.rget RIND_FRAME_NUMBER).toNat ++ [d.runState] ++ List.replicate 15 0
  sections : ∀ k < 5, pget l.sections k = if sel.testBit k then
    some ([k, 0, 0, 0] ++ leBytes 4 ((d.section k).length + 8) ++ d.section k) else none

/-! ## Power -/

/-- R503: a request that conflicts with how the device is used; an optical group has no LOW. -/
def Conflicts (d : Dev) (k r : Nat) : Prop :=
  (k < 16 ∧ d.claimed k = true ∧ (r = 0 ∨ (r = 1 ∧ d.runLive = true))) ∨
  (16 ≤ k ∧ k < 20 ∧ r ≤ 1 ∧ d.runLive = true) ∨
  (20 ≤ k ∧ k < 28 ∧ (r = 1 ∨ (r = 0 ∧ d.runState = stRunning ∧ ∃ p, p / 8 = k - 20 ∧ d.pstate p = psActive))) ∨
  (k = 28 ∧ (r = 0 ∨ (r = 1 ∧ ¬ (d.runState = stIdle ∧ d.rce.graphs = [])))) ∨
  (k = 29 ∧ r ≤ 1)

/-- R502, R503: the state a domain takes under a request: a memory that the run needs is ON; AUTO gives ON to what the run, a port in
training or the host needs. -/
def Wanted (d : Dev) (k r st : Nat) : Prop :=
  let needed := (d.runLive = true ∨ d.arming = true) ∧ ((k < 16 ∧ d.claimed k = true) ∨ (16 ≤ k ∧ k < 20))
  (needed → st = 2) ∧
  (¬ needed → r ≠ 3 → st = r) ∧
  (¬ needed → r = 3 →
    (k < 16 → st = 1) ∧ (16 ≤ k → k < 20 → st = 1) ∧
    (20 ≤ k → k < 28 → ((∃ p, p / 8 = k - 20 ∧ d.flag (PL_CFG_TRAIN_EN p) = true) → st = 2) ∧
      ((∀ p, p / 8 = k - 20 → d.flag (PL_CFG_TRAIN_EN p) = false) → st = 0)) ∧
    (28 ≤ k → st = 2))

/-- R498 to R504: domain k has taken a state. -/
structure DomainTakes (d : Dev) (k st : Nat) (e : Dev) : Prop where
  state : e.dom k = st
  others : ∀ j < 30, j ≠ k → e.dom j = d.dom j
  same : d.dom k = st → RegsBut [PWR_DOMAIN_CTRL k] d e ∧ Apart e d
  fabric : k < 16 → d.dom k ≠ st →
    (st = 0 → e.volt k = 0 ∧ e.fget (FAB_TURN_MON_TURN_RATE k) = 0 ∧ (∀ b ∈ domainBlocks k, ∀ a, blkMem b ≤ a → a < blkMem b + 0x200000 → memGet e.mem a = 0) ∧
      (∀ u ∈ domainUnits k, u ∈ e.pwr.needMarch) ∧ (e.fget FAB_STATUS_DOMAIN_UP).testBit k = false) ∧
    (st = 1 → e.volt k = 550 ∧ e.mem = d.mem ∧ ∀ b ∈ domainBlocks k, e.flag (BLK_MU_STATUS_RETAINED b) = true) ∧
    (st = 2 → e.mem = d.mem ∧ (d.avcMode ≠ 1 → e.volt k = d.vbound k (d.fget PWR_AVC_CFG_START_MV)) ∧
      (d.avcMode = 1 → d.flag PWR_STATUS_WARN = false → e.volt k = d.vbound k (d.fget (PWR_DOMAIN_CTRL_FIXED_MV k))) ∧
      ∀ b ∈ domainBlocks k, e.flag (BLK_MU_STATUS_RETAINED b) = d.flag (BLK_MU_STATUS_RETAINED b))
  die : 16 ≤ k → k < 20 → d.dom k ≠ st → (e.fget VAT_STATUS_DIE_AWAKE).testBit (k - 16) = false ∧
    (st = 0 → (e.fget VAT_STATUS_DIE_RETAINED).testBit (k - 16) = false ∧ e.volt k = 0) ∧
    (st = 1 → (e.fget VAT_STATUS_DIE_RETAINED).testBit (k - 16) = true ∧ e.mem = d.mem) ∧
    (st = 2 → (e.fget VAT_STATUS_DIE_RETAINED).testBit (k - 16) = (d.fget VAT_STATUS_DIE_RETAINED).testBit (k - 16) ∧ e.mem = d.mem)
  optical : 20 ≤ k → k < 28 → d.dom k ≠ st →
    (st = 0 → (∀ p, p / 8 = k - 20 → e.pstate p = psOff) ∧ (∀ p < 64, p / 8 ≠ k - 20 → e.port p = d.port p ∧ e.pstate p = d.pstate p)) ∧
    (st = 2 → e.ports = d.ports ∧ pget e.pwr.groupsOn (k - 20) = some d.tick)
  lpddr : k = 28 → d.dom k ≠ st → st ≠ 0 → e.flag LPX_STATUS_SELF_REFRESH = decide (st = 1) ∧ e.mem = d.mem

/-- R501, R511: every domain of a list is OFF, but a failed one. -/
def TurnedOff (d : Dev) (ks : List Nat) (e : Dev) : Prop := ∀ k ∈ ks, e.dom k = if d.dom k = 3 then 3 else 0

/-- R507: a sensor counts: its domain is not OFF; sensor 30 always does. -/
def Counting (d : Dev) (k : Nat) : Prop := (k < 30 ∧ d.dom k ≠ 0) ∨ k = 30

/-- R507: the hottest of the sensors that count, the lowest-numbered among equals, for their readings. -/
structure Hottest (d : Dev) (t : Nat → Int) (k : Nat) : Prop where
  counts : Counting d k
  most : ∀ j, Counting d j → t j ≤ t k ∧ (t j = t k → k ≤ j)

/-! ## Start-up -/

/-- R542: steps 1 to n of start-up have ended at the times given. -/
def StepsEnded (d : Dev) (x : BootInput) (n : Nat) (e : Dev) : Prop :=
  e.fget SEC_BOOT_BOOT_STEP = n + 1 ∧ e.boot.start = d.tick ∧
  ∀ k, 1 ≤ k → k ≤ n → e.fget (SEC_STEP_END_END_US k) = x.ends.getD (k - 1) 0 ∧ d.tick + 800 * x.ends.getD (k - 1) 0 ≤ e.tick

/-! ## Whole-machine rules -/

/-- R538: an instruction of the TAP that acts only while RESET_N is low is in force only then. -/
def TapLawful (s : State) : Prop := s.jtag.tap ∈ [TapInstr.extest, .clamp, .highz, .acExtest] → s.jtag.resetLow = true

end Sys2Proof.Machine
end

