-- ==== Sys2Proof/Certificates/Slice0/Obligations.lean ====
section
/-!
DEFINITION. The statements for the provers, by chapter of the spec.
-/

open Sys2Proof Sys2Proof.Machine

/-! ## Lattice tiles (chapter 3) -/

/-- R109, R110: the sixteen operations on two registers, as arithmetic on numbers below 2^32: each completes with its
result in rd, the program counter on the next word, and nothing else changed but the tile's counts. -/
def Obligations.TileArithmeticWritesItsResult : Prop :=
  ∀ (s : State) (x : Issue) (rd ra rb : Nat),
    let a := greg s.dev x ra
    let b := greg s.dev x rb
    (Runs s.dev x (.add x rd ra rb) → TileWrites (.add x rd ra rb) s x rd ((a + b) % 2 ^ 32)) ∧
    (Runs s.dev x (.sub x rd ra rb) → TileWrites (.sub x rd ra rb) s x rd ((a + 2 ^ 32 - b) % 2 ^ 32)) ∧
    (Runs s.dev x (.and_ x rd ra rb) → TileWrites (.and_ x rd ra rb) s x rd (a &&& b)) ∧
    (Runs s.dev x (.or_ x rd ra rb) → TileWrites (.or_ x rd ra rb) s x rd (a ||| b)) ∧
    (Runs s.dev x (.xor_ x rd ra rb) → TileWrites (.xor_ x rd ra rb) s x rd (a ^^^ b)) ∧
    (Runs s.dev x (.shl x rd ra rb) → TileWrites (.shl x rd ra rb) s x rd (a * 2 ^ (b % 32) % 2 ^ 32)) ∧
    (Runs s.dev x (.shr x rd ra rb) → TileWrites (.shr x rd ra rb) s x rd (a / 2 ^ (b % 32))) ∧
    (Runs s.dev x (.sra x rd ra rb) → TileWrites (.sra x rd ra rb) s x rd (wrapTo 32 (sx 32 a / 2 ^ (b % 32)))) ∧
    (Runs s.dev x (.adds x rd ra rb) →
      TileWrites (.adds x rd ra rb) s x rd (wrapTo 32 (max (-(2 ^ 31)) (min (2 ^ 31 - 1) (sx 32 a + sx 32 b))))) ∧
    (Runs s.dev x (.subs x rd ra rb) →
      TileWrites (.subs x rd ra rb) s x rd (wrapTo 32 (max (-(2 ^ 31)) (min (2 ^ 31 - 1) (sx 32 a - sx 32 b))))) ∧
    (Runs s.dev x (.min_ x rd ra rb) → TileWrites (.min_ x rd ra rb) s x rd (wrapTo 32 (min (sx 32 a) (sx 32 b)))) ∧
    (Runs s.dev x (.max_ x rd ra rb) → TileWrites (.max_ x rd ra rb) s x rd (wrapTo 32 (max (sx 32 a) (sx 32 b)))) ∧
    (Runs s.dev x (.minu x rd ra rb) → TileWrites (.minu x rd ra rb) s x rd (min a b)) ∧
    (Runs s.dev x (.maxu x rd ra rb) → TileWrites (.maxu x rd ra rb) s x rd (max a b)) ∧
    (Runs s.dev x (.mul x rd ra rb) → TileWrites (.mul x rd ra rb) s x rd (wrapTo 32 (sx 16 a * sx 16 b))) ∧
    (Runs s.dev x (.mulu x rd ra rb) → TileWrites (.mulu x rd ra rb) s x rd (a % 2 ^ 16 * (b % 2 ^ 16)))

/-- R109: the operations on one register and an immediate, a bit field or the register alone. Immediates are 14-bit
numbers, sign-extended for ADDI and zero-extended for ANDI, ORI and XORI. RGET and RPUT take bits [3:0] of ra, LUT, LUTS
and LUTW bits [7:0]; LUTS sign-extends the 16-bit entry, LUTW stores the low 16 bits of rb and leaves every other entry. -/
def Obligations.TileImmediateFieldAndIndirectResults : Prop :=
  (∀ (s : State) (x : Issue) (rd ra m pos len : Nat),
     let a := greg s.dev x ra
     (Runs s.dev x (.addi x rd ra m) → TileWrites (.addi x rd ra m) s x rd (wrapTo 32 (a + sx 14 m))) ∧
     (Runs s.dev x (.andi x rd ra m) → TileWrites (.andi x rd ra m) s x rd (a &&& m)) ∧
     (Runs s.dev x (.ori x rd ra m) → TileWrites (.ori x rd ra m) s x rd (a ||| m)) ∧
     (Runs s.dev x (.xori x rd ra m) → TileWrites (.xori x rd ra m) s x rd (a ^^^ m)) ∧
     (Runs s.dev x (.shli x rd ra m) → TileWrites (.shli x rd ra m) s x rd (a * 2 ^ m % 2 ^ 32)) ∧
     (Runs s.dev x (.shri x rd ra m) → TileWrites (.shri x rd ra m) s x rd (a / 2 ^ m)) ∧
     (Runs s.dev x (.srai x rd ra m) → TileWrites (.srai x rd ra m) s x rd (wrapTo 32 (sx 32 a / 2 ^ m))) ∧
     (Runs s.dev x (.movi x rd m) → TileWrites (.movi x rd m) s x rd (wrapTo 32 (sx 18 m))) ∧
     (Runs s.dev x (.movhi x rd m) → TileWrites (.movhi x rd m) s x rd (greg s.dev x rd % 2 ^ 16 + m * 2 ^ 16)) ∧
     (Runs s.dev x (.extu x rd ra pos len) → TileWrites (.extu x rd ra pos len) s x rd (a / 2 ^ pos % 2 ^ len)) ∧
     (Runs s.dev x (.exts x rd ra pos len) → TileWrites (.exts x rd ra pos len) s x rd (wrapTo 32 (sx len (a / 2 ^ pos)))) ∧
     (Runs s.dev x (.ins x rd ra pos len) →
       ∃ v, TileWrites (.ins x rd ra pos len) s x rd v ∧ v < 2 ^ 32 ∧ ∀ k < 32, v.testBit k =
         if pos ≤ k ∧ k < pos + len then a.testBit (k - pos) else (greg s.dev x rd).testBit k) ∧
     (Runs s.dev x (.popc x rd ra) → TileWrites (.popc x rd ra) s x rd ((List.range 32).filter a.testBit).length) ∧
     (Runs s.dev x (.clz x rd ra) →
       ∃ n, TileWrites (.clz x rd ra) s x rd n ∧ n ≤ 32 ∧ a < 2 ^ (32 - n) ∧ (n < 32 → 2 ^ (31 - n) ≤ a)) ∧
     (∀ rb ps, Runs s.dev x (.sel x rd ra rb ps) →
       TileWrites (.sel x rd ra rb ps) s x rd (if s.dev.p (tc x) ps then a else greg s.dev x rb))) ∧
  (∀ (s : State) (x : Issue) (rd ra rb : Nat),
     let a := greg s.dev x ra
     let lut (d : Dev) (j : Nat) := d.fget (lutFld (tc x) j)
     (Runs s.dev x (.rget x rd ra) → TileWrites (.rget x rd ra) s x rd (greg s.dev x (a % 16))) ∧
     (Runs s.dev x (.rput x ra rb) → TileWrites (.rput x ra rb) s x (a % 16) (greg s.dev x rb)) ∧
     (Runs s.dev x (.lut x rd ra) → TileWrites (.lut x rd ra) s x rd (lut s.dev (a % 256))) ∧
     (Runs s.dev x (.luts x rd ra) → TileWrites (.luts x rd ra) s x rd (wrapTo 32 (sx 16 (lut s.dev (a % 256))))) ∧
     (Runs s.dev x (.lutw x ra rb) → Does (.lutw x ra rb) s (fun e =>
       (∀ j < 256, lut e j = if j = a % 256 then greg s.dev x rb % 2 ^ 16 else lut s.dev j) ∧
       TileWent s.dev x (tileState s.dev x) [BLK_TILE_LUT x.block x.tile (a % 256 / 4)] e)))

/-- R109 to R112: compares, predicate logic and counters. CMPI sign-extends its immediate for EQ, NE, LT and GE and
zero-extends it for LTU and GEU; PLOG takes bit 2 p[pa] + p[pb] of fn; CSTEP at 0 or 1 reloads the counter and sets its
predicate, and otherwise counts down and clears it. -/
def Obligations.TilePredicatesAndCounters : Prop :=
  ∀ (s : State) (x : Issue) (rd ra rb pd pa pb ck m : Nat) (cc : Cond),
    let a := greg s.dev x ra
    let b := greg s.dev x rb
    let c := s.dev.fget (cntFld (tc x) ck)
    (Runs s.dev x (.cmpCc x cc pd ra rb) → TilePredicates (.cmpCc x cc pd ra rb) s x pd (match cc with
      | .eq => decide (a = b)
      | .ne => decide (a ≠ b)
      | .lt => decide (sx 32 a < sx 32 b)
      | .ge => decide (sx 32 b ≤ sx 32 a)
      | .ltu => decide (a < b)
      | .geu => decide (b ≤ a)) [] (fun _ => True)) ∧
    (Runs s.dev x (.cmpiCc x cc pd ra m) → TilePredicates (.cmpiCc x cc pd ra m) s x pd (match cc with
      | .eq => decide (sx 32 a = sx 14 m)
      | .ne => decide (sx 32 a ≠ sx 14 m)
      | .lt => decide (sx 32 a < sx 14 m)
      | .ge => decide (sx 14 m ≤ sx 32 a)
      | .ltu => decide (a < m)
      | .geu => decide (m ≤ a)) [] (fun _ => True)) ∧
    (Runs s.dev x (.plog x pd pa pb m) → TilePredicates (.plog x pd pa pb m) s x pd
      (m.testBit (2 * b2n (s.dev.p (tc x) pa) + b2n (s.dev.p (tc x) pb))) [] (fun _ => True)) ∧
    (Runs s.dev x (.pget_ x rd) → TileWrites (.pget_ x rd) s x rd (s.dev.fget (BLK_TILE_STATE_PRED x.block x.tile))) ∧
    (Runs s.dev x (.pput_ x ra) → Does (.pput_ x ra) s (fun e => e.fget (BLK_TILE_STATE_PRED x.block x.tile) = a % 16 ∧
      TileWent s.dev x (withField (tileState s.dev x) (BLK_TILE_STATE_PRED x.block x.tile) (a % 16)) [] e)) ∧
    (Runs s.dev x (.cldi x ck m) → Does (.cldi x ck m) s (fun e => CounterSet s.dev x ck m e ∧
      TileWent s.dev x (tileState s.dev x) [BLK_TILE_COUNTERS x.block x.tile] e)) ∧
    (Runs s.dev x (.cld x ck ra) → Does (.cld x ck ra) s (fun e => CounterSet s.dev x ck (a % 2 ^ 16) e ∧
      TileWent s.dev x (tileState s.dev x) [BLK_TILE_COUNTERS x.block x.tile] e)) ∧
    (Runs s.dev x (.cget x rd ck) → TileWrites (.cget x rd ck) s x rd c) ∧
    (Runs s.dev x (.cstep x ck pd) → TilePredicates (.cstep x ck pd) s x pd (decide (c ≤ 1)) [BLK_TILE_COUNTERS x.block x.tile]
      (CounterSet s.dev x ck (if c ≤ 1 then s.dev.fget (reloadFld (tc x) ck) else c - 1)))

/-- R105, R107, R111: NOP goes on; BR goes to its target; LOOP at 0 goes on, and otherwise counts down and goes to its
target; END consumes the trigger tokens not received and completes the firing. -/
def Obligations.TileControlTransfers : Prop :=
  ∀ (s : State) (x : Issue) (ck target l : Nat),
    let c := s.dev.fget (cntFld (tc x) ck)
    (Runs s.dev x (.nop x) → Does (.nop x) s (TileWent s.dev x (tileState s.dev x) [])) ∧
    (Runs s.dev x (.br x target) →
      Does (.br x target) s (TileGoesTo s.dev x target (tileState s.dev x) (tileGot s.dev x) s.dev.fab [])) ∧
    (Runs s.dev x (.loop x ck target) → c = 0 →
      Does (.loop x ck target) s (TileWent s.dev x (tileState s.dev x) [])) ∧
    (Runs s.dev x (.loop x ck target) → c ≠ 0 → Does (.loop x ck target) s (fun e => CounterSet s.dev x ck (c - 1) e ∧
      TileGoesTo s.dev x target (tileState s.dev x) (tileGot s.dev x) s.dev.fab [BLK_TILE_COUNTERS x.block x.tile] e)) ∧
    (Runs s.dev x (.end_ x) → s.dev.logTile x.block x.tile = some l →
      (∀ k < 5, unreceived s.dev x k = true → s.dev.queue (tileQ x.block l k) ≠ []) →
      Does (.end_ x) s (TileEnds s.dev x l s.dev.fab.lane))

/-- R104: a firing that would go past its limit of instructions ends as END does, and the tile reports FIRE_OVERRUN and
counts it; so does one whose instruction at the last word does not transfer: it has its effect, then the firing ends. -/
def Obligations.TileFiringEndsAtItsLimitOrLastWord : Prop :=
  (∀ (s : State) (x : Issue) (i : Instr) (w l : Nat),
     i.wf = true → i.issue = some x → tileWord i = some w → s.dev.logTile x.block x.tile = some l →
     s.dev.powered x.block = true → s.dev.flag (BLK_TILE_STATE_FIRING x.block x.tile) = true →
     s.dev.flag (BLK_TILE_STATE_FAILED x.block x.tile) = false → s.dev.imem (tc x) (tilePc s.dev x) = w → x.fetchBad < 4 →
     (∀ k < 5, unreceived s.dev x k = true → s.dev.queue (tileQ x.block l k) ≠ []) →
     s.dev.fget (BLK_TILE_FIRE_MAX_INSTR x.block x.tile (s.dev.firing (tc x)).desc) ≤ (s.dev.firing (tc x)).issued →
     Does i s (fun e => TileEnds s.dev x l (overrunLane s.dev x) e ∧
       e.fget (BLK_TILE_ERR_OVERRUN x.block x.tile) = min (s.dev.fget (BLK_TILE_ERR_OVERRUN x.block x.tile) + 1) (2 ^ 16 - 1))) ∧
  (∀ (s : State) (x : Issue) (i : Instr) (w : Nat),
     i.wf = true → i.issue = some x → tileWord i = some w → Issues s.dev x w → TileClean s.dev x → tilePc s.dev x = 127 →
     (guardOk s.dev (tc x) x.guard = false ∨ (i.movesOn = true)) →
     Does i s (fun e => e.flag (BLK_TILE_STATE_FIRING x.block x.tile) = false ∧ e.fab.lane = overrunLane s.dev x ∧
       e.fget (BLK_TILE_FIRINGS_FIRINGS x.block x.tile) = min (s.dev.fget (BLK_TILE_FIRINGS_FIRINGS x.block x.tile) + 1) (2 ^ 48 - 1) ∧
       e.fget (BLK_TILE_ERR_OVERRUN x.block x.tile) = min (s.dev.fget (BLK_TILE_ERR_OVERRUN x.block x.tile) + 1) (2 ^ 16 - 1)))

/-- R107: where its guard does not pass, every tile instruction only goes on to the next word. -/
def Obligations.TileGuardThatFailsOnlyGoesOn : Prop :=
  ∀ (s : State) (x : Issue) (i : Instr) (w : Nat),
    i.wf = true → i.issue = some x → tileWord i = some w → Issues s.dev x w → TileClean s.dev x →
    guardOk s.dev (tc x) x.guard = false →
    Does i s (TileWent s.dev x (tileState s.dev x) [])

/-- R116, R117: an instruction word that fails its read and three re-reads stops the tile: FAILED is set, the firing is over, and
a TILE_HARD notice names the tile under the firing's ESQ; the instruction has no effect. A register read with wrong parity
reads zero, sends a PARITY notice and counts; the third such read since it was written is a hard fault, and a write mends it.
Said of ADDI, whose one operand register is the wrong one. -/
def Obligations.TileWordsAndRegistersWithBadParity : Prop :=
  (∀ (s : State) (x : Issue) (i : Instr) (w : Nat),
     i.wf = true → i.issue = some x → tileWord i = some w → (s.dev.logTile x.block x.tile).isSome = true →
     s.dev.powered x.block = true → s.dev.flag (BLK_TILE_STATE_FIRING x.block x.tile) = true →
     s.dev.flag (BLK_TILE_STATE_FAILED x.block x.tile) = false → s.dev.imem (tc x) (tilePc s.dev x) = w → x.fetchBad = 4 →
     s.dev.rce.dead = false →
     Does i s (fun e => e.flag (BLK_TILE_STATE_FAILED x.block x.tile) = true ∧
       e.flag (BLK_TILE_STATE_FIRING x.block x.tile) = false ∧ tileId x.block x.tile ∈ e.fab.failed ∧
       e.fab.lane = laneAdd ⟨s.dev.fireEsq (tc x), 6, tileId x.block x.tile, tileId x.block x.tile,
         blockBit (tileId x.block x.tile), 1⟩ s.dev.fab.lane ∧
       e.fget (BLK_TILE_ERR_IMEM_REREAD x.block x.tile) = min (s.dev.fget (BLK_TILE_ERR_IMEM_REREAD x.block x.tile) + 3) (2 ^ 16 - 1) ∧
       (∀ r < 16, e.fget (BLK_TILE_GREG_VALUE x.block x.tile r) = s.dev.fget (BLK_TILE_GREG_VALUE x.block x.tile r)) ∧
       (∀ q, e.queue q = s.dev.queue q) ∧ (s.dev.runState = stRunning → e.runState = stBreak))) ∧
  (∀ (s : State) (x : Issue) (rd ra m w n : Nat), (Instr.addi x rd ra m).wf = true → tileWord (.addi x rd ra m) = some w →
     Issues s.dev x w → guardOk s.dev (tc x) x.guard = true → x.upsets = [] →
     s.dev.badLocs (tileId x.block x.tile) = [(ra, n)] → s.dev.rce.dead = false →
     Does (.addi x rd ra m) s (fun e => e.fget (BLK_TILE_GREG_VALUE x.block x.tile rd) = wrapTo 32 (sx 14 m) ∧
       e.fget (BLK_TILE_ERR_REG_PARITY x.block x.tile) = min (s.dev.fget (BLK_TILE_ERR_REG_PARITY x.block x.tile) + 1) (2 ^ 16 - 1) ∧
       e.badLocs (tileId x.block x.tile) = (if rd = ra then [] else [(ra, n + 1)]) ∧
       (n < 2 → tilePc s.dev x ≠ 127 →
         e.fab.lane = laneAdd ⟨s.dev.fireEsq (tc x), 4, tileId x.block x.tile, tileId x.block x.tile, blockBit (tileId x.block x.tile), 1⟩ s.dev.fab.lane ∧
         tilePc e x = tilePc s.dev x + 1 ∧ e.flag (BLK_TILE_STATE_FIRING x.block x.tile) = true) ∧
       (2 ≤ n → e.flag (BLK_TILE_STATE_FAILED x.block x.tile) = true ∧ e.flag (BLK_TILE_STATE_FIRING x.block x.tile) = false ∧
         tileId x.block x.tile ∈ e.fab.failed)))

/-- R113: RECV waits for a head token without turns; a token that is not FLUSH it takes, and on FLUSH, which stays, it
ends the firing at once. -/
def Obligations.TileRecvWaitsTakesOrAborts : Prop :=
  ∀ (s : State) (x : Issue) (rd port pd l : Nat) (pe : Bool),
    Runs s.dev x (.recv x rd port pe pd) → s.dev.logTile x.block x.tile = some l →
    (s.dev.headOf (tileQ x.block l port) = none → exec (.recv x rd port pe pd) s = .next s) ∧
    (∀ t, s.dev.headOf (tileQ x.block l port) = some t → t.kind ≠ .flush →
      Does (.recv x rd port pe pd) s (TileReceives s.dev x l rd port pe pd t)) ∧
    (∀ t, s.dev.headOf (tileQ x.block l port) = some t → t.kind = .flush →
      Does (.recv x rd port pe pd) s (fun e => e.flag (BLK_TILE_STATE_FIRING x.block x.tile) = false ∧
        e.flag (BLK_TILE_STATE_FLUSHING x.block x.tile) = true ∧ (∀ k, e.p (tc x) k = s.dev.p (tc x) k) ∧
        e.fget (BLK_TILE_FLUSH_CNT_FLUSH_ABORT x.block x.tile) = min (s.dev.fget (BLK_TILE_FLUSH_CNT_FLUSH_ABORT x.block x.tile) + 1) (2 ^ 16 - 1) ∧
        RegsBut [BLK_TILE_STATE x.block x.tile, BLK_TILE_FLUSH_CNT x.block x.tile, BLK_UNIT_BUSY x.block x.tile, BLK_TILE_ERR x.block x.tile] s.dev e ∧
        Apart e { s.dev with fab := { s.dev.fab with firings := e.fab.firings } }))

/-- R114: SEND, SEND.M and SENDC wait without turns while their output stage holds a token, and else put a DATA, MARK or
COND token there under the firing's ESQ, 16 bits wide at the control port; no other stage changes. -/
def Obligations.TileSendsWhenItsStageIsEmpty : Prop :=
  ∀ (s : State) (x : Issue) (port ra ps l : Nat), s.dev.logTile x.block x.tile = some l →
    let sends (i : Instr) (port : Nat) (kind : TokKind) (v : Nat) : Prop :=
      let o := qnum x.block (tileOut l port).1 (tileOut l port).2
      (s.dev.stageOf o ≠ none → exec i s = .next s) ∧
      (s.dev.stageOf o = none → Does i s (fun e => e.stageOf o = some ⟨s.dev.fireEsq (tc x), kind, BitVec.ofNat 512 v⟩ ∧
        (∀ q, q ≠ o → e.stageOf q = s.dev.stageOf q) ∧ (tilePc s.dev x ≠ 127 →
          TileGoesTo s.dev x (tilePc s.dev x + 1) (tileState s.dev x) (tileGot s.dev x) { s.dev.fab with stages := e.fab.stages } [] e)))
    let a := greg s.dev x ra % 2 ^ (if port = 4 then 16 else 32)
    (Runs s.dev x (.send x port ra) → sends (.send x port ra) port .data a) ∧
    (Runs s.dev x (.sendM x port ra) → sends (.sendM x port ra) port .mark a) ∧
    (Runs s.dev x (.sendc x ps) → sends (.sendc x ps) 4 .cond (b2n (s.dev.p (tc x) ps)))

/-- R101 to R103: a tile at rest whose current descriptor finds a token at every port it names starts a firing: the firing's
ESQ is that of the lowest port, the program counter is the descriptor's, and no token is taken; ESQs that differ count in
TAG_MISMATCH. While a port it names is empty, or another descriptor has the turn, nothing happens. -/
def Obligations.TileFiringStartsWhenItsHeadsArePresent : Prop :=
  ∀ (s : State) (b t f l : Nat) (gap : Option Nat),
    let d := s.dev
    let c : Tc := ⟨b, t⟩
    b < 256 → t < 17 → f < 4 → d.logTile b t = some l → d.powered b = true → d.flag (BLK_TILE_CFG_LOADED b t) = true →
    d.flag (BLK_TILE_STATE_FAILED b t) = false → d.flag (BLK_TILE_STATE_FIRING b t) = false →
    d.flag (BLK_TILE_STATE_FLUSHING b t) = false → (∀ k ∈ d.tileInputs c, ∀ x, d.headOf (tileQ b l k) = some x → x.kind ≠ .flush) →
    (d.fget (BLK_TILE_CFG_DESC_VALID b t)).testBit f = true →
    let turn (g : Nat) : Prop := d.flag (BLK_TILE_CFG_READY_ORDER b t) = false ∧ d.fget (BLK_TILE_STATE_NEXT_DESC b t) = g ∨
      d.flag (BLK_TILE_CFG_READY_ORDER b t) = true ∧ gap = none ∧ (d.readyNow c l).head? = some g
    ((∃ k < 5, (d.descMask c f).testBit k = true ∧ d.headOf (tileQ b l k) = none) →
      exec (.tileFiringStart b t f gap) s = .next s) ∧
    (∀ g, turn g → g ≠ f → exec (.tileFiringStart b t f gap) s = .next s) ∧
    (turn f → (∀ k < 5, (d.descMask c f).testBit k = true → d.headOf (tileQ b l k) ≠ none) →
      Does (.tileFiringStart b t f gap) s (fun e =>
        e.flag (BLK_TILE_STATE_FIRING b t) = true ∧ e.fget (BLK_TILE_STATE_PC b t) = d.fget (BLK_TILE_FIRE_START b t f) ∧
        (∀ k < 5, ∀ x, (d.descMask c f).testBit k = true → (∀ j < k, (d.descMask c f).testBit j = false) →
          d.headOf (tileQ b l k) = some x → x.esq < 4096 → e.fireEsq c = x.esq) ∧
        e.firing c = ⟨Fin.ofNat 4 f, 0, 0⟩ ∧ (∀ k, e.p c k = d.p c k) ∧
        ((∃ q, ∀ k < 5, ∀ x, (d.descMask c f).testBit k = true → d.headOf (tileQ b l k) = some x → x.esq = q) →
          e.fab.lane = d.fab.lane ∧ e.fget (BLK_TILE_ERR_TAG_MISMATCH b t) = d.fget (BLK_TILE_ERR_TAG_MISMATCH b t)) ∧
        ((∃ k < 5, ∃ j < 5, ∃ x y, (d.descMask c f).testBit k = true ∧ (d.descMask c f).testBit j = true ∧
          d.headOf (tileQ b l k) = some x ∧ d.headOf (tileQ b l j) = some y ∧ x.esq ≠ y.esq) →
          Counts d e (BLK_TILE_ERR_TAG_MISMATCH b t) 1) ∧
        RegsBut [BLK_TILE_STATE b t, BLK_TILE_ERR b t, BLK_UNIT_BUSY b t] d e ∧
        Apart e { d with fab := { d.fab with firings := e.fab.firings, lane := e.fab.lane } }))

/-- R106: a tile at rest that has FLUSH at a used input: once every used input holds it and every used output stage is
empty, FLUSH goes on; before that, what stands ahead of the others is discarded and counted. -/
def Obligations.TileFlushPassesOn : Prop :=
  ∀ (s : State) (b t l : Nat),
    let d := s.dev
    let qs := (d.tileInputs ⟨b, t⟩).map (tileQ b l)
    let outs := (onesOf 5 (d.fget (BLK_TILE_CFG_OUT_USED b t))).map (fun k => qnum b (tileOut l k).1 (tileOut l k).2)
    b < 256 → t < 17 → d.logTile b t = some l → d.powered b = true → d.flag (BLK_TILE_STATE_FIRING b t) = false →
    (∀ q ∈ qs, NoGap d q) → (∃ q ∈ qs, ∃ x, d.headOf q = some x ∧ x.kind = .flush) →
    (FlushReady d qs outs → Does (.tileFlush b t) s (fun e => FlushSent d qs outs e ∧
      e.flag (BLK_TILE_STATE_FLUSHED b t) = true ∧ e.flag (BLK_TILE_STATE_FLUSHING b t) = false ∧
      RegsBut (BLK_TILE_STATE b t :: qs.map spillReg) d e ∧
      Apart e { d with fab := { d.fab with queues := e.fab.queues, spilled := e.fab.spilled, stages := e.fab.stages } })) ∧
    (d.flag (BLK_TILE_STATE_FAILED b t) = false → (∃ q ∈ qs, ∀ x ∈ d.tokens q, x.kind ≠ .flush) →
      Does (.tileFlush b t) s (fun e => FlushWaits d qs e ∧ Counts d e (BLK_TILE_FLUSH_CNT_FLUSH_DISCARD b t) (flushAhead d qs) ∧
        e.flag (BLK_TILE_STATE_FLUSHING b t) = true ∧
        RegsBut ([BLK_TILE_STATE b t, BLK_TILE_FLUSH_CNT b t] ++ qs.map spillReg) d e ∧
        Apart e { d with fab := { d.fab with queues := e.fab.queues, spilled := e.fab.spilled } }))

/-- R118 to R121, R158, R199: a steering unit in STEER sends data 0 to the output the condition bit XOR INVERT names; in MERGE
it sends data input c to output 0, taking both data tokens or the selected one; in JOIN it sends both; a mismatch of ESQs in
STEER and TAKE BOTH takes DEFAULT. FLUSH passes once every used input holds it, and what stands ahead of it is discarded. A
failed unit consumes the token at a used input, FLUSH excepted, and sends a notice of its hard kind for each ESQ it has not
reported; said of an input that is a sink. -/
def Obligations.SteeringUnitsRouteMergeJoinOrFail : Prop :=
  (∀ (s : State) (b u : Nat) (c t0 t1 : Token),
     let d := s.dev
     let cq := suCondQ b u
     let q0 := d.suQ b u 0
     let q1 := d.suQ b u 1
     let mode := d.fget (BLK_SU_CFG_MODE b u)
     let stage (j : Nat) := qnum b (d.suNet b u) (suOut (d.suNet b u) u j)
     let free (j : Nat) := d.suDrops b u j = true ∨ d.stageOf (stage j) = none
     b < 256 → u < 4 → d.powered b = true →
     (mode = 1 → Ready d cq c → Ready d q0 t0 → free (suRoute d b u c [t0]) →
       Does (.steer b u) s (SuMoved d b u [(cq, c), (q0, t0)] [(suRoute d b u c [t0], t0)] 0)) ∧
     (mode = 2 → d.flag (BLK_SU_CFG_TAKE b u) = false → Ready d cq c → Ready d q0 t0 → Ready d q1 t1 → free 0 →
       Does (.mergeBoth b u) s (SuMoved d b u [(cq, c), (q0, t0), (q1, t1)] [(0, if suRoute d b u c [t0, t1] = 0 then t0 else t1)] 1)) ∧
     (mode = 2 → d.flag (BLK_SU_CFG_TAKE b u) = true → d.suFlushing b u = false → Ready d cq c → Ready d (d.suQ b u (d.suChoice b u c)) t0 →
       free 0 → Does (.mergeSelected b u) s (SuMoved d b u [(cq, c), (d.suQ b u (d.suChoice b u c), t0)] [(0, t0)] 0)) ∧
     (mode = 3 → Ready d q0 t0 → Ready d q1 t1 → d.stageOf (stage 0) = none → d.stageOf (stage 1) = none →
       Does (.join b u) s (SuMoved d b u [(q0, t0), (q1, t1)] [(0, t0), (1, t1)] 0)) ∧
     (let qs := d.suInputs b u
      let outs := ((d.suOutputs b u).filter (fun j => !d.suDrops b u j)).map stage
      (∀ q ∈ qs, NoGap d q) → (∃ q ∈ qs, ∃ x, d.headOf q = some x ∧ x.kind = .flush) →
      (FlushReady d qs outs → Does (.suFlush b u) s (fun e => FlushSent d qs outs e ∧ RegsBut (qs.map spillReg) d e ∧
         Apart e { d with fab := { d.fab with queues := e.fab.queues, spilled := e.fab.spilled, stages := e.fab.stages } })) ∧
      ((∃ q ∈ qs, ∀ x ∈ d.tokens q, x.kind ≠ .flush) → Does (.suFlush b u) s (fun e => FlushWaits d qs e ∧
         Counts d e (BLK_SU_ERR_FLUSH_DISCARD b u) (flushAhead d qs) ∧ RegsBut (BLK_SU_ERR b u :: qs.map spillReg) d e ∧
         Apart e { d with fab := { d.fab with queues := e.fab.queues, spilled := e.fab.spilled } })))) ∧
  (∀ (s : State) (u k q : Nat) (t : Token),
     let d := s.dev
     u < 2 ^ 24 → u ∈ d.fab.failed → (d.unitIns u)[k]? = some (false, q) → d.headOf q = some t →
     (t.kind = .flush → exec (.failedUnitConsume u k) s = .next s) ∧
     (t.kind ≠ .flush → Does (.failedUnitConsume u k) s (fun e => HeadsTaken [q] d e ∧
       (t.esq ∈ pgetD d.fab.reported u [] → e.fab.lane = d.fab.lane ∧ e.fab.reported = d.fab.reported) ∧
       (t.esq ∉ pgetD d.fab.reported u [] → e.fab.lane = laneAdd ⟨t.esq, hardKind u, u, u, blockBit u, 1⟩ d.fab.lane ∧
         pgetD e.fab.reported u [] = pgetD d.fab.reported u [] ++ [t.esq]) ∧
       RegsBut [spillReg q] d e ∧
       Apart e { d with fab := { d.fab with queues := e.fab.queues, spilled := e.fab.spilled, lane := e.fab.lane, reported := e.fab.reported } })))

/-! ## Fabric (chapter 2) -/

/-- R25, R71, R72, R78, R82, R436, R437: a token offered with good parity enters the sink behind the tokens there and its
sender is acknowledged; at an egress point DATA enters the void guard with the tick, FLUSH is noted and sets FLUSHED with
the last of the egress points expected, and MARK goes nowhere. An offer with bad parity is refused up to three times, each
counted, and stays at its sender; after the third replay fails too the stage takes a zeroed token under the latest good
header, counts it and sends REPLAY_FAIL; the third within 2 µs marks the sink failed. -/
def Obligations.FabricStageAcceptsReplaysOrForwardsZero : Prop :=
  (∀ (s : State) (b net i : Nat) (o : Offer) (t : Token),
     let d := s.dev
     Offered d b net i o t → o.hdrBad = false → o.payBad = false → o.gap = none → (t.kind = .cond → net = 2) →
     (¬ (net = 1 ∧ i = 22) → Does (.tokenTransfer b net i o) s (fun e =>
       e.tokens (qnum b net i) = d.tokens (qnum b net i) ++ [t] ∧ SenderAcked d b net i t e ∧
       RegsBut ([spillReg (qnum b net i)] ++ (match meshFeed b net (d.fget (BLK_SW_SRC b net i)) with
         | some (n, k) => [spillReg (qnum n net k)]
         | none => [])) d e ∧ Apart e { d with fab := tokenFab d e })) ∧
     (net = 1 ∧ i = 22 → Does (.tokenTransfer b net i o) s (fun e =>
       (t.kind = .data → e.rind.guard = d.rind.guard ++ [⟨b / 16, t.esq, t.payload, d.tick⟩] ∧
         e.rget FAB_FLUSH_STATUS = d.rget FAB_FLUSH_STATUS ∧ e.rget FAB_STATUS = d.rget FAB_STATUS) ∧
       (t.kind = .flush → b < 256 → e.rind = d.rind ∧
         (∀ k < 16, (e.fget FAB_FLUSH_STATUS_EGRESS_FLUSHED).testBit k = (decide (k = b / 16) || (d.fget FAB_FLUSH_STATUS_EGRESS_FLUSHED).testBit k)) ∧
         ((∀ k < 16, (d.fget FAB_FLUSH_STATUS_EGRESS_EXPECTED).testBit k = true → (e.fget FAB_FLUSH_STATUS_EGRESS_FLUSHED).testBit k = true) →
           e.flag FAB_STATUS_FLUSHED = true)) ∧
       (t.kind = .mark → e.rind = d.rind ∧ e.rget FAB_FLUSH_STATUS = d.rget FAB_FLUSH_STATUS) ∧
       SenderAcked d b net i t e))) ∧
  (∀ (s : State) (b net i : Nat) (o : Offer) (t : Token),
     let d := s.dev
     let q := qnum b net i
     let r := (pget d.fab.replay q).getD {}
     let hdrBad := o.hdrBad = true ∨ (t.kind = .cond ∧ net ≠ 2)
     let header (h : Nat × TokKind) := (¬ hdrBad ∧ h = (t.esq, t.kind)) ∨
       (hdrBad ∧ h = r.header.getD (pgetD d.fab.lastEsq q 0, .data))
     Offered d b net i o t → o.gap = none → (hdrBad ∨ o.payBad = true) → ¬ (net = 1 ∧ i = 22) → d.rce.dead = false →
     (r.fails < 3 → Does (.tokenTransfer b net i o) s (fun e => Counts d e FAB_REPLAY_REPLAYS 1 ∧
       (pget e.fab.replay q).map Replay.fails = some (r.fails + 1) ∧ (∀ p, e.tokens p = d.tokens p) ∧ RegsBut [FAB_REPLAY] d e ∧
       Apart e { d with fab := { d.fab with replay := e.fab.replay } })) ∧
     (3 ≤ r.fails → ∀ h, header h → Does (.tokenTransfer b net i o) s (fun e => Counts d e FAB_REPLAY_ZERO_FORWARDS 1 ∧
       e.tokens q = d.tokens q ++ [⟨h.1, h.2, 0#512⟩] ∧ pget e.fab.replay q = none ∧
       (3 ≤ (d.zeroTicks q).length → sinkId b net i ∈ e.fab.failed) ∧
       ((d.zeroTicks q).length < 3 → e.fab.failed = d.fab.failed ∧
         e.fab.lane = laneAdd ⟨h.1, 1, sinkId b net i, sinkId b net i, blockBit (sinkId b net i), 1⟩ d.fab.lane))))

/-- R86, R88, R91, R459, R477: a grant between two requests less than 10 ps apart counts and reports a tie, one more than 40 ps
apart never; a window of the turn monitors shows each domain's rate, 0 where it is off or failed, and keeps the smallest, and
counts turns of waiting to what waits, unless counting is frozen; the two clears of the chapter. That a window in which the domain
is off counts for the smallest is the model's choice (log entry 135). -/
def Obligations.FabricTiesAndTurnMonitors : Prop :=
  ∀ (s : State),
    let d := s.dev
    (∀ b net i o t g, Offered d b net i o t → o.hdrBad = false → o.payBad = false → (t.kind = .cond → net = 2) →
      isMesh net i = true → 2 ≤ (d.requesting b net i).length → o.gap = some g →
      (g < 10 → Does (.tokenTransfer b net i o) s (fun e => Counts d e FAB_TIE_COUNT_COUNT 1 ∧ e.fab.ties = d.fab.ties ++ [t.esq] ∧
        e.tokens (qnum b net i) = d.tokens (qnum b net i) ++ [t])) ∧
      (40 < g → Does (.tokenTransfer b net i o) s (fun e => e.rget FAB_TIE_COUNT = d.rget FAB_TIE_COUNT ∧ e.fab.ties = d.fab.ties ∧
        e.tokens (qnum b net i) = d.tokens (qnum b net i) ++ [t]))) ∧
    (∀ rates, (Instr.turnMonWindow rates).wf = true → Does (.turnMonWindow rates) s (fun e =>
      (∀ k < 16, let r := if d.dom k = 1 ∨ d.dom k = 2 then min (rates.getD k 0) 65535 else 0
        e.fget (FAB_TURN_MON_TURN_RATE k) = r ∧
        e.fget (FAB_TURN_MON_TURN_RATE_MIN k) = min r (d.fget (FAB_TURN_MON_TURN_RATE_MIN k))) ∧
      (∀ k < 16, ∀ f ∈ d.waitCounters k, d.fget f ≤ e.fget f ∧ (d.frozen = true → e.fget f = d.fget f)) ∧
      RegsBut ((List.range 16).map FAB_TURN_MON ++ (List.range 16).flatMap (fun k => (d.waitCounters k).map Fld.off)) d e ∧ Apart e d)) ∧
    (d.ready = true → Does .turnMinClear s (fun e => (∀ k < 16, e.fget (FAB_TURN_MON_TURN_RATE_MIN k) = 65535 ∧
        e.fget (FAB_TURN_MON_TURN_RATE k) = d.fget (FAB_TURN_MON_TURN_RATE k)) ∧
      RegsBut ((List.range 16).map FAB_TURN_MON) d e ∧ Apart e d)) ∧
    (d.ready = true → Does .tieCountClear s (fun e => Cleared d e FAB_TIE_COUNT_COUNT ∧ RegsBut [FAB_TIE_COUNT] d e ∧ Apart e d))

/-! ## The stamp stage and the rind (chapter 1) -/

/-- R17 to R23, R30: the next boundary, at which every frame whose delay has expired by its tick is eligible, stamps the frame of the next number under its number modulo 4,096, with the
time, tick, epoch, mask and CRC of what the ports contribute; it is injected where inputs are open and every buffer has
room, and otherwise counts as closed out or as dead time. Said of a boundary at which no epoch opens, no schedule action is
due and no break may open. -/
def Obligations.BoundaryStampsAndPlacesTheNextFrame : Prop :=
  ∀ (s : State),
    let d := s.dev
    let n := d.fget RIND_FRAME_NUMBER_FRAME_NUMBER + 1
    let d1 := d.advTo (d.boundaryTick n)
    let r := Dev.takePorts d1.inputPorts d1.ripenDue
    d.flag RIND_STATUS_SEQ_RUNNING = true → d.rind.lost = false → d.tu.openings = [] → d.tu.acts = [] →
    d.runState = stRunning → n < 2 ^ 63 →
    Does .frameBoundary s (fun e =>
      e.fget RIND_FRAME_NUMBER_FRAME_NUMBER = n ∧ e.flag RIND_FRAME_NUMBER_VALID = true ∧ e.tick = d1.tick ∧ e.time = d1.time ∧
      e.rind.lastBoundary = d1.tick ∧ d.rind.lastBoundary + d.period - ceilDiv d.period 2000 ≤ e.tick ∧
      e.stamp (n % 4096) = {
        valid := true, frame := n, time := d1.ns, tick := d1.tick, epoch := d.epoch, present := presentMask r.1
        crc := inputCrc r.1, runCtx := d.fget RCE_RUN_CTX_RUN_CTX, injected := !r.2.inputsClosed && r.2.canInject } ∧
      (∀ q, q ≠ n % 4096 → e.stamp q = d.stamp q) ∧
      (r.2.inputsClosed = true → Counts d e RIND_DROP_COUNT_CLOSED_FRAMES 1 ∧ e.fab.ingress = d.fab.ingress) ∧
      (r.2.inputsClosed = false → r.2.canInject = false → Counts d e RIND_DROP_COUNT_DEAD_TIME 1 ∧ e.fab.ingress = d.fab.ingress) ∧
      (r.2.inputsClosed = false → r.2.canInject = true → ∀ p b pl, (p, b, pl) ∈ r.1 → (d.injection p).2 ≠ 0 →
        pgetD e.fab.ingress p [] = pgetD d.fab.ingress p [] ++ windowTokens (d.injection p).1 (d.injection p).2 (n % 4096) pl))

/-- R19, R20, R353, R207: an alignment delay that expires makes a frame eligible, and a third eligible frame of a port pushes
out the oldest; at a boundary an ACTIVE port contributes its eligible frame of the expected number, discards one from before it
and counts one from beyond it as a jump; a look-back delivery
brings the units of its window to the AGU. -/
def Obligations.FramesBecomeEligibleAndAreTaken : Prop :=
  ∀ (s : State),
    let d := s.dev
    (∀ p f r, p < 64 → pgetD d.rind.waiting p [] = f :: r → Does (.frameEligible p) s (fun e =>
      e.tick = max d.tick f.tick ∧ pgetD e.rind.waiting p [] = r ∧
      pgetD e.rind.align p [] = (if (pgetD d.rind.align p []).length < 2 then pgetD d.rind.align p [] ++ [f]
        else (pgetD d.rind.align p [] ++ [f]).tail) ∧
      Counts d e (RIND_PORT_STAT_EXCESS_COUNT p) (if (pgetD d.rind.align p []).length < 2 then 0 else 1) ∧
      RegsBut [RIND_PORT_STAT p] d e ∧ e.fab = d.fab ∧ e.mem = d.mem ∧ e.rind = { d.rind with waiting := e.rind.waiting, align := e.rind.align })) ∧
    (∀ p f, p < 64 → d.pstate p = psActive → d.flag (PL_STATUS_PAYLOAD_TOO_LONG p) = false → f.seq < 65536 →
      pgetD d.rind.align p [] = [f] →
      let ahead := seqDiff f.seq (d.fget (PL_SEQ_NEXT p))
      let e := (d.takePort p).2
      pgetD e.rind.align p [] = [] ∧
      (0 ≤ ahead → (d.flag (PL_SEQ_SEQ_VALID p) = true → ahead = 0) → (d.takePort p).1 = some f.payload ∧
        e.fget (PL_SEQ_NEXT p) = (f.seq + 1) % 65536 ∧ e.flag (PL_SEQ_SEQ_VALID p) = true ∧ RegsBut [PL_SEQ p, RIND_PORT_STAT p] d e) ∧
      (ahead < 0 → (d.takePort p).1 = none ∧ Counts d e (PL_RX_CNT_LATE_FRAMES p) 1 ∧ Counts d e (RIND_PORT_STAT_ABSENT_COUNT p) 1 ∧
        (d.flag (PL_SEQ_SEQ_VALID p) = true → e.fget (PL_SEQ_NEXT p) = (d.fget (PL_SEQ_NEXT p) + 1) % 65536)) ∧
      (0 < ahead → d.flag (PL_SEQ_SEQ_VALID p) = true → (d.takePort p).1 = none ∧ Counts d e (PL_VIOL_CNT_COUNT p 5) 1 ∧
        Counts d e (RIND_PORT_STAT_ABSENT_COUNT p) 1 ∧ (e.pstate p = psActive → e.fget (PL_SEQ_NEXT p) = (f.seq + 1) % 65536))) ∧
    (∀ p, p < 64 → d.pstate p = psActive → d.flag (PL_STATUS_PAYLOAD_TOO_LONG p) = false → pgetD d.rind.align p [] = [] →
      (d.takePort p).1 = none ∧ Counts d (d.takePort p).2 (RIND_PORT_STAT_ABSENT_COUNT p) 1 ∧
      (d.flag (PL_SEQ_SEQ_VALID p) = true → (d.takePort p).2.fget (PL_SEQ_NEXT p) = (d.fget (PL_SEQ_NEXT p) + 1) % 65536)) ∧
    (∀ b a rereads n esq, b < 256 → a < 2 → d.fab.lbDue.find? (fun x => x.1 == 2 * b + a) = some (2 * b + a, n, esq, 0) →
      Does (.lookbackDelivery b a [] rereads) s (fun e =>
        pgetD e.fab.lookback (2 * b + a) [] = pgetD d.fab.lookback (2 * b + a) [] ++
          (List.range (d.fget (BLK_MU_AGU_LB_COUNT b a) + 1)).map (fun k => ⟨esq, .data, BitVec.ofNat 512 (d.windowUnit b a n k)⟩) ∧
        Counts d e VAT_ERR_REREAD rereads ∧ RegsBut [VAT_ERR] d e ∧ e.mem = d.mem ∧
        e.fab.lbDue = d.fab.lbDue.eraseP (fun x => x.1 == 2 * b + a)))

/-- R24, R27 to R29, R31, R33: at a deadline the record that R27 and R28 name leaves in the deadline's tick, an EPOCH_MARK of
a new epoch before it; a frame still without a record at its horizon is released VOID, counted as a timeout and reported, and
a break is requested. -/
def Obligations.DeadlineAndHorizonReleaseRecords : Prop :=
  ∀ (s : State) (k esq : Nat),
    let d := s.dev
    let st := d.stamp esq
    k < 8 → esq < 4096 →
    (d.flag (RIND_STREAM_CFG_ENABLED k) = false ∨ d.rind.stopped = true ∨ st.valid = false →
      exec (.deadline k esq) s = .next s ∧ exec (.horizon k esq) s = .next s) ∧
    (d.flag (RIND_STREAM_CFG_ENABLED k) = true → d.rind.stopped = false → st.valid = true →
    (bitAt st.released k = false → bitAt st.passed k = false →
      (∀ kind accept score, deadlineKind d k st = some (kind, accept, score) → Does (.deadline k esq) s (fun e =>
        e.tick = max d.tick (st.tick + d.fget (RIND_STREAM_LAT_L_TICKS k)) ∧ Released d k esq st kind accept score e ∧
        bitAt (e.stamp esq).passed k = true)) ∧
      (deadlineKind d k st = none → Does (.deadline k esq) s (fun e =>
        e.tick = max d.tick (st.tick + d.fget (RIND_STREAM_LAT_L_TICKS k)) ∧ Emits d e (markDue k e.tick esq st) ∧
        bitAt (e.stamp esq).passed k = true ∧ bitAt (e.stamp esq).released k = false ∧
        (∀ j < 5, j ≠ 4 → e.fget (RIND_KIND_COUNT_COUNT k j) = d.fget (RIND_KIND_COUNT_COUNT k j))))) ∧
    (st.injected = true → st.voided = false → bitAt st.seen k = false → bitAt st.passed k = true → bitAt st.released k = false →
      st.mark = none → Does (.horizon k esq) s (fun e =>
        e.tick = max d.tick (st.tick + d.fget (RIND_STREAM_LAT_L_TICKS k) + d.fget (RIND_STREAM_LAT_EFFECTIVE_HORIZON k)) ∧
        Released d k esq st 2 0 0 e ∧ Counts d e RIND_RESULT_ERR_COUNT_TIMEOUT 1 ∧ e.flag RIND_STATUS_TIMEOUT_SEEN = true ∧
        (d.runState = stRunning → e.runState = stBreak ∧ e.rce.timeoutHold = true))))

/-- R25 to R28, R30, R36, R68, R86, R433: the oldest result of an egress point leaves its guard 16 ticks after it was accepted, and
behind every fault notice of its ESQ: before the deadline it waits, after it the stream's policy says what is released, a second
one counts as a duplicate, and one without a frame, or whose frame has its record, as an orphan; every one updates the slack. A
notice puts its ESQ into the void set and releases a frame past its deadline VOID; a tie report charges its frame, and yields to
every notice. -/
def Obligations.ResultsNoticesAndTieReportsReachTheRind : Prop :=
  ∀ (s : State),
    let d := s.dev
    (∀ p k (g : Guarded), p < 16 → d.rind.guard.find? (fun x => x.egress == p) = some g → d.rind.stopped = false →
      d.enabledStreams.find? (fun j => d.fget (RIND_STREAM_CFG_EGRESS_POINT j) == p) = some k → d.tick ≤ g.tick + 16 →
      let st := d.stamp g.esq
      let slack : Int := (st.tick + d.fget (RIND_STREAM_LAT_L_TICKS k) : Nat) - (g.tick + 16 : Nat)
      ((∃ n ∈ d.fab.lane, n.esq = g.esq) → exec (.resultArrival p) s = .next s) ∧
      ((∀ n ∈ d.fab.lane, n.esq ≠ g.esq) →
      (st.valid = false → Does (.resultArrival p) s (fun e => e.tick = g.tick + 16 ∧ Counts d e RIND_RESULT_ERR_COUNT_ORPHAN 1 ∧
        e.out = d.out ∧ e.rind = { d.rind with guard := d.rind.guard.eraseP (fun x => x.egress == p) } ∧
        RegsBut [RIND_RESULT_ERR_COUNT] d e)) ∧
      (st.valid = true → st.injected = true → bitAt st.released k = false → st.retired = false → st.mark = none →
        (pget st.results k = none → bitAt st.passed k = false → 0 ≤ slack → Does (.resultArrival p) s (fun e => e.tick = g.tick + 16 ∧
          pget (e.stamp g.esq).results k = some g.payload ∧ e.out = d.out ∧
          e.fint (RIND_SLACK_MIN_SLACK_MIN k) = min (d.fint (RIND_SLACK_MIN_SLACK_MIN k)) (min (2 ^ 31 - 1) slack) ∧
          e.fint (RIND_SLACK_MIN_SLACK_MAX k) = max (d.fint (RIND_SLACK_MIN_SLACK_MAX k)) (min (2 ^ 31 - 1) slack) ∧
          Counts d e (RIND_SLACK_HIST_COUNT k (slackBin (d.fget (RIND_STREAM_CFG_HIST_SHIFT k)) slack)) 1)) ∧
        (pget st.results k = none → bitAt st.passed k = true → slack < 0 → Does (.resultArrival p) s (fun e => e.tick = g.tick + 16 ∧
          (d.fget (RIND_STREAM_CFG_POLICY k) = 0 →
            Released d k g.esq st 1 (g.payload.toNat % 2 ^ 16) (g.payload.toNat / 2 ^ 16 % 2 ^ 64) e) ∧
          (d.fget (RIND_STREAM_CFG_POLICY k) = 1 → Released d k g.esq st 1 0 0 e))) ∧
        (pget st.results k ≠ none → bitAt st.passed k = false → Does (.resultArrival p) s (fun e => e.tick = g.tick + 16 ∧
          Counts d e RIND_RESULT_ERR_COUNT_DUPLICATE 1 ∧ bitAt (e.stamp g.esq).dups k = true ∧ e.out = d.out))) ∧
      (st.valid = true → st.injected = true → bitAt st.released k = true → st.retired = false →
        (∃ j ∈ d.enabledStreams, bitAt st.released j = false) → Does (.resultArrival p) s (fun e => e.tick = g.tick + 16 ∧
          Counts d e RIND_RESULT_ERR_COUNT_ORPHAN 1 ∧ bitAt (e.stamp g.esq).seen k = true ∧ e.out = d.out)))) ∧
    (∀ (j : Nat) (n : Notice), d.fab.lane[j]? = some n → Does (.faultNotice j) s (fun e => e.fab.lane = d.fab.lane.eraseIdx j ∧
      (e.stamp n.esq).voided = true ∧
      (∀ k < 8, d.flag (RIND_STREAM_CFG_ENABLED k) = true → d.rind.stopped = false → (d.stamp n.esq).valid = true →
        (d.stamp n.esq).injected = true → bitAt (d.stamp n.esq).released k = false → bitAt (d.stamp n.esq).passed k = true →
        bitAt (e.stamp n.esq).released k = true ∧ Counts d e (RIND_KIND_COUNT_COUNT k 2) 1) ∧
      ((d.stamp n.esq).valid = true → (d.stamp n.esq).released ≠ 0 →
        Counts d e RIND_RESULT_ERR_COUNT_LATE_NOTICE 1 ∧ e.flag RIND_STATUS_LATE_NOTICE_SEEN = true))) ∧
    (∀ (j esq : Nat), d.fab.ties[j]? = some esq → d.fab.lane ≠ [] → exec (.tieReport j) s = .next s) ∧
    (∀ (j esq : Nat), d.fab.ties[j]? = some esq → d.fab.lane = [] → Does (.tieReport j) s (fun e => e.fab.ties = d.fab.ties.eraseIdx j ∧
      e.stamp esq = { d.stamp esq with ties := min ((d.stamp esq).ties + 1) 4095 } ∧ (∀ q, q ≠ esq → e.stamp q = d.stamp q) ∧
      e.regs = d.regs ∧ e.mem = d.mem ∧ e.out = d.out))

/-- R39, R298: loss of the time base stops the frame sequencer, clears TIME_VALID and any pending step, and takes PPS_OUT
low; at the last stamped frame's deadline the rind stops, and every frame it had not released on a stream is released there. That
of several latencies the latest counts is the model's choice (log entry 134). -/
def Obligations.TimeBaseLossAndHoldover : Prop :=
  ∀ (s : State),
    let d := s.dev
    Does .timeBaseLoss s (fun e => e.flag RIND_STATUS_HOLDOVER = true ∧ e.flag RIND_STATUS_SEQ_RUNNING = false ∧
      e.flag TU_STATUS_TIME_VALID = false ∧ e.flag TU_STATUS_BASE_LOST = true ∧ e.flag TU_STATUS_STEP_PENDING = false ∧
      e.tu.openings = [] ∧ e.rind.lost = true ∧ e.rind.stamps = d.rind.stamps ∧ e.tick = d.tick ∧
      (∀ t < 32, e.flag (TU_TRGOUT_CFG_LEVEL t) = false) ∧ Emits d e [.ppsOut (d.tick * 1250) false] ∧
      (d.vectorOn 3 = true → .msix 3 ∈ e.out) ∧ (d.vectorOn 3 = false → bitAt e.host.msixPending 3 = true) ∧
      e.mem = d.mem ∧ e.fab = d.fab) ∧
    (d.rind.lost = true → d.rind.stopped = false → Does .holdoverEnd s (fun e => e.rind.stopped = true ∧
      e.tick = max d.tick d.lastDeadline ∧ (∀ q x, (q, x) ∈ d.rind.stamps → rising d.rind.stamps = true → x.valid = true →
        ∀ k ∈ d.enabledStreams, bitAt (e.stamp q).released k = true)))

/-- R22, R29, R40, R47, R49, R53, R55: the commands on RIND_ registers, each ignored while the device does not answer: the
counters cleared but for this tick's events, the slack extremes and MARGIN_MIN at their reset values, inputs closed from the
next boundary, one consistent snapshot of a stamp-table entry, and a stream's settings, which in ARMED give its effective
horizon anew and elsewhere than IDLE, LOADED and ARMED change nothing. -/
def Obligations.RindRegisterCommands : Prop :=
  ∀ (s : State) (v : Bool) (esq k w : Nat),
    let d := s.dev
    esq < 4096 → k < 8 → w < 2 ^ 64 →
    (d.ready = false → exec .rindCountClear s = .next s ∧ exec .slackClear s = .next s ∧ exec (.closeInputs v) s = .next s ∧
      exec (.stampSelWrite esq) s = .next s ∧ exec (.streamCfgWrite k w) s = .next s) ∧
    (d.ready = true →
      Does .rindCountClear s (fun e => Cleared d e RIND_DROP_COUNT_CLOSED_FRAMES ∧ Cleared d e RIND_DROP_COUNT_DEAD_TIME ∧
        Cleared d e RIND_RESULT_ERR_COUNT_TIMEOUT ∧ Cleared d e RIND_RESULT_ERR_COUNT_LATE_NOTICE ∧
        Cleared d e RIND_RESULT_ERR_COUNT_DUPLICATE ∧ Cleared d e RIND_RESULT_ERR_COUNT_ORPHAN ∧
        (∀ p < 64, Cleared d e (RIND_PORT_STAT_EXCESS_COUNT p) ∧ Cleared d e (RIND_PORT_STAT_ABSENT_COUNT p) ∧
          e.fget (RIND_PORT_STAT_MARGIN_MIN p) = d.fget (RIND_PORT_STAT_MARGIN_MIN p)) ∧
        (∀ j < 8, ∀ i < 5, Cleared d e (RIND_KIND_COUNT_COUNT j i)) ∧
        RegsBut ([RIND_DROP_COUNT, RIND_RESULT_ERR_COUNT] ++ (List.range 64).map RIND_PORT_STAT ++
          (List.range 8).flatMap (fun j => (List.range 5).map (RIND_KIND_COUNT j))) d e ∧ Apart e d) ∧
      Does .slackClear s (fun e => (∀ j < 8, e.fint (RIND_SLACK_MIN_SLACK_MIN j) = 2 ^ 31 - 1 ∧
          e.fint (RIND_SLACK_MIN_SLACK_MAX j) = -(2 ^ 31) ∧ ∀ i < 16, Cleared d e (RIND_SLACK_HIST_COUNT j i)) ∧
        (∀ p < 64, e.fget (RIND_PORT_STAT_MARGIN_MIN p) = 65535) ∧
        RegsBut ((List.range 64).map RIND_PORT_STAT ++ (List.range 8).map RIND_SLACK_MIN ++
          (List.range 8).flatMap (fun j => (List.range 16).map (RIND_SLACK_HIST j))) d e ∧ Apart e d) ∧
      Does (.closeInputs v) s (fun e => e.flag RIND_CTRL_CLOSE_INPUTS = v ∧ RegsBut [RIND_CTRL] d e ∧ Apart e d) ∧
      Does (.stampSelWrite esq) s (fun e => e.fget RIND_STAMP_SEL_ESQ = esq ∧ e.fget RIND_STAMP_TIME_TIME = (d.stamp esq).time % 2 ^ 64 ∧
        e.fget RIND_STAMP_INFO_EPOCH = (d.stamp esq).epoch % 2 ^ 16 ∧ e.flag RIND_STAMP_INFO_VALID = (d.stamp esq).valid ∧
        e.flag RIND_STAMP_INFO_INJECTED = (d.stamp esq).injected ∧ e.flag RIND_STAMP_INFO_VOID_SET = (d.stamp esq).voided ∧
        e.flag RIND_STAMP_INFO_RETIRED = d.isRetired (d.stamp esq) ∧ e.fget RIND_STAMP_INFO_RELEASED = (d.stamp esq).released % 2 ^ 8 ∧
        e.fget RIND_STAMP_INFO_BOUNDARY_TICK = (d.stamp esq).tick % 2 ^ 32 ∧ e.fget RIND_STAMP_PRESENT_PRESENT = (d.stamp esq).present % 2 ^ 64 ∧
        e.fget RIND_STAMP_CRC_CRC = (d.stamp esq).crc % 2 ^ 64 ∧
        RegsBut [RIND_STAMP_SEL, RIND_STAMP_TIME, RIND_STAMP_INFO, RIND_STAMP_PRESENT, RIND_STAMP_CRC] d e ∧ Apart e d) ∧
      (2 < d.runState → exec (.streamCfgWrite k w) s = .next s) ∧
      (d.runState ≤ 2 → Does (.streamCfgWrite k w) s (fun e =>
        e.fget (RIND_STREAM_CFG_HORIZON_TICKS k) = w / 2 ^ 16 % 2 ^ 16 ∧ e.fget (RIND_STREAM_CFG_HIST_SHIFT k) = w / 2 ^ 12 % 2 ^ 4 ∧
        e.fget (RIND_STREAM_CFG_TO_CURD k) = w / 2 ^ 4 % 2 ∧ e.fget (RIND_STREAM_CFG_LATE_CAPTURE k) = w / 2 ^ 3 % 2 ∧
        (e.fget (RIND_STREAM_CFG_POLICY k) = if d.policyHeld k then d.fget (RIND_STREAM_CFG_POLICY k) else w / 2 % 4) ∧
        e.fget (RIND_STREAM_CFG_ENABLED k) = d.fget (RIND_STREAM_CFG_ENABLED k) ∧
        e.fget (RIND_STREAM_CFG_EGRESS_POINT k) = d.fget (RIND_STREAM_CFG_EGRESS_POINT k) ∧
        (d.runState = 2 → e.fget (RIND_STREAM_LAT_EFFECTIVE_HORIZON k) = max 16 (min (w / 2 ^ 16 % 2 ^ 16)
          (4096 * d.fget RIND_FRAME_PERIOD_PERIOD_TICKS - d.fget (RIND_STREAM_LAT_L_TICKS k) - 64)) % 2 ^ 16) ∧
        RegsBut [RIND_STREAM_CFG k, RIND_STREAM_LAT k] d e ∧ Apart e d)))

/-! ## Vector units and quantised arithmetic (chapters 4 and 5) -/

/-- R141 to R144, R150 to R152: a VU at rest begins a cycle at step 0; a repetition that has its row (a new one, or the row
held) and the scale token it asks for adds the row's products to the accumulators, which start from the bias or zero; at the
end of an accumulation the two stages are combined, with the chain tokens where the step adds them. -/
def Obligations.VuAccumulatesRows : Prop :=
  ∀ (s : State) (u b v : Nat),
    let d := s.dev
    let x := d.vu u
    let st := d.vuStepAt (vuWindow u) x.step
    u < 2 ^ 24 → d.vuWorks u = some (b, v) → d.vuFlushing u b v = false →
    (x.running = false → Does (.vuCycleStart u noBad) s (fun e => let y := e.vu u
      y.running = true ∧ y.cycle = x.cycle + 1 ∧ y.step = 0 ∧ y.rep = 0 ∧ y.esqs = x.esqs ∧ y.accOpen = false ∧ y.held = x.held ∧
      y.s1 = x.s1 ∧ y.s2 = x.s2 ∧ y.send = x.send ∧ e.fget (BLK_VU_STATE_STEP (vuWindow u)) = 0 ∧
      e.flag (BLK_VU_STATE_BUSY (vuWindow u)) = true ∧ VuOnly d u [] e ∧ e.fab.queues = d.fab.queues)) ∧
    (x.running = true → x.macDone = false → x.s1 = none → x.rowGot = false → x.scaleGot = false →
      ∀ (row : List Nat) (t sc : Token), row.length = 64 →
      (st.rowIn = 1 ∧ Ready d (vuQ b v 0) t ∧ row = unpackLanes 8 64 t.payload.toNat ∧ (st.scaleIn = true → Ready d (vuQ b v 2) sc) ∨
        st.rowIn = 2 ∧ x.held = some row ∧ x.loopWait = 0) →
      Does (.vuRowIntake u noBad) s (fun e => let y := e.vu u
        (∀ o < 64, y.acc0.getD o 0 = acc32 (vuAcc0 d u x st o + vuSum d u 0 (st.wBase + x.rep * st.stride) st.int4 st.zp row o) ∧
          y.acc1.getD o 0 = acc32 ((if x.accOpen = true then x.acc1.getD o 0 else 0) +
            vuSum d u 1 (st.wBase + x.rep * st.stride) st.int4 st.zp row o)) ∧
        y.accOpen = true ∧ y.held = some row ∧ y.accBad = (x.accOpen && x.accBad) ∧
        (st.rowIn = 1 → HeadsTaken ([vuQ b v 0] ++ if st.scaleIn = true then [vuQ b v 2] else []) d e ∧
          pget y.esqs x.cycle = some ((pget x.esqs x.cycle).getD t.esq) ∧ y.loopWait = 0 ∧ y.loopOver = x.loopOver + x.loopWait ∧
          (st.scaleIn = true → y.q = sc.payload.toNat % 2 ^ 8 ∧ y.e2 = sc.payload.toNat / 2 ^ 8 % 2 ^ 6)) ∧
        (st.ends x.rep = true → y.macDone = true ∧ y.step = x.step ∧ y.rep = x.rep) ∧
        (st.ends x.rep = false → y.macDone = false ∧ (x.rep < st.repeats → y.step = x.step ∧ y.rep = x.rep + 1) ∧
          (st.repeats ≤ x.rep → st.last = false → y.step = x.step + 1 ∧ y.rep = 0) ∧
          (st.repeats ≤ x.rep → st.last = true → y.running = false)) ∧
        VuOnly d u [vuQ b v 0, vuQ b v 2] e)) ∧
    (x.running = true → x.macDone = false → x.s1 = none → st.rowIn = 0 → Does (.vuRowIntake u noBad) s (fun e => let y := e.vu u
      (∀ o < 64, y.acc0.getD o 0 = vuAcc0 d u x st o ∧ y.acc1.getD o 0 = (if x.accOpen = true then x.acc1.getD o 0 else 0)) ∧
      y.accOpen = true ∧ y.held = x.held ∧ y.macDone = st.ends x.rep ∧ VuOnly d u [] e ∧ e.fab.queues = d.fab.queues)) ∧
    (x.running = true → x.macDone = true → x.s1 = none → x.s2 = none → x.chain = [] →
      ∀ ts : List Token, ts.length = 4 → (st.chainAdd = true → (d.queue (vuQ b v 1)).take 4 = ts ∧ ∀ t ∈ ts, t.kind ≠ .flush) →
      Does (.endOfAccumulation u noBad) s (fun e => let y := e.vu u
        (∃ a, y.s2 = some a ∧ a.cycle = x.cycle ∧ a.step = x.step ∧ a.done = false ∧ a.zero = x.accBad ∧ a.bias = x.bias ∧ a.q = x.q ∧
          a.e2 = x.e2 ∧ ∀ o < 64, a.lanes.getD o 0 = acc32 (x.acc0.getD o 0 + x.acc1.getD o 0 + (if st.chainAdd = true then
            sx 32 ((ts.getD (o / 16) default).payload.toNat / 2 ^ (32 * (o % 16)) % 2 ^ 32) else 0))) ∧
        y.accOpen = false ∧ y.macDone = false ∧ y.loopWait = x.loopWait + (if st.outFmt = 5 then 1 else 0) ∧
        (st.chainAdd = true → e.tokens (vuQ b v 1) = (d.tokens (vuQ b v 1)).drop 4) ∧
        (st.chainAdd = false → e.tokens (vuQ b v 1) = d.tokens (vuQ b v 1)) ∧ VuOnly d u [vuQ b v 1] e))

/-- R145 to R151, R159, R165, R176 to R181, R184: stage 2 rescales each lane, applies the elementwise operand and the rotation;
stage 3 activates and quantises the row and sends the codes, and the scale token where SCALE_OUT is set, and the last row of a
cycle counts the cycle and updates every slot's S2 from the cycle's flags; FLUSH passes a VU at rest, and what stands ahead of it
is discarded. -/
def Obligations.VuTransformsSendsAndFlushes : Prop :=
  ∀ (s : State) (u b v : Nat),
    let d := s.dev
    let w := vuWindow u
    let x := d.vu u
    u < 2 ^ 24 → d.vuWorks u = some (b, v) →
    (∀ (a : VuAcc) (ts : List Token), x.s2 = some a → a.done = false → a.ew = [] → ts.length = 2 →
      let st := d.vuStepAt w a.step
      (st.ew ≠ 0 → (d.queue (vuQ b v 1)).take 2 = ts ∧ ∀ t ∈ ts, t.kind ≠ .flush) →
      Does (.vuTransform u noBad) s (fun e =>
        (∃ c, (e.vu u).s2 = some c ∧ c.done = true ∧ c.step = a.step ∧ c.last = a.last ∧ c.lanes = a.lanes ∧
          ∀ o < 64, c.out.getD o 0 = if st.had = true
            then sat16 (rndDiv (((List.range 64).map (fun i => hadTerm i o (vuElementwise d w st a ts i))).sum) 8)
            else vuElementwise d w st a ts o) ∧
        (st.ew ≠ 0 → e.tokens (vuQ b v 1) = (d.tokens (vuQ b v 1)).drop 2) ∧
        (st.ew = 0 → e.tokens (vuQ b v 1) = d.tokens (vuQ b v 1)) ∧ VuOnly d u [vuQ b v 1] e)) ∧
    (∀ a, x.send = [] → x.s2 = some a → a.done = true → a.zero = false → a.out.length = 64 → a.lanes.length = 64 →
      let st := d.vuStepAt w a.step
      let toks := vuRowTokens d w st a
      let quant := st.outFmt = 1 ∨ st.outFmt = 5
      let evidence := x.evidence ++ if quant then [(st.slot, (vuCode d w st a).2)] else []
      let stage (net : Nat) := if net = 1 then qnum b 1 (8 + v) else qnum b 0 (90 + v)
      d.stageOf (stage 0) = none → d.stageOf (stage 1) = none →
      Does (.vuOutput u noBad) s (fun e => ∃ k ≤ toks.length,
        (e.vu u).send.map (fun m => (m.1, m.2.2.payload)) = (toks.drop k).map (fun m => (m.1, BitVec.ofNat 512 m.2)) ∧
        (∀ m ∈ toks.take k, e.stageOf (stage m.1) = some ⟨pgetD x.esqs a.cycle 0, .data, BitVec.ofNat 512 m.2⟩) ∧
        (∀ m, (toks.drop k).head? = some m → e.stageOf (stage m.1) ≠ none) ∧
        (st.outFmt = 5 → x.loopOver = 0 → (e.vu u).held = some (vuCodes d w st a) ∧ (e.vu u).loopWait = x.loopWait - 1) ∧
        (st.outFmt = 5 → x.loopOver ≠ 0 → (e.vu u).held = x.held ∧ (e.vu u).loopOver = x.loopOver - 1) ∧
        (quant → Counts d e (BLK_VU_QCOUNT_COUNT w st.slot 0) 1 ∧
          ((vuCode d w st a).2 ≠ fNone → Counts d e (BLK_VU_QCOUNT_COUNT w st.slot (vuCode d w st a).2) 1)) ∧
        Counts d e (BLK_VU_CYCLES_CYCLES w) (b2n (a.last && k == toks.length)) ∧
        (a.last = true ∧ k = toks.length → (e.vu u).evidence = [] ∧ pget (e.vu u).esqs a.cycle = none ∧ ∀ j < 4,
          let f := d.adaptSlot w j ((evidence.filter (fun m => m.1 == j)).map Prod.snd)
          e.rget (BLK_VU_S2 w j) = f.rget (BLK_VU_S2 w j) ∧ e.rget (BLK_VU_S2_LIM w j) = f.rget (BLK_VU_S2_LIM w j)) ∧
        (¬ (a.last = true ∧ k = toks.length) → (e.vu u).evidence = evidence ∧ (e.vu u).esqs = x.esqs ∧ ∀ j < 4,
          e.rget (BLK_VU_S2 w j) = d.rget (BLK_VU_S2 w j) ∧ e.rget (BLK_VU_S2_LIM w j) = d.rget (BLK_VU_S2_LIM w j)) ∧
        VuOnly d u [] e)) ∧
    (let qs := d.vuUsed u b v
     let outs := (onesOf 2 (d.fget (BLK_VU_CFG_OUT_USED w))).map (fun k => if k = 0 then qnum b 1 (8 + v) else qnum b 0 (90 + v))
     (∀ q ∈ qs, NoGap d q) → (∃ q ∈ qs, ∃ t, d.headOf q = some t ∧ t.kind = .flush) →
     x.running = false → x.s1 = none → x.s2 = none → x.send = [] →
     (FlushReady d qs outs → Does (.vuFlush u) s (fun e => FlushSent d qs outs e ∧ e.flag (BLK_VU_STATE_FLUSHED w) = true ∧
        e.flag (BLK_VU_STATE_FLUSHING w) = false ∧ (e.vu u).held = none ∧ VuOnly d u qs e)) ∧
     ((∃ q ∈ qs, ∀ t ∈ d.tokens q, t.kind ≠ .flush) → Does (.vuFlush u) s (fun e => FlushWaits d qs e ∧
        Counts d e (BLK_VU_CYCLES_FLUSH_DISCARD w) (flushAhead d qs) ∧ e.flag (BLK_VU_STATE_FLUSHING w) = true ∧ VuOnly d u qs e)))

/-- R173 to R181, R184: a quotient rounds to nearest; a code's reach, its flags and its range; a lane's code; and what a
slot's second-level scale does after rows with SAT, FLAT and FLOOR flags. -/
def Obligations.QuantisedArithmetic : Prop :=
  (∀ (a : Int) (b : Nat), 0 < b → 2 * (rndDiv a b * b - a).natAbs ≤ b) ∧
  (∀ zp s2 m, zp < 256 → let r := quantCode false 0 zp s2 m
    1 ≤ r.1 ∧ r.1 ≤ 255 ∧ (m = 0 ↔ r.2 = fFlat) ∧
    (r.2 = fNone → m * 2 ^ (50 - s2Exp s2) ≤ r.1 * (quantReach zp * (1024 + s2Frac s2) * 2 ^ (s2Exp s2 - 50)) ∧
      (r.1 - 1) * (quantReach zp * (1024 + s2Frac s2) * 2 ^ (s2Exp s2 - 50)) < m * 2 ^ (50 - s2Exp s2)) ∧
    (r.2 = fSat → r.1 = 255 ∧ 255 * (quantReach zp * (1024 + s2Frac s2) * 2 ^ (s2Exp s2 - 50)) < m * 2 ^ (50 - s2Exp s2))) ∧
  (∀ q zp s2 x, quantLane q zp s2 x ≤ 255 ∧ (zp < 256 → quantLane q zp s2 0 = zp)) ∧
  (∀ (d : Dev) (w k : Nat) (flags : List Nat), flags ≠ [] → k < 4 →
    let s2 := d.fget (BLK_VU_S2_S2 w k)
    let e := d.adaptSlot w k flags
    (fSat ∈ flags → s2Exp s2 < d.fget (BLK_VU_S2_LIM_E2_MAX w k) → e.fget (BLK_VU_S2_S2 w k) = s2 + 1024 ∧
      e.fget (BLK_VU_S2_LIM_FLOOR_RUN w k) = 0 ∧ Counts d e (BLK_VU_S2_ADAPT_COUNT w k) 1) ∧
    (fSat ∈ flags → d.fget (BLK_VU_S2_LIM_E2_MAX w k) ≤ s2Exp s2 → e.fget (BLK_VU_S2_S2 w k) = s2 ∧
      Counts d e (BLK_VU_S2_LIM_BLOCKED w k) 1) ∧
    ((∀ f ∈ flags, f = fFlat) → e = d) ∧
    ((∀ f ∈ flags, f = fFlat ∨ f = fFloor) → fFloor ∈ flags →
      d.fget (BLK_VU_S2_LIM_FLOOR_RUN w k) < d.fget (BLK_VU_S2_LIM_DOWN_AFTER w k) →
      e.fget (BLK_VU_S2_S2 w k) = s2 ∧ e.fget (BLK_VU_S2_LIM_FLOOR_RUN w k) = d.fget (BLK_VU_S2_LIM_FLOOR_RUN w k) + 1) ∧
    ((∀ f ∈ flags, f = fFlat ∨ f = fFloor) → fFloor ∈ flags →
      d.fget (BLK_VU_S2_LIM_DOWN_AFTER w k) ≤ d.fget (BLK_VU_S2_LIM_FLOOR_RUN w k) → d.fget (BLK_VU_S2_LIM_E2_MIN w k) < s2Exp s2 →
      e.fget (BLK_VU_S2_S2 w k) = s2 - 1024 ∧ e.fget (BLK_VU_S2_LIM_FLOOR_RUN w k) = 0 ∧ Counts d e (BLK_VU_S2_ADAPT_COUNT w k) 1))

/-! ## Memory units (chapter 6) -/

/-- R190, R192 to R195: a trigger reads a unit of the region and sends it, or its next where it is in hand, and may move the
pointer with its last; a token is written at the pointer; WINDOW writes, then reads back; a REQUEST reads, writes or adds to
the element it names. Every access counts. Said of an AGU to which the port goes, and of accesses that nothing races and no
read of which fails; where both AGUs request and neither has lost the grant before, the port goes to AGU A. -/
def Obligations.MemoryUnitAccessesItsBank : Prop :=
  ∀ (s : State) (b a : Nat) (t : Token),
    let d := s.dev
    let g := d.agu b a
    let q := d.aguSink b a
    let vec := d.flag (BLK_MU_AGU_CFG_NET b a)
    let size := if vec = true then 64 else 4
    let addr (v : Bool) (i : Nat) := if v = true then blkMem b + 64 * i else blkMem b + 4 * i
    let count := d.fget (BLK_MU_AGU_CFG_COUNT b a) + 1
    let stride := d.fint (BLK_MU_AGU_CFG_STRIDE b a)
    let mode := d.fget (BLK_MU_AGU_CFG_MODE b a)
    b < 256 → a < 2 → d.muWorks b = true → d.muFlushing b = false → d.badLocs (muId b) = [] → 0 < d.fget (BLK_MU_AGU_CFG_WRAP b a) →
    d.aguRequests b (1 - a) = false ∨ pget d.fab.portLost b = some a ∨ (pget d.fab.portLost b = none ∧ a = 0) →
    (mode = 1 → d.aguFree b a = true → (g.op = 1 ∨ g.op = 0 ∧ Ready d q t) →
      let esq := if g.op = 1 then g.esq else t.esq
      let index := if g.op = 1 then g.index else if d.flag (BLK_MU_AGU_CFG_INDEXED b a) = true then t.payload.toNat % 2 ^ 17 else 0
      let elem := if g.op = 1 then g.elem else 0
      Does (.aguRead b a cleanAccess) s (fun e =>
        AguSent d b a esq (d.leMem (addr vec (aguAt d b a (index + elem * stride))) size) e ∧ Counts d e (BLK_MU_ACCESS_ACCESSES b) 1 ∧
        HeadsTaken (if g.op = 1 then [] else [q]) d e ∧
        (elem + 1 < count → (e.agu b a).op = 1 ∧ (e.agu b a).elem = elem + 1 ∧ (e.agu b a).index = index ∧
          e.rget (BLK_MU_AGU_ADDR b a) = d.rget (BLK_MU_AGU_ADDR b a)) ∧
        (count ≤ elem + 1 → (e.agu b a).op = 0 ∧
          (d.flag (BLK_MU_AGU_CFG_ADVANCE b a) = true → PtrMoved d b a count e) ∧
          (d.flag (BLK_MU_AGU_CFG_ADVANCE b a) = false → e.rget (BLK_MU_AGU_ADDR b a) = d.rget (BLK_MU_AGU_ADDR b a))) ∧
        e.mem = d.mem ∧ MuOnly d b a [q] e)) ∧
    (mode = 2 → Ready d q t → Does (.aguWrite b a cleanAccess) s (fun e =>
        Stored (addr vec (aguAt d b a (g.group * stride))) size t.payload.toNat d e ∧ Counts d e (BLK_MU_ACCESS_ACCESSES b) 1 ∧
        HeadsTaken [q] d e ∧
        (g.group + 1 < count → (e.agu b a).group = g.group + 1 ∧ e.rget (BLK_MU_AGU_ADDR b a) = d.rget (BLK_MU_AGU_ADDR b a)) ∧
        (count ≤ g.group + 1 → (e.agu b a).group = 0 ∧ (d.flag (BLK_MU_AGU_CFG_ADVANCE b a) = true → PtrMoved d b a count e)) ∧
        (∀ o, e.stageOf o = d.stageOf o) ∧ MuOnly d b a [q] e)) ∧
    (mode = 3 → g.op = 0 → Ready d q t → Does (.aguWindow b a cleanAccess) s (fun e =>
        Stored (addr vec (aguAt d b a 0)) size t.payload.toNat d e ∧ (e.agu b a).op = 1 ∧ (e.agu b a).elem = 0 ∧ (e.agu b a).esq = t.esq ∧
        HeadsTaken [q] d e ∧ Counts d e (BLK_MU_ACCESS_ACCESSES b) 1 ∧ MuOnly d b a [q] e)) ∧
    (mode = 3 → g.op = 1 → d.aguFree b a = true → Does (.aguWindow b a cleanAccess) s (fun e =>
        AguSent d b a g.esq (d.leMem (addr vec (aguAt d b a (-(g.elem * stride)))) size) e ∧ e.mem = d.mem ∧
        (g.elem + 1 < count → (e.agu b a).elem = g.elem + 1) ∧ (count ≤ g.elem + 1 → (e.agu b a).op = 0 ∧ PtrMoved d b a 1 e) ∧
        Counts d e (BLK_MU_ACCESS_ACCESSES b) 1 ∧ MuOnly d b a [] e)) ∧
    (mode = 4 → g.op = 0 → Ready d q t →
      let i := d.fget (BLK_MU_AGU_ADDR_BASE b a) + t.payload.toNat % 2 ^ 17 % d.fget (BLK_MU_AGU_CFG_WRAP b a)
      (t.payload.toNat / 2 ^ 30 % 4 = 0 → d.aguFree b a = true → Does (.requestRead b a cleanAccess) s (fun e =>
        AguSent d b a t.esq (d.leMem (blkMem b + 4 * i) 4) e ∧ HeadsTaken [q] d e ∧ Counts d e (BLK_MU_ACCESS_ACCESSES b) 1 ∧
        e.mem = d.mem ∧ MuOnly d b a [q] e)) ∧
      (t.payload.toNat / 2 ^ 30 % 4 = 1 → ∀ x, NoGap d q → (d.tokens q).tail.head? = some x → x.kind ≠ .flush → x.esq = t.esq →
        Does (.requestWrite b a cleanAccess) s (fun e => Stored (blkMem b + 4 * i) 4 x.payload.toNat d e ∧
          e.tokens q = (d.tokens q).drop 2 ∧ (e.agu b a).op = 0 ∧ Counts d e (BLK_MU_ACCESS_ACCESSES b) 1 ∧ MuOnly d b a [q] e)) ∧
      (t.payload.toNat / 2 ^ 30 % 4 = 2 → Does (.requestAdd b a cleanAccess) s (fun e =>
        Stored (blkMem b + 4 * i) 4 (wrapTo 32 ((d.leMem (blkMem b + 4 * i) 4 : Int) + sx 13 (t.payload.toNat / 2 ^ 17 % 2 ^ 13))) d e ∧
          HeadsTaken [q] d e ∧ Counts d e (BLK_MU_ACCESS_ACCESSES b) 2 ∧ MuOnly d b a [q] e)) ∧
      (t.payload.toNat / 2 ^ 30 % 4 = 3 → (∀ x, (d.tokens q).tail.head? = some x → x.kind = .flush) → Does (.requestRead b a cleanAccess) s (fun e =>
        HeadsTaken [q] d e ∧ Counts d e (BLK_MU_ACCESS_BAD_REQ b) 1 ∧ e.mem = d.mem ∧ MuOnly d b a [q] e)))

/-- R200, R218, R221, R222, R232: FETCH asks for a word of the window under a tag; a tag whose word no WAIT has taken, and a word
beyond the window, give a zero word and an error. The word's arrival, zero and an error where its read was uncorrectable, sends
it to a WAIT that has come for it; a WAIT for a word that is there takes it, for one still to come waits, and for one not asked
for gets zero and an error. POST waits for its data token and writes it at the offset it names, and beyond the window gives an
error. A reserved operation is discarded and counted. FLUSH passes an MU with nothing in hand, or a failed one, and empties its
inbound buffer; what stands ahead of it is discarded and counted. -/
def Obligations.DecouplingQueuesAndMuFlush : Prop :=
  (∀ (s : State) (b a : Nat) (t : Token),
    let d := s.dev
    let q := qnum b 0 (88 + a)
    let vq := qnum b 1 (12 + a)
    let op := t.payload.toNat / 2 ^ 28 % 16
    let off := t.payload.toNat % 2 ^ 24
    let tag := t.payload.toNat / 2 ^ 24 % 16
    let addr := d.fget (BLK_MU_DQ_BASE_MIB b) * 2 ^ 20 + 64 * off
    let within := 64 * off < d.fget (BLK_MU_DQ_SIZE_MIB b) * 2 ^ 20
    let others := (d.dq b).filter (fun x => x.tag != tag)
    b < 256 → a < 2 → d.muWorks b = true → d.muFlushing b = false → DqAlone d b a → (d.agu b a).op = 0 → Ready d q t →
    (op = 0 → Does (.fetch b) s (fun e => HeadsTaken [q] d e ∧ e.mem = d.mem ∧ (∀ o, e.stageOf o = d.stageOf o) ∧
      (within → (∀ x ∈ d.dq b, x.tag ≠ tag) → e.dq b = d.dq b ++ [⟨tag, addr, BitVec.ofNat 512 (d.leMem addr 64), false⟩] ∧
        Counts d e (BLK_MU_ACCESS_DQ_ERROR b) 0) ∧
      (within → (∃ x ∈ d.dq b, x.tag = tag) → e.dq b = others ++ [⟨tag, addr, 0#512, true⟩] ∧ Counts d e (BLK_MU_ACCESS_DQ_ERROR b) 1) ∧
      (¬ within → e.dq b = others ++ [⟨tag, 0, 0#512, true⟩] ∧ Counts d e (BLK_MU_ACCESS_DQ_ERROR b) 1) ∧
      DqOnly d [BLK_MU_ACCESS b, spillReg q] e)) ∧
    (op = 1 → d.aguFree b a = true → Does (.wait b) s (fun e => HeadsTaken [q] d e ∧ e.mem = d.mem ∧
      (∀ x, (d.dq b).find? (fun y => y.tag == tag) = some x → x.here = true → AguSent d b a t.esq x.word.toNat e ∧
        e.dq b = others ∧ (e.agu b a).op = 0 ∧ Counts d e (BLK_MU_ACCESS_DQ_ERROR b) 0) ∧
      (∀ x, (d.dq b).find? (fun y => y.tag == tag) = some x → x.here = false → (∀ o, e.stageOf o = d.stageOf o) ∧
        e.dq b = d.dq b ∧ (e.agu b a).op = 4 ∧ (e.agu b a).index = tag ∧ (e.agu b a).esq = t.esq) ∧
      ((d.dq b).find? (fun y => y.tag == tag) = none → AguSent d b a t.esq 0 e ∧ e.dq b = d.dq b ∧ (e.agu b a).op = 0 ∧
        Counts d e (BLK_MU_ACCESS_DQ_ERROR b) 1) ∧
      DqOnly d [BLK_MU_ACCESS b, spillReg q] e)) ∧
    (op = 2 → Does (.post b) s (fun e => (∀ o, e.stageOf o = d.stageOf o) ∧ e.dq b = d.dq b ∧
      ((∀ x, ¬ Ready d vq x) → HeadsTaken [q] d e ∧ e.mem = d.mem ∧ (e.agu b a).op = 3 ∧ (e.agu b a).index = off ∧ (e.agu b a).esq = t.esq) ∧
      (∀ x, Ready d vq x → HeadsTaken [q, vq] d e ∧ (e.agu b a).op = 0 ∧
        (within → Stored addr 64 x.payload.toNat d e ∧ Counts d e (BLK_MU_ACCESS_DQ_ERROR b) 0 ∧ e.out = d.out ++ d.invalidated addr 64) ∧
        (¬ within → e.mem = d.mem ∧ Counts d e (BLK_MU_ACCESS_DQ_ERROR b) 1) ∧
        Counts d e (BLK_MU_ERR_TAG_MISMATCH b) (if x.esq = t.esq then 0 else 1)) ∧
      DqOnly d [BLK_MU_ACCESS b, BLK_MU_ERR b, spillReg q, spillReg vq] e)) ∧
    (3 ≤ op → d.tokens q = [t] → ∀ c ∈ [Instr.fetch b, .wait b, .post b], Does c s (fun e => HeadsTaken [q] d e ∧
      Counts d e (BLK_MU_ACCESS_BAD_REQ b) 1 ∧ e.mem = d.mem ∧ e.dq b = d.dq b ∧ (∀ o, e.stageOf o = d.stageOf o) ∧
      DqOnly d [BLK_MU_ACCESS b, spillReg q] e))) ∧
  (∀ (s : State) (b tag : Nat) (x : DqEntry) (r : LpRead),
    let d := s.dev
    let word := if r.bad = true then 0#512 else x.word
    let here := (d.dq b).map (fun y => if y.tag = tag then { y with word := if r.bad = true then 0#512 else y.word, here := true } else y)
    (Instr.fetchComplete b tag r).wf = true → d.powered b = true → (d.dq b).find? (fun y => y.tag == tag && !y.here) = some x →
    (d.dq b).find? (fun y => y.tag == tag) = some x →
    Does (.fetchComplete b tag r) s (fun e =>
      Counts d e (LPX_ERR_CORRECTED (x.addr / 256 % 5)) r.corrected ∧ Counts d e (LPX_ERR_UNCORRECTED (x.addr / 256 % 5)) (b2n r.bad) ∧
      ((∀ k < 2, (d.agu b k).op ≠ 4) → e.dq b = here ∧ Counts d e (BLK_MU_ACCESS_DQ_ERROR b) (b2n r.bad) ∧
        (∀ o, e.stageOf o = d.stageOf o) ∧ e.fab.agus = d.fab.agus) ∧
      (∀ a < 2, d.muWorks b = true → d.aguMode b a = 6 → (d.agu b a).op = 4 → (d.agu b a).index = tag → (d.agu b (1 - a)).op ≠ 4 →
        d.aguFree b a = true → AguSent d b a (d.agu b a).esq word.toNat e ∧ e.dq b = here.filter (fun y => y.tag != tag) ∧
          (e.agu b a).op = 0 ∧ Counts d e (BLK_MU_ACCESS_DQ_ERROR b) (b2n r.bad)) ∧
      (∀ q, e.tokens q = d.tokens q))) ∧
  (∀ (s : State) (b : Nat),
    let d := s.dev
    let ins := d.muIns b
    let outs := ((List.range 2).filter (fun k => [1, 3, 4, 5, 6].contains (d.aguMode b k))).map
      (fun k => qnum b (d.aguSource b k).1 (d.aguSource b k).2)
    let spills := ins.map (fun i => spillReg i.2)
    b < 256 → d.powered b = true → d.flag (BLK_MU_STATUS_LOADED b) = true → (∀ i ∈ ins, i.1 = false → NoGap d i.2) →
    (ins ≠ [] → (∀ i ∈ ins, ∃ t, d.muHead i = some t ∧ t.kind = .flush) → (∀ o ∈ outs, d.stageOf o = none) →
      (d.flag (BLK_MU_STATUS_FAILED b) = true ∨ ∀ k < 2, (d.agu b k).op = 0) → Does (.muFlush b) s (fun e =>
        MuInputs d ins List.tail e ∧
        (∀ o, e.stageOf o = if o ∈ outs then some ⟨(((ins.head?).bind d.muHead).map Token.esq).getD 0, .flush, 0#512⟩ else d.stageOf o) ∧
        e.flag (BLK_MU_STATUS_FLUSHED b) = true ∧ e.flag (BLK_MU_STATUS_FLUSHING b) = false ∧ e.dq b = [] ∧ e.mem = d.mem ∧
        RegsBut (BLK_MU_STATUS b :: spills) d e)) ∧
    ((∃ i ∈ ins, ∃ t, d.muHead i = some t ∧ t.kind = .flush) → (∃ i ∈ ins, ∀ t ∈ d.muTokens i, t.kind ≠ .flush) →
      d.flag (BLK_MU_STATUS_FAILED b) = false → (∀ k < 2, (d.agu b k).op = 0) → Does (.muFlush b) s (fun e =>
        MuInputs d ins (List.dropWhile Token.stays) e ∧ (∀ o, e.stageOf o = d.stageOf o) ∧ e.flag (BLK_MU_STATUS_FLUSHING b) = true ∧
        Counts d e (BLK_MU_ERR_FLUSH_DISCARD b) (ins.map (fun i => ((d.muTokens i).takeWhile Token.stays).length)).sum ∧
        e.dq b = d.dq b ∧ e.mem = d.mem ∧ RegsBut ([BLK_MU_STATUS b, BLK_MU_ERR b] ++ spills) d e)))

/-- R205, R211 to R216, R359: the curd engine queues a record's capture, or drops and counts it where 1,024 wait; it reads the
capture's slots in order once each is written, each slot's bytes passing to the capture's ports, zeros where the slot is
about to be overwritten; with all slots read the store copy is header, frames and bitmap from WR on, and a capture with
nothing left to send leaves the queue and counts. -/
def Obligations.CurdQueuesReadsAndCompletesCaptures : Prop :=
  ∀ (s : State) (c : CurdCap) (r : List CurdCap),
    let d := s.dev
    (d.curd.coming = c :: r →
      (d.curd.queue.length < 1024 → Does .curdRecord s (fun e => e.curd = ⟨r, d.curd.queue ++ [c]⟩ ∧ e.regs = d.regs ∧ e.mem = d.mem)) ∧
      (1024 ≤ d.curd.queue.length → Does .curdRecord s (fun e => e.curd = ⟨r, d.curd.queue⟩ ∧ Counts d e VAT_CURD_STAT_QUEUE_FULL 1))) ∧
    (d.curd.queue = c :: r → c.started = true → c.cur < c.slots → c.partBad = false →
      let k := c.ports.length
      let m := c.first + c.cur / k
      let p := c.ports.getD (c.cur % k) 0
      let n := 64 * d.fget (VAT_RING_SLOT_WORDS p)
      let st := d.stamp (m % 4096)
      let bytes := if d.slotLate m p then List.replicate n 0 else d.bytes (d.slotAddr p m) n
      st.valid = true → st.frame = m → m ≤ d.fget RIND_FRAME_NUMBER_FRAME_NUMBER → d.staged c n = true →
      Does (.curdSlotRead [] 0) s (fun e =>
        e.tick = max d.tick (st.tick + 6 + d.fget (VAT_RING_SLOT_WORDS p)) ∧ e.mem = d.mem ∧
        (∃ h, e.curd.queue = h :: r ∧ h.cur = c.cur + 1 ∧ h.ports = c.ports ∧
          ((c.cur + 1) % k ≠ 0 → h.part = c.part ++ bytes ∧ h.partBad = d.slotLate m p ∧ h.data = c.data ∧ h.lost = c.lost ∧
            e.regs = d.regs) ∧
          ((c.cur + 1) % k = 0 → d.slotLate m p = false → h.part = [] ∧ h.data = (if c.store then c.data ++ [c.part ++ bytes] else c.data)) ∧
          ((c.cur + 1) % k = 0 → d.slotLate m p = true → h.lost = c.lost ++ [m - c.first] ∧ Counts d e VAT_CURD_STAT_LOST_FRAMES 1)) ∧
        (∀ q ∈ c.dests, c.dests.Nodup → ∀ y, (d.port q).caps = [y] → y.ended = false →
          (e.port q).caps = [{ y with bytes := y.bytes ++ bytes }]))) ∧
    (d.curd.queue = c :: r → c.started = true → c.slots ≤ c.cur → c.last ≤ d.fget RIND_FRAME_NUMBER_FRAME_NUMBER → c.ended = false →
      c.dests = [] →
      let out := d.capHeader c ++ c.data.flatten ++ c.bitmap
      let base := 0x1000 * d.fget VAT_CURD_AREA_BASE_4K + 64 * d.fget VAT_CURD_PTR_WR
      64 * d.fget VAT_CURD_PTR_WR + out.length < 64 * d.storeUnits → (∀ v ∈ out, v < 256) →
      Does .curdCaptureComplete s (fun e => e.curd.queue = r ∧ Counts d e VAT_CURD_COUNT_CAPTURES 1 ∧
        (c.store = false → e.mem = d.mem ∧ e.rget VAT_CURD_PTR = d.rget VAT_CURD_PTR) ∧
        (c.store = true → e.fget VAT_CURD_PTR_WR = d.fget VAT_CURD_PTR_WR + out.length / 64 ∧ e.fget VAT_CURD_PTR_RD = d.fget VAT_CURD_PTR_RD ∧
          (∀ i < out.length, memGet e.mem (base + i) = out.getD i 0) ∧
          ∀ a, (a < base ∨ base + out.length ≤ a) → memGet e.mem a = memGet d.mem a)))

/-- R212, R215, R219, R224, R237 to R239, R244: the commands on the curd's registers, ignored while the device does not answer:
a rule's fields are set and its window clamped; ENABLE is set where the store lies in a curd region and else refused with
BAD_STORE; the store is set, and emptied, while the engine is disabled; RD advances within the ring up to WR; the counters
are cleared. A wake makes the memories of its domain awake. -/
def Obligations.CurdRegistersAndMemoryWake : Prop :=
  ∀ (s : State) (k w m : Nat),
    let d := s.dev
    k < 16 → w < 2 ^ 64 → m < 20 →
    (d.ready = false → exec (.curdEnableWrite true) s = .next s ∧ exec .curdCountClear s = .next s ∧
      exec (.curdAreaWrite w) s = .next s ∧ exec (.curdRdWrite w) s = .next s ∧ exec (.curdRuleWrite k w) s = .next s) ∧
    (d.ready = true →
      Does (.curdEnableWrite false) s (fun e => e.flag VAT_CURD_CTRL_ENABLE = false ∧ RegsBut [VAT_CURD_CTRL] d e ∧ Apart e d) ∧
      (d.storeOk = true → Does (.curdEnableWrite true) s (fun e => e.flag VAT_CURD_CTRL_ENABLE = true ∧
        e.flag VAT_CURD_CTRL_BAD_STORE = false ∧ RegsBut [VAT_CURD_CTRL] d e ∧ Apart e d)) ∧
      (d.storeOk = false → Does (.curdEnableWrite true) s (fun e => e.flag VAT_CURD_CTRL_ENABLE = d.flag VAT_CURD_CTRL_ENABLE ∧
        e.flag VAT_CURD_CTRL_BAD_STORE = true ∧ RegsBut [VAT_CURD_CTRL] d e ∧ Apart e d)) ∧
      Does .curdCountClear s (fun e => Cleared d e VAT_CURD_STAT_TRUNCATED ∧ Cleared d e VAT_CURD_STAT_LOST_FRAMES ∧
        Cleared d e VAT_CURD_STAT_STORE_FULL ∧ Cleared d e VAT_CURD_STAT_QUEUE_FULL ∧ Cleared d e VAT_CURD_COUNT_CAPTURES ∧
        RegsBut [VAT_CURD_STAT, VAT_CURD_COUNT] d e ∧ Apart e d) ∧
      (d.flag VAT_CURD_CTRL_ENABLE = true → exec (.curdAreaWrite w) s = .next s) ∧
      (d.flag VAT_CURD_CTRL_ENABLE = false → Does (.curdAreaWrite w) s (fun e =>
        e.fget VAT_CURD_AREA_BASE_4K = w % 2 ^ 25 ∧ e.fget VAT_CURD_AREA_SIZE_4K = w / 2 ^ 25 % 2 ^ 25 ∧
        e.fget VAT_CURD_PTR_WR = 0 ∧ e.fget VAT_CURD_PTR_RD = 0 ∧ RegsBut [VAT_CURD_AREA, VAT_CURD_PTR] d e ∧ Apart e d)) ∧
      (let rd := w / 2 ^ 32 % 2 ^ 31
       let n := 64 * d.fget VAT_CURD_AREA_SIZE_4K
       let old := d.fget VAT_CURD_PTR_RD
       (rd < n → old < n → (rd + n - old) % n ≤ (d.fget VAT_CURD_PTR_WR + n - old) % n →
         Does (.curdRdWrite w) s (fun e => e.fget VAT_CURD_PTR_RD = rd ∧ e.fget VAT_CURD_PTR_WR = d.fget VAT_CURD_PTR_WR ∧
           RegsBut [VAT_CURD_PTR] d e ∧ Apart e d)) ∧
       (n ≤ rd ∨ (d.fget VAT_CURD_PTR_WR + n - old) % n < (rd + n - old) % n → exec (.curdRdWrite w) s = .next s)) ∧
      Does (.curdRuleWrite k w) s (fun e =>
        e.fget (VAT_CURD_RULE_POST_FRAMES k) = min (w / 2 ^ 38 % 2 ^ 14) d.curdClamp ∧
        e.fget (VAT_CURD_RULE_PRE_FRAMES k) = min (w / 2 ^ 24 % 2 ^ 14) d.curdClamp ∧
        e.fget (VAT_CURD_RULE_LINE_MASK k) = w / 2 ^ 8 % 2 ^ 16 ∧ e.fget (VAT_CURD_RULE_TO_STORE k) = w / 2 ^ 4 % 2 ∧
        e.fget (VAT_CURD_RULE_STREAM k) = w / 2 % 2 ^ 3 ∧ e.fget (VAT_CURD_RULE_ENABLE k) = w % 2 ∧
        e.flag (VAT_CURD_RULE_CLAMPED k) = decide (d.curdClamp < w / 2 ^ 38 % 2 ^ 14 ∨ d.curdClamp < w / 2 ^ 24 % 2 ^ 14) ∧
        RegsBut [VAT_CURD_RULE k] d e ∧ Apart e d)) ∧
    (d.dom m = dsOn → d.arming = false → Does (.memoryWake m) s (fun e =>
      (m < 16 → (∀ b ∈ domainBlocks m, e.flag (BLK_MU_STATUS_RETAINED b) = false) ∧
        RegsBut ((domainBlocks m).map BLK_MU_STATUS) d e) ∧
      (16 ≤ m → bitAt (e.fget VAT_STATUS_DIE_AWAKE) (m - 16) = true ∧ bitAt (e.fget VAT_STATUS_DIE_RETAINED) (m - 16) = false ∧
        RegsBut [VAT_STATUS] d e) ∧ Apart e d)) ∧
    (d.dom m ≠ dsOn → d.arming = false → exec (.memoryWake m) s = .next s)

/-! ## The run-control engine -/

/-- R273 to R276, R279, R280, R286: GRAPH_SUBMIT refuses with a code or brings a graph into flight in the lowest free slot, every
task waiting; TASK_DISPATCH skips a task or lets it run; a no-operation is done at once; an abort gives every task that has not
started ABORTED, and the graph stays in flight while one runs. -/
def Obligations.GraphsAreSubmittedDispatchedAndAborted : Prop :=
  ∀ (s : State) (tag tasks slot idx : Nat),
    let d := s.dev
    let a := 64 * d.fget RCE_SUBMIT_ADDR_ADDR
    tag < 2 ^ 16 → slot < 16 → idx < 4096 →
    (d.ready = false → exec (.graphSubmit tag tasks) s = .next s ∧ exec (.graphAbort slot) s = .next s) ∧
    (d.ready = true →
      let refused (code : Nat) : Prop := Does (.graphSubmit tag tasks) s (fun e => e.fget RCE_SUBMIT_RESULT_CODE = code ∧
        e.fget RCE_SUBMIT_RESULT_SLOT = d.fget RCE_SUBMIT_RESULT_SLOT ∧ RegsBut [RCE_SUBMIT_RESULT] d e ∧ Apart e d)
      let formed : Prop := ∀ k < tasks, descriptorOk (d.bytes (a + 64 * k) 64) k = true
      let full : Prop := ∀ k < 15, d.graph k ≠ none
      (tasks = 0 ∨ 4096 < tasks → refused 2) ∧
      (1 ≤ tasks → tasks ≤ 4096 → lpSize < a + 64 * tasks → refused 3) ∧
      (1 ≤ tasks → tasks ≤ 4096 → a + 64 * tasks ≤ lpSize → full → refused 1) ∧
      (1 ≤ tasks → tasks ≤ 4096 → a + 64 * tasks ≤ lpSize → ¬ full → ¬ formed → refused 2) ∧
      (1 ≤ tasks → tasks ≤ 4096 → a + 64 * tasks ≤ lpSize → formed → slot < 15 → d.graph slot = none → (∀ k < slot, d.graph k ≠ none) →
        Does (.graphSubmit tag tasks) s (fun e => e.fget RCE_SUBMIT_RESULT_CODE = 0 ∧ e.fget RCE_SUBMIT_RESULT_SLOT = slot ∧
          e.graph slot = some ⟨a, tasks, tag, false, List.replicate tasks 0, d.rce.nextOrder⟩ ∧ (∀ k, k ≠ slot → e.graph k = d.graph k) ∧
          e.fget (RCE_GRAPH_TAG slot) = tag ∧ e.fget (RCE_GRAPH_STATE slot) = 1 ∧
          (∀ k < tasks, ∀ j < 4, memGet e.mem (a + 64 * k + 0x38 + j) = 0) ∧
          (∀ m, (∀ k < tasks, m < a + 64 * k + 0x38 ∨ a + 64 * k + 0x3C ≤ m) → memGet e.mem m = memGet d.mem m) ∧
          e.out = d.out ++ (List.range tasks).flatMap (fun k => d.invalidated (a + 64 * k + 0x38) 4) ∧
          RegsBut [RCE_SUBMIT_RESULT, RCE_GRAPH slot, RCE_STATUS] d e ∧
          e = { d with
                mem := e.mem
                out := e.out
                regs := e.regs
                rce := { d.rce with graphs := e.rce.graphs, nextOrder := d.rce.nextOrder + 1 } }))) ∧
    (d.rce.dead = false → d.taskStatus slot idx = 0 →
      ((∃ k ∈ d.taskPreds slot idx, d.taskStatus slot k < 2) → exec (.taskDispatch slot idx) s = .next s) ∧
      ((∀ k ∈ d.taskPreds slot idx, 2 ≤ d.taskStatus slot k) →
        (d.taskContinues slot idx = false → (∃ k ∈ d.taskPreds slot idx, d.taskStatus slot k ≠ 2) →
          TaskFails (.taskDispatch slot idx) s slot idx 4 0) ∧
        (d.taskContinues slot idx = true ∨ (∀ k ∈ d.taskPreds slot idx, d.taskStatus slot k = 2) →
          (d.mayRun slot idx = false → exec (.taskDispatch slot idx) s = .next s) ∧
          (d.mayRun slot idx = true → Does (.taskDispatch slot idx) s (fun e => e.taskStatus slot idx = 1 ∧
            (∀ k, k ≠ idx → e.taskStatus slot k = d.taskStatus slot k) ∧ Stored (d.descAt slot idx + 0x38) 4 1 d e ∧
            RegsBut [RCE_GRAPH slot, RCE_STATUS] d e ∧
            e = { d with
                  mem := e.mem
                  out := d.out ++ d.invalidated (d.descAt slot idx + 0x38) 4
                  regs := e.regs
                  rce := { d.rce with graphs := e.rce.graphs } }))))) ∧
    (d.taskBegins slot idx 12 = true → TaskDone (.taskNop slot idx) s slot idx 0 (fun b => b = d)) ∧
    (d.ready = true → ∀ g, d.graph slot = some g → g.status.length = g.tasks → (∃ x ∈ g.status, x = 1) → d.host.mbox.attests = [] →
      Does (.graphAbort slot) s (fun e =>
        e.graph slot = some { g with aborting := true, status := g.status.map (fun x => if x = 0 then 6 else x) } ∧
        (∀ k, k ≠ slot → e.graph k = d.graph k) ∧ e.fget (RCE_GRAPH_STATE slot) = 3 ∧
        (∀ i, g.status[i]? = some 0 → ∀ k < 8, memGet e.mem (g.addr + 64 * i + 0x38 + k) = 6 / 256 ^ k % 256) ∧
        (∀ m, (∀ i, g.status[i]? = some 0 → m < g.addr + 64 * i + 0x38 ∨ g.addr + 64 * i + 0x40 ≤ m) → memGet e.mem m = memGet d.mem m) ∧
        RegsBut [RCE_GRAPH slot, RCE_STATUS] d e ∧ e.said = d.said ∧
        e = { d with
              mem := e.mem
              out := e.out
              regs := e.regs
              rce := { d.rce with graphs := e.rce.graphs, waits := e.rce.waits } }))

/-- R265, R266, R269, R276, R308: LOAD of an image that is accepted leaves the device LOADED with it; UNLOAD leaves it IDLE without
one; ARM of a checked run with every memory awake leaves it ARMED under the task's RUN_CTX, with nothing stamped, and waits for
memories that are not awake, and one that fails leaves the state and the banks as they were; START arms entry 255 at boundary 0 and the REL entries, and waits for the boundary; STOP sends
a run to QUIESCING and waits, and ends an ARMED run at once. A run task in another run state ends as WRONG_STATE. -/
def Obligations.RunTasksLoadArmStartAndStop : Prop :=
  ∀ (s : State) (slot idx : Nat),
    let d := s.dev
    let arg (pos size : Nat) : Nat := d.taskArg slot idx pos size
    slot < 16 → idx < 4096 →
    (d.taskBegins slot idx 1 = true →
      (d.runState ≠ stIdle → TaskFails (.load slot idx) s slot idx 5 0) ∧
      (d.runState = stIdle → arg 0 8 + arg 8 8 ≤ lpSize → ∀ im x regions c,
        d.loadCheck (d.bytes (arg 0 8) (arg 8 8)) (arg 0x10 2) = .good im x regions c →
        TaskDone (.load slot idx) s slot idx 0 (fun b => b.runState = stLoaded ∧ b.rce.image = some im ∧ b.rce.placed = x.choice ∧
          b.rce.regions = regions ∧ b.flag FAB_STATUS_CFG_LOCKED = true ∧ b.fget RCE_LOAD_RESULT_CODE = 0 ∧
          b.fget RIND_FRAME_PERIOD_PERIOD_TICKS = im.period % 2 ^ RIND_FRAME_PERIOD_PERIOD_TICKS.width ∧
          (∀ k < 8, b.flag (RIND_STREAM_CFG_ENABLED k) = bitAt im.streams k) ∧
          b.rind = d.rind ∧ b.led = d.led ∧ b.curd = d.curd ∧ b.ports = d.ports ∧ b.host = d.host ∧ b.out = d.out ∧ b.tick = d.tick))) ∧
    (d.taskBegins slot idx 2 = true →
      (d.runState ≠ stLoaded → d.runState ≠ stDrained → TaskFails (.unload slot idx) s slot idx 5 0) ∧
      (d.runState = stLoaded ∨ d.runState = stDrained →
        TaskDone (.unload slot idx) s slot idx 0 (fun b => b.runState = stIdle ∧ b.rce.image = none ∧ b.rce.placed = [] ∧
          b.flag FAB_STATUS_CFG_LOCKED = false ∧ b.fget RIND_FRAME_PERIOD_PERIOD_TICKS = 0 ∧
          (∀ k < 8, b.flag (RIND_STREAM_CFG_ENABLED k) = false) ∧ (∀ i < 128, b.sch i = {}) ∧ (∀ i, 128 ≤ i → b.sch i = d.sch i) ∧
          b.rind = d.rind ∧ b.led = d.led ∧ b.curd = d.curd ∧ b.ports = d.ports ∧ b.mem = d.mem ∧ b.out = d.out ∧ b.tick = d.tick))) ∧
    (d.taskBegins slot idx 3 = true →
      (d.runState ≠ stLoaded ∧ d.runState ≠ stDrained ∨ d.flag PWR_STATUS_HOT_LOCK = true → TaskFails (.arm slot idx) s slot idx 5 0) ∧
      (d.runState = stLoaded ∨ d.runState = stDrained → d.flag PWR_STATUS_HOT_LOCK = false → d.tableOk (arg 8 8) = true →
        d.tableOk (arg 0x10 8) = true → ∀ im, d.rce.image = some im → d.armErr im = none → (∀ w ∈ d.rce.waits, w.2.2 ≠ .awake) →
        let w := (d.await slot idx .awake).domainsFollow
        (w.allAwake = false → Does (.arm slot idx) s (fun e => TaskWaits d slot idx .awake e ∧ e.runState = d.runState)) ∧
        (w.allAwake = true →
          (w.armSteps im (w.taskArg slot idx 0 4) (w.taskArg slot idx 8 8) (w.taskArg slot idx 0x10 8)).2 = none →
          TaskDone (.arm slot idx) s slot idx 0 (fun b => b.runState = stArmed ∧ b.fget RCE_RUN_CTX_RUN_CTX = w.taskArg slot idx 0 4 ∧
            b.fget RCE_STATUS_SEGMENTS = 0 ∧ b.flag RIND_FRAME_NUMBER_VALID = false ∧
            (∀ q, (b.stamp q).valid = false ∧ (b.stamp q).frame = (d.stamp q).frame) ∧
            b.flag VAT_STATUS_RINGS_VALID = true ∧ (∀ p < 64, b.flag (VAT_RING_INPUT p) = decide (p ∈ im.inputs)) ∧
            b.fget RCE_LOAD_RESULT_CODE = 0 ∧ b.rce.image = some im)) ∧
        (w.allAwake = true → ∀ x,
          (w.armSteps im (w.taskArg slot idx 0 4) (w.taskArg slot idx 8 8) (w.taskArg slot idx 0x10 8)).2 = some x →
          Does (.arm slot idx) s (fun e => e.runState = d.runState ∧ e.fget RCE_LOAD_RESULT_CODE = x.1 % 2 ^ RCE_LOAD_RESULT_CODE.width ∧
            e.rce.installed = d.rce.installed ∧ e.rce.image = some im ∧ e.rind.stamps = d.rind.stamps)))) ∧
    (d.taskBegins slot idx 4 = true →
      let anchor := arg 0 8
      let epoch := arg 8 2
      (d.runState ≠ stArmed → TaskFails (.start slot idx) s slot idx 5 0) ∧
      (d.runState = stArmed → arg 10 1 ≤ 1 → d.flag TU_STATUS_TIME_VALID = true → epochDiff epoch d.epoch = 0 →
        stampDiff (d.ns % 2 ^ 48) (anchor % 2 ^ 48) ≤ 0 →
        Does (.start slot idx) s (fun e => TaskWaits d slot idx .boundary0 e ∧ e.runState = stArmed ∧ e.rind.anchor = anchor ∧
          e.sch 255 = { time := anchor % 2 ^ 48, epoch := epoch, action := 4, policy := arg 10 1 == 1, enable := true, st := 2 } ∧
          (∀ i, i ≠ 255 → (d.sch i).rel = true → (d.sch i).enable = true → stampDiff (d.ns % 2 ^ 48) ((anchor + (d.sch i).off) % 2 ^ 48) ≤ 0 →
            e.sch i = { d.sch i with time := (anchor + (d.sch i).off) % 2 ^ 48, epoch := epoch, st := 2, late := false }) ∧
          (∀ i, i ≠ 255 → (d.sch i).rel = false ∨ (d.sch i).enable = false → rising d.tu.sched = true → e.sch i = d.sch i)))) ∧
    (d.taskBegins slot idx 5 = true →
      (d.runState ≠ stArmed → d.runState ≠ stRunning → d.runState ≠ stBreak → TaskFails (.stop slot idx) s slot idx 5 0) ∧
      (d.runState = stRunning ∨ d.runState = stBreak → d.rce.waits = [] →
        Does (.stop slot idx) s (fun e => TaskWaits d slot idx .drained e ∧ e.runState = stQuiescing ∧
          e.fget RCE_RUN_CTX_PENDING = 0 ∧ e.fget RCE_RUN_CTX_RUN_CTX = d.fget RCE_RUN_CTX_RUN_CTX ∧ RegsBut [RIND_STATUS, RCE_RUN_CTX] d e ∧
          e = { d with
                regs := e.regs
                rind := { d.rind with segments := e.rind.segments }
                rce := { d.rce with waits := e.rce.waits, pendingCtx := none } })) ∧
      (d.runState = stArmed → d.rce.waits = [] →
        Does (.stop slot idx) s (fun e => e.runState = stDrained ∧ (e.sch 255).st = 3 ∧ (slot ≠ 15 → e.taskStatus slot idx = 2))))

/-- R257, R265, R267 to R269, R271, R486, R571: SEGMENT_BREAK holds the break and waits until it is reached; SEGMENT_OPEN releases the
task holds and waits for the boundary, or fails where a weight store holds a failed install; INSTALL in a reached break puts a bank's words into the weight stores of its
targets under a new RUN_CTX; the break is reached once the fabric is flushed and the injected frames are out; a drain that
lasts 1 ms resets the run and leaves it QUIESCING; a run that has drained is DRAINED. -/
def Obligations.BreaksInstallsAndDrains : Prop :=
  ∀ (s : State) (slot idx : Nat),
    let d := s.dev
    slot < 16 → idx < 4096 →
    (d.taskBegins slot idx 6 = true →
      (d.runState ≠ stRunning → d.runState ≠ stBreak → TaskFails (.segmentBreak slot idx) s slot idx 5 0) ∧
      (d.runState = stRunning ∨ d.runState = stBreak → d.rce.broken = false →
        Does (.segmentBreak slot idx) s (fun e => TaskWaits d slot idx .breakReached e ∧ e.runState = stBreak ∧
          e.rce.taskHolds = d.rce.taskHolds + 1 ∧ RegsBut [RIND_STATUS] d e ∧
          e = { d with
                regs := e.regs
                rind := { d.rind with segments := e.rind.segments }
                rce := { d.rce with waits := e.rce.waits, taskHolds := e.rce.taskHolds } })) ∧
      (d.runState = stBreak → d.rce.broken = true → TaskDone (.segmentBreak slot idx) s slot idx 0 (fun b =>
        b = { d with rce := { d.rce with taskHolds := d.rce.taskHolds + 1 } }))) ∧
    (d.taskBegins slot idx 7 = true →
      (d.runState ≠ stBreak → TaskFails (.segmentOpen slot idx) s slot idx 5 0) ∧
      (d.runState = stBreak → d.fab.unset ≠ [] → Does (.segmentOpen slot idx) s (fun e =>
        TaskOver slot idx 3 0 { d with rce := { d.rce with taskHolds := 0 } } e)) ∧
      (d.runState = stBreak → d.fab.unset = [] → Does (.segmentOpen slot idx) s (fun e =>
        e = { d with rce := { d.rce with taskHolds := 0, waits := d.rce.waits ++ [(slot, idx, .segmentOpen)] } }))) ∧
    (d.taskBegins slot idx 8 = true → d.runState = stBreak → d.rce.broken = true →
      let ctx := d.taskArg slot idx 0x10 4
      let w := d.taskArg slot idx 0 2
      ctx ≠ d.fget RCE_RUN_CTX_RUN_CTX → ∀ im bank ts, d.rce.image = some im → d.installable im w (d.taskArg slot idx 8 8) = some bank →
      d.bankTargets bank.addr = some ts → inLpddr bank.addr bank.length = true → d.bankOk bank.addr = true → bank.length = d.bankLength bank.addr →
      let at_ (t : BankTarget) : Nat := targetAddr (d.targetUnit im t.block t.vu) t
      let words (b : Dev) : Prop :=
        (∀ l t r, ts = l ++ t :: r → ∀ n < 256 * t.count, (∀ u ∈ r, at_ t + n < at_ u ∨ at_ u + 256 * u.count ≤ at_ t + n) →
          memGet b.mem (at_ t + n) = memGet d.mem (bank.addr + 64 + 8 * ts.length + 256 * targetWords l + n)) ∧
        (∀ m, (∀ u ∈ ts, m < at_ u ∨ at_ u + 256 * u.count ≤ m) → memGet b.mem m = memGet d.mem m)
      (d.bankDigest bank.addr bank.length = bank.digest → TaskDone (.install slot idx) s slot idx 0 (fun b => words b ∧
        b.rce.pendingCtx = some ctx ∧ b.fget RCE_RUN_CTX_PENDING = ctx ∧ pget b.rce.installed w = some bank ∧
        (∀ t ∈ ts, d.targetUnit im t.block t.vu ∉ b.fab.unset) ∧ RegsBut [RCE_RUN_CTX] d b ∧
        b = { d with
              mem := b.mem
              regs := b.regs
              fab := { d.fab with unset := b.fab.unset, badLocs := b.fab.badLocs }
              rce := { d.rce with pendingCtx := b.rce.pendingCtx, installed := b.rce.installed } })) ∧
      (d.bankDigest bank.addr bank.length ≠ bank.digest → Does (.install slot idx) s (fun e => ∃ b, words b ∧
        (∀ t ∈ ts, d.targetUnit im t.block t.vu ∈ b.fab.unset) ∧ b.rce = d.rce ∧ TaskOver slot idx 3 0x1A b e))) ∧
    (d.runState = stBreak → d.rce.broken = false → d.flag FAB_STATUS_FLUSHED = true → d.injectedOut = true →
      (d.waiters .breakReached = [] → Does .breakReached s (fun e => e = { d with rce := { d.rce with broken := true, timeoutHold := false } })) ∧
      (d.waiters .breakReached = [(slot, idx)] → d.graph slot ≠ none → TaskDone .breakReached s slot idx 0 (fun b =>
        b = { d with rce := { d.rce with broken := true, timeoutHold := false } }))) ∧
    (d.runState ≠ stBreak ∨ d.rce.broken = true ∨ d.flag FAB_STATUS_FLUSHED = false ∨ d.injectedOut = false →
      exec .breakReached s = .next s) ∧
    (∀ t, d.rce.closedTick = some t → d.runState = stBreak ∨ d.runState = stQuiescing → d.flag FAB_STATUS_FLUSHED = false →
      d.rce.resetDone = false → Does .drainTimeout s (fun e => e.tick = max d.tick (t + 800000) ∧ e.runState = stQuiescing ∧
        e.flag RCE_STATUS_DRAIN_FAILED = true ∧ e.rce.resetDone = true ∧ (∀ q, e.tokens q = []) ∧ (∀ o, e.stageOf o = none) ∧
        e.fab.firings = [] ∧ (∀ x ∈ d.fab.firings, e.flag (BLK_TILE_STATE_FIRING (unitWhere x.1) (unitIndex x.1)) = false) ∧
        e.fab.ingress = [] ∧ e.fab.lookback = [] ∧ e.fab.agus = [] ∧ e.fab.dq = [] ∧ e.rind.stamps = d.rind.stamps ∧
        e.fab.failed = d.fab.failed)) ∧
    (d.runState = stQuiescing → d.flag FAB_STATUS_FLUSHED = true ∨ d.rce.resetDone = true → d.stampedOut = true →
      Does .drainedReached s (fun e => e.runState = stDrained ∧ e.flag RIND_STATUS_SEQ_RUNNING = false ∧ e.rce.broken = false ∧
        e.rce.taskHolds = 0 ∧ e.rce.fwHold = false ∧ e.rce.timeoutHold = false ∧ (∀ g ∈ e.rind.segments, g.ended = true) ∧
        (∀ x ∈ e.rind.stamps, x.2.valid = true → x.2.retired = true) ∧ e.fab.probes = [] ∧ e.waiters .drained = [])) ∧
    (d.runState ≠ stQuiescing ∨ d.flag FAB_STATUS_FLUSHED = false ∧ d.rce.resetDone = false ∨ d.stampedOut = false →
      exec .drainedReached s = .next s)

/-- R225 to R227, R257, R276, R480, R487 to R489: REGISTER_BANK enters a well-formed bank of a bank region into the library; COPY copies
bytes as they stood, words of the vat that failed every read as zeros (log entry 144: the model's reading of R206); a destructive
MARCH leaves the memory zero, a preserving one changes no word but those found failed in remapped rows, failing rows enter the
repair map and more than 16 fail an MU, any fails a tile or VU; SNAPSHOT latches and waits; SCAN_OUT writes the records of the blocks, and SCAN_IN of well-formed
records sets the state of their units, each losing its state in the ledger. -/
def Obligations.ServiceTasksComplete : Prop :=
  ∀ (s : State) (slot idx : Nat) (rows words bad : List Nat),
    let d := s.dev
    let arg (pos size : Nat) : Nat := d.taskArg slot idx pos size
    slot < 16 → idx < 4096 →
    (d.taskBegins slot idx 9 = true →
      let a := arg 0 8
      let ok : Prop := d.inRegion [3] a 64 = true ∧ d.bankOk a = true ∧ d.inRegion [3] a (d.bankLength a) = true
      (¬ ok → TaskFails (.registerBank slot idx) s slot idx 3 2) ∧
      (ok → (∀ x ∈ d.rce.library, x.bank ≠ d.leMem (a + 8) 8) → 1024 ≤ d.rce.library.length → TaskFails (.registerBank slot idx) s slot idx 3 1) ∧
      (ok → (∃ x ∈ d.rce.library, x.bank = d.leMem (a + 8) 8) ∨ d.rce.library.length < 1024 → TaskDone (.registerBank slot idx) s slot idx 0 (fun b =>
        b.bank? (d.leMem (a + 8) 8) = some ⟨d.leMem (a + 8) 8, a, d.bankLength a, d.bankDigest a (d.bankLength a), d.layoutDigest a⟩ ∧
        (∀ n, n ≠ d.leMem (a + 8) 8 → b.bank? n = d.bank? n) ∧ b = { d with rce := { d.rce with library := b.rce.library } }))) ∧
    (d.taskBegins slot idx 11 = true →
      let a := arg 0 8
      let c := arg 8 8
      let n := arg 0x10 8
      ∀ rereads, let run : CopyRun := ⟨idx, rereads, bad⟩
      let lost (k : Nat) : Prop := k < n / 64 ∧ k ∈ bad ∧ inVat (a + 64 * k) = true
      (d.rangeOk false a n = false ∨ d.rangeOk true c n = false → TaskFails (.copy slot run) s slot idx 7 0) ∧
      (d.rangeOk false a n = true → d.rangeOk true c n = true → Memory.wf d.mem = true →
        TaskDone (.copy slot run) s slot idx 0 (fun b => (∀ k < n, (lost (k / 64) → memGet b.mem (c + k) = 0) ∧
            (¬ lost (k / 64) → memGet b.mem (c + k) = memGet d.mem (a + k))) ∧
          (∀ m, m < c ∨ c + n ≤ m → memGet b.mem m = memGet d.mem m) ∧
          (inVat a = true → inVat (a + n - 1) = true → Counts d b VAT_ERR_REREAD rereads) ∧
          (inVat a = false → inVat (a + n - 1) = false → b.rget VAT_ERR = d.rget VAT_ERR) ∧ RegsBut [VAT_ERR] d b ∧
          Apart b { d with mem := b.mem, out := d.out ++ d.invalidated c n }))) ∧
    (d.taskBegins slot idx 10 = true →
      let u := arg 0 4
      let mode := arg 4 1
      let n := rows.eraseDups.length
      let map := d.repairMap u ++ rows.eraseDups.filter (fun r => !(d.repairMap u).contains r)
      u < 2 ^ 24 → marchable u = true → mode ≤ 1 →
      (d.marchAllowed u mode = false → TaskFails (.march slot idx ⟨rows, words⟩) s slot idx 5 0) ∧
      (d.marchAllowed u mode = true → TaskDone (.march slot idx ⟨rows, words⟩) s slot idx n (fun b =>
        (mode = 0 → u ∉ b.pwr.needMarch) ∧ (mode = 1 → b.pwr.needMarch = d.pwr.needMarch) ∧
        (unitClass u = 0 ∨ unitClass u = 1 ∨ unitClass u = 7 →
          (rows = [] → b.fab.failed = d.fab.failed) ∧ (rows ≠ [] → u ∈ b.fab.failed) ∧
          (mode = 1 → b.mem = d.mem) ∧
          (mode = 0 → unitClass u ≠ 0 → ∀ k < 0x10000, memGet b.mem (vuStore u + k) = 0)) ∧
        (unitClass u = 2 →
          b.repairMap u = map ∧ b.fget (BLK_MU_STATUS_ROWS_MAPPED (unitWhere u)) = min map.length 16 ∧
          (map.length ≤ 16 → b.fab.failed = d.fab.failed) ∧
          (16 < map.length → d.flag (BLK_MU_STATUS_SPARES_EXHAUSTED (unitWhere u)) = false → u ∈ b.fab.failed ∧
            b.flag (BLK_MU_STATUS_SPARES_EXHAUSTED (unitWhere u)) = true ∧ b.flag (BLK_MU_STATUS_FAILED (unitWhere u)) = true) ∧
          (mode = 0 → ∀ k < 0x80000, memGet b.mem (blkMem (unitWhere u) + k) = 0) ∧
          (mode = 1 → ∀ m, (∀ w, w ∈ words ∨ w ∈ (d.badLocs u).map Prod.fst → w / 8 ∈ rows → w < 7680 →
            m < blkMem (unitWhere u) + 64 * w ∨ blkMem (unitWhere u) + 64 * w + 64 ≤ m) → memGet b.mem m = memGet d.mem m))))) ∧
    (d.taskBegins slot idx 0x110 = true →
      let sel := arg 0 1
      (¬ (1 ≤ sel ∧ sel < 32) → TaskFails (.snapshot slot idx) s slot idx 7 0) ∧
      (1 ≤ sel → sel < 32 → d.snapArea = true → d.snapAreaOk = true → d.obs.latched = none →
        Does (.snapshot slot idx) s (fun e => TaskWaits d slot idx .snapshot e ∧ e.flag FAB_SNAP_STATUS_BUSY = true ∧
          e.obs.latched = some ⟨sel, 2, 0, d.tick, d.snapHead 2 0, (onesOf 5 sel).map (fun k => (k, d.sectionBytes k)), [(slot, idx)]⟩ ∧
          RegsBut [FAB_SNAP_STATUS] d e ∧ e = { d with
            regs := e.regs
            obs := { d.obs with latched := e.obs.latched }
            rce := { d.rce with waits := e.rce.waits } }))) ∧
    (d.scanBegins slot idx 0x111 = true →
      let dest := arg 0 8
      let mask := arg 0x10 8
      let r := d.blockRecords (bitAt (arg 0x18 1) 0) bad 0 (d.scanBlocks mask)
      (¬ (d.runState = stLoaded ∨ d.runState = stArmed ∨ d.runState = stBreak ∨ d.runState = stDrained) →
        TaskFails (.scanOut slot idx bad) s slot idx 5 0) ∧
      (d.runState = stLoaded ∨ d.runState = stArmed ∨ d.runState = stDrained ∨ d.runState = stBreak ∧ d.rce.broken = true →
        r.1.length ≤ arg 8 8 → d.inRegion [1] dest r.1.length = true → mask = 0 ∨ mask + 32 ≤ lpSize →
        TaskDone (.scanOut slot idx bad) s slot idx r.2 (fun b => (∀ k < r.1.length, memGet b.mem (dest + k) = r.1.getD k 0 % 256) ∧
          (∀ m, m < dest ∨ dest + r.1.length ≤ m → memGet b.mem m = memGet d.mem m) ∧
          b = { d with mem := b.mem, out := d.out ++ d.invalidated dest r.1.length })) ∧
      (d.runState = stBreak → d.rce.broken = false → (slot, idx, .scan) ∉ d.rce.waits →
        Does (.scanOut slot idx bad) s (fun e => e = { d with rce := { d.rce with waits := d.rce.waits ++ [(slot, idx, .scan)] } }))) ∧
    (d.scanBegins slot idx 0x112 = true →
      let src := arg 0 8
      let len := arg 8 8
      (d.runState ≠ stBreak → TaskFails (.scanIn slot idx) s slot idx 5 0) ∧
      (d.runState = stBreak → d.rce.broken = true → (slot, idx, .scan) ∉ d.rce.waits → src + len ≤ lpSize →
        ∀ us, d.parseScan (len / 32) (d.bytes src len) = some us →
        TaskDone (.scanIn slot idx) s slot idx us.length (fun b => b = d.each us (fun x e => (x.scanUnit e.1 e.2).stateLost e.1))) ∧
      (d.runState = stBreak → d.rce.broken = false → (slot, idx, .scan) ∉ d.rce.waits →
        Does (.scanIn slot idx) s (fun e => e = { d with rce := { d.rce with
          waits := d.rce.waits ++ [(slot, idx, .scan)], scanHolds := d.rce.scanHolds + 1 } }))) ∧
    (∀ u bs i, u < 2 ^ 24 → let v (i : Nat) : Nat := leAt bs (8 * i) 8
      let b := unitWhere u
      let t := unitIndex u
      let e := d.scanUnit u bs
      (unitClass u = 0 → (∀ k, e.p ⟨b, t⟩ k = (decide (k < 4) && (v 0).testBit (32 + k))) ∧
        e.fget (BLK_TILE_STATE_NEXT_DESC b t) = v 0 / 2 ^ 4 % 4 ∧
        (i < 16 → (e.g ⟨b, t⟩ i).toNat = v (1 + i) % 2 ^ 32) ∧ (i < 4 → e.cnt ⟨b, t⟩ i = v 17 / 2 ^ (16 * i) % 2 ^ 16) ∧
        (i < 256 → e.lutAt ⟨b, t⟩ i = v (18 + i / 4) / 2 ^ (16 * (i % 4)) % 2 ^ 16)) ∧
      (unitClass u = 2 → i < 2 → e.fget (BLK_MU_AGU_ADDR_PTR b i) = v (1 + i) / 2 ^ 32 % 2 ^ 17) ∧
      (unitClass u = 1 ∨ unitClass u = 7 → i < 4 → e.fget (BLK_VU_S2_S2 (vuWindow u) i) = v (1 + i) % 2 ^ 16 ∧
        e.fget (BLK_VU_S2_LIM_FLOOR_RUN (vuWindow u) i) = v (5 + i) / 2 ^ 24 % 2 ^ 4))

/-- R99, R268, R281, R283, R449, R452, R453: at a reached break that firmware recovery holds, RELOCATION moves the figures of failed units
and releases the hold; where no figure uses one nothing moves, and where a figure finds no placement the capacity is lost and
the run quiesces; what a moved tile or VU carries; the watchdog loses the service plane; MARGIN_PCT is at most 50, and
CHAR_QUERY answers with the worst-case turn time. -/
def Obligations.RelocationWatchdogAndRceRegisters : Prop :=
  ∀ (s : State) (fails : List Nat) (bad : List (Nat × Nat)) (v : Nat),
    let d := s.dev
    v < 2 ^ 64 →
    (d.runState ≠ stBreak ∨ d.rce.broken = false ∨ d.rce.fwHold = false → exec (.relocation fails bad) s = .next s) ∧
    (d.runState = stBreak → d.rce.broken = true → d.rce.fwHold = true → ∀ im, d.rce.image = some im →
      (d.listed im = [] → Does (.relocation fails bad) s (fun e => e.rce = { d.rce with fwHold := false } ∧ e.mem = d.mem ∧
        e.fab = d.fab ∧ e.led = d.led ∧ e.runState = stBreak)) ∧
      (∀ f x, d.listed im ≠ [] → Dev.findPlaces im fails (fails.length + 1) d = (f, .inr x) → Does (.relocation fails bad) s (fun e =>
        e.rce.placed = x.choice ∧ e.rce.fwHold = false ∧ e.rce.image = some im ∧ e.runState = stBreak ∧ e.rind.stamps = d.rind.stamps ∧ e.tick = d.tick)) ∧
      (∀ f i, d.listed im ≠ [] → Dev.findPlaces im fails (fails.length + 1) d = (f, .inl i) → Does (.relocation fails bad) s (fun e =>
        e.flag RCE_STATUS_CAPACITY_LOST = true ∧ e.rce.fwHold = false ∧ e.runState = stQuiescing ∧ e.rce.placed = d.rce.placed))) ∧
    (∀ (e : Dev) o n lost i, unitClass o = 0 → unitClass n = 0 →
      let m := e.moveTile d o n lost
      (i < 16 → m.fget (BLK_TILE_GREG_VALUE (unitWhere n) (unitIndex n) i) = if lost.contains i
        then e.fget (BLK_TILE_GREG_VALUE (unitWhere n) (unitIndex n) i) else d.fget (BLK_TILE_GREG_VALUE (unitWhere o) (unitIndex o) i)) ∧
      m.fget (BLK_TILE_STATE_PRED (unitWhere n) (unitIndex n)) = d.fget (BLK_TILE_STATE_PRED (unitWhere o) (unitIndex o)) ∧
      m.fget (BLK_TILE_STATE_NEXT_DESC (unitWhere n) (unitIndex n)) = d.fget (BLK_TILE_STATE_NEXT_DESC (unitWhere o) (unitIndex o))) ∧
    (∀ (e : Dev) o n lost k, isVu o = true → isVu n = true → k < 4 →
      let m := e.moveVu d o n lost
      (lost.contains (256 + k) = false → m.fget (BLK_VU_S2_S2 (vuWindow n) k) = d.fget (BLK_VU_S2_S2 (vuWindow o) k) ∧
        m.fget (BLK_VU_S2_LIM_FLOOR_RUN (vuWindow n) k) = d.fget (BLK_VU_S2_LIM_FLOOR_RUN (vuWindow o) k)) ∧
      (lost.contains (256 + k) = true → m.fget (BLK_VU_S2_S2 (vuWindow n) k) = e.fget (BLK_VU_S2_S2_IMAGE (vuWindow n) k) ∧
        m.fget (BLK_VU_S2_LIM_FLOOR_RUN (vuWindow n) k) = 0) ∧ m.vu n = {}) ∧
    Does .rceWatchdog s (fun e => e = { d with rce := { d.rce with dead := true } }) ∧
    (d.ready = false → exec (.loadCfgWrite v) s = .next s ∧ exec (.charQueryWrite v) s = .next s) ∧
    (d.ready = true →
      Does (.loadCfgWrite v) s (fun e => e.fget RCE_LOAD_CFG_MARGIN_PCT = min 50 (v % 2 ^ 6) ∧ RegsBut [RCE_LOAD_CFG] d e ∧ Apart e d) ∧
      Does (.charQueryWrite v) s (fun e => e.fget RCE_CHAR_QUERY_VFLOOR_MV = v % 2 ^ 16 ∧
        e.fget RCE_CHAR_QUERY_TWC_PS = d.turnAt (v % 2 ^ 16) % 2 ^ RCE_CHAR_QUERY_TWC_PS.width ∧ RegsBut [RCE_CHAR_QUERY] d e ∧ Apart e d))

/-! ## The time unit, the schedule and the trigger signals -/

/-- R287 to R293, R301, R317, R323: TU_TIME_SET sets the time where it is not valid and else announces an epoch; TU_TIME reads latch
the fraction; each PEER interval and each accepted PPS edge updates the servo; a lost source holds it; REVERT returns to the
primary, hitlessly or by an announced epoch. -/
def Obligations.TimeIsSetReadAndDisciplined : Prop :=
  ∀ (s : State) (ns sub : Nat),
    let d := s.dev
    sub < 1250 →
    (d.ready = false ∨ d.selSource = 2 ∨ d.flag TU_STATUS_BASE_LOST = true → exec (.timeSet ns) s = .next s) ∧
    (d.ready = true → d.selSource ≠ 2 → d.flag TU_STATUS_BASE_LOST = false →
      (d.flag TU_STATUS_TIME_VALID = false → (∀ x ∈ d.tu.sched, x.2.st ≠ 4) → Does (.timeSet ns) s (fun e =>
        e.time = ns % 2 ^ 64 * 2 ^ 32 ∧ e.flag TU_STATUS_TIME_VALID = true ∧ RegsBut [TU_STATUS] d e ∧
        e = { d with regs := e.regs, time := e.time })) ∧
      (d.flag TU_STATUS_TIME_VALID = true → Does (.timeSet ns) s (fun e => e.time = d.time ∧ e.flag TU_STATUS_STEP_PENDING = true ∧
        (∃ o, e.tu.openings = d.tu.openings.filter (fun x => !x.own) ++ [o] ∧ o.delta = (ns : Int) - (d.ns : Int) ∧
          o.epoch = (d.epoch + 1) % 2 ^ 16 ∧ o.own = true ∧ o.stepAt = some (d.stepAt % 2 ^ 64)) ∧
        RegsBut [TU_STATUS, TU_STEP_AT, TU_STEP_INFO] d e ∧
        e = { d with regs := e.regs, tu := { d.tu with openings := e.tu.openings } }))) ∧
    (d.ready = false → exec .timeRead s = .next s) ∧
    (d.ready = true → Does .timeRead s (fun e => e.out = d.out ++ [.readData TU_TIME (leBytes 8 d.ns) false] ∧
      e.fget TU_TIME_FRAC_FRAC = d.time % 2 ^ 32 ∧ e.fget TU_TIME_FRAC_EPOCH = d.epoch ∧ RegsBut [TU_TIME_FRAC] d e ∧
      e = { d with regs := e.regs, out := e.out })) ∧
    (d.flag TU_STATUS_BASE_LOST = true → exec .servoUpdate s = .next s ∧ exec (.ppsInEdge sub) s = .next s) ∧
    (d.flag TU_STATUS_BASE_LOST = false → d.tu.source = 2 → d.selSource = 2 → d.flag TU_STATUS_TIME_VALID = true →
      d.flag TU_CTRL_BACKUP_EN = false → d.flag TU_STATUS_ON_BACKUP = false →
      let p := d.fget TU_CTRL_SOURCE_PORT
      d.portGood p = true → (d.portTime p).count ≠ 0 → Does .servoUpdate s (fun e =>
        Servoed d (rndDiv (d.portTime p).sum (d.portTime p).count) 1000 true e ∧ (e.portTime p).count = 0 ∧ (e.portTime p).sum = 0)) ∧
    (d.flag TU_STATUS_BASE_LOST = false → d.tu.source = 1 → d.selSource = 1 →
      let at0 := 1250 * d.tick + sub
      (d.ppsAccepted at0 = false → Does (.ppsInEdge sub) s (fun e => e.flag TU_STATUS_PPS_REJECT = true ∧ RegsBut [TU_STATUS] d e ∧ Apart e d)) ∧
      (d.ppsAccepted at0 = true → Does (.ppsInEdge sub) s (fun e => e.tu.ppsLast = some at0 ∧ e.flag TU_STATUS_SOURCE_LOST = false ∧
        Servoed d (ppsOffset (((d.time * 1000 / 2 ^ 32 + sub) / 10 * 10 : Nat) - d.fint TU_PPS_PPS_OFFSET_PS)) 1000000 true e))) ∧
    (d.tu.source = 2 → ∀ x, pget d.tu.symbols d.sourcePort = some x → Does .sourceLoss s (fun e =>
      e.tick = max d.tick (x.tick + 6401) ∧ SourceLost d e)) ∧
    (d.tu.source = 1 → ∀ l, d.tu.ppsLast = some l → Does .sourceLoss s (fun e =>
      e.tick = max d.tick (l / 1250 + 1200000000) ∧ SourceLost d e)) ∧
    (let p := d.fget TU_CTRL_SOURCE_PORT
     let x := d.portTime p
     let t := max d.tick (x.since + 800000000)
     d.flag TU_CTRL_REVERT = true → d.flag TU_STATUS_ON_BACKUP = true → d.tu.source = 2 → pget d.tu.symbols p = some x →
     x.noSource = false → t ≤ x.tick + 6400 → Does .revertToPrimary s (fun e => e.tick = t ∧
       e.flag TU_STATUS_ON_BACKUP = false ∧ e.flag TU_STATUS_SOURCE_LOST = false ∧
       ((x.epoch + d.fget TU_STATUS_EPOCH_SKEW) % 2 ^ 16 = d.epoch → (d.portOffset p).natAbs ≤ 1000000 → e.tu.openings = d.tu.openings) ∧
       ((x.epoch + d.fget TU_STATUS_EPOCH_SKEW) % 2 ^ 16 ≠ d.epoch ∨ 1000000 < (d.portOffset p).natAbs →
         ∃ o ∈ e.tu.openings, o.own = true ∧ o.delta = -(rndDiv (d.portOffset p) 1000) ∧ o.epoch = (d.epoch + 1) % 2 ^ 16)))

/-- R288, R293 to R295, R297, R299, R300, R315, R326: a time symbol that passes its CRC records what it carries and, from the source, sets
the time at first acquisition, opens an epoch where the epoch differs, or loses the source; time and step symbols as they
are sent; a step symbol makes its step pending; with the sequencer stopped the opening due first takes effect, an unannounced one in
the next tick; RESYNC; the counter clear. On Peust 1 a time or step word is a CONTROL violation. -/
def Obligations.TimeSymbolsStepsAndEpochs : Prop :=
  ∀ (s : State) (p sym rx : Nat) (fixed : Bool),
    let d := s.dev
    let b : RxBlock := ⟨p, fixed⟩
    p < 64 → sym < 2 ^ 256 → rx < 2 ^ 20 →
    (let d := s.dev.received b
    (d.timeLink p = false ∨ d.flag TU_STATUS_BASE_LOST = true → ¬ (d.pstate p = psActive ∧ d.version p = 1) →
      Does (.time b sym rx) s (fun e => e = d) ∧ Does (.step b sym) s (fun e => e = d)) ∧
    (d.pstate p = psActive → d.version p = 1 → Does (.time b sym rx) s (Violated d p 6 0 true) ∧ Does (.step b sym) s (Violated d p 6 0 true)) ∧
    (d.timeLink p = true → d.flag TU_STATUS_BASE_LOST = false →
      (crc16 240 (sym / 2 ^ 16) ≠ sym % 2 ^ 16 →
        Does (.time b sym rx) s (fun e => Counts d e (TU_PORT_TIME_CRC_ERR p) 1 ∧ RegsBut [TU_PORT_TIME p] d e ∧ Apart e d) ∧
        Does (.step b sym) s (fun e => Counts d e (TU_PORT_TIME_CRC_ERR p) 1 ∧ RegsBut [TU_PORT_TIME p] d e ∧ Apart e d)) ∧
      (crc16 240 (sym / 2 ^ 16) = sym % 2 ^ 16 →
        let epoch := sym / 2 ^ 32 % 2 ^ 16
        let skew := d.fget TU_STATUS_EPOCH_SKEW
        let mine := (epoch + skew) % 2 ^ 16
        let t3 := sym / 2 ^ 176
        let t4 := stampUnits d.time (-(rx : Int) - d.fint (TU_PORT_COMP_RX_FIXED_PS p))
        let path2 := if sym.testBit 19 then pathTwice (sym / 2 ^ 112 % 2 ^ 64) (sym / 2 ^ 48 % 2 ^ 64) t3 t4
          else 2 * psUnits (d.fint (TU_PORT_TIME_PATH_PS p))
        let off := offsetPs t3 t4 path2 (d.fint (TU_PORT_COMP_FIBRE_ASYM_PS p)) + ((d.pendingDelta mine).getD 0) * 1000
        let got (e : Dev) : Prop := (e.portTime p).t3 = t3 ∧ (e.portTime p).t2 = t4 ∧ (e.portTime p).tick = d.tick ∧
          (e.portTime p).epoch = epoch ∧ (e.portTime p).hops = sym / 2 ^ 24 % 2 ^ 8 ∧ (e.portTime p).last = off ∧
          e.fget (TU_PORT_TIME_HOPS p) = sym / 2 ^ 24 % 2 ^ 8 ∧ e.tick = d.tick
        (d.flag TU_STATUS_TIME_VALID = false → d.selSource = 2 → p = d.fget TU_CTRL_SOURCE_PORT →
          Does (.time b sym rx) s (fun e => got e ∧ e.time = wrapTo 96 ((d.time : Int) - rndDiv (off * 2 ^ 32) 1000) ∧
            e.flag TU_STATUS_TIME_VALID = true ∧ e.fget RIND_STATUS_EPOCH = epoch ∧ e.tu.openings = d.tu.openings ∧
            e.flag TU_STATUS_SOURCE_LOST = sym.testBit 17)) ∧
        (d.flag TU_STATUS_TIME_VALID = false → d.selSource ≠ 2 ∨ p ≠ d.fget TU_CTRL_SOURCE_PORT → Does (.time b sym rx) s (fun e => got e ∧
          e.time = d.time ∧ e.tu.openings = d.tu.openings ∧ RegsBut [TU_PORT_TIME p] d e)) ∧
        (d.flag TU_STATUS_TIME_VALID = true → d.tu.source = 2 → p = d.sourcePort → Does (.time b sym rx) s (fun e => got e ∧ e.time = d.time ∧
          (sym.testBit 17 = true → SourceLost d e ∧ e.tu.openings = d.tu.openings) ∧
          (sym.testBit 17 = false → mine = d.epoch ∨ (d.pendingDelta mine).isSome = true →
            e.flag TU_STATUS_SOURCE_LOST = false ∧ e.tu.openings = d.tu.openings) ∧
          (sym.testBit 17 = false → mine ≠ d.epoch → d.pendingDelta mine = none →
            if d.flag TU_STATUS_ON_BACKUP = true ∧ d.ownPending = true then e.tu.openings = d.tu.openings
            else ∃ o ∈ e.tu.openings, o.stepAt = none ∧ o.epoch = mine) ∧ e.epoch = d.epoch)) ∧
        (d.flag TU_STATUS_TIME_VALID = true → d.tu.source ≠ 2 ∨ p ≠ d.sourcePort → Does (.time b sym rx) s (fun e => got e ∧
          e.time = d.time ∧ e.tu.openings = d.tu.openings ∧ RegsBut [TU_PORT_TIME p] d e)) ∧
        (d.tu.source = 2 → p = d.sourcePort → (sym / 2 ^ 112 % 2 ^ 16 + skew) % 2 ^ 16 = d.epoch →
          let at0 : Nat := sym / 2 ^ 192
          let delta := sx 64 (wrapTo 64 ((sym / 2 ^ 128 % 2 ^ 64 : Nat) - (at0 : Int)))
          let n : Nat := (sym / 2 ^ 96 % 2 ^ 16 + skew) % 2 ^ 16
          (∀ o ∈ d.tu.openings, ¬ (o.stepAt = some at0 ∧ o.delta = delta ∧ o.epoch = n)) → Does (.step b sym) s (fun e =>
            e.tu.openings = d.tu.openings.filter (fun o => o.stepAt.isNone) ++ [⟨delta, n, some at0, false, sym, none, d.tick⟩] ∧
            e.flag TU_STATUS_STEP_PENDING = true ∧ e.fget TU_STEP_AT_STEP_AT = at0 ∧ e.fget TU_STEP_INFO_NEW_EPOCH = n ∧
            RegsBut [TU_STATUS, TU_STEP_AT, TU_STEP_INFO] d e ∧
            e = { d with regs := e.regs, tu := { d.tu with openings := e.tu.openings } })) ∧
        (d.tu.source ≠ 2 ∨ p ≠ d.sourcePort ∨ (sym / 2 ^ 112 % 2 ^ 16 + skew) % 2 ^ 16 ≠ d.epoch → Does (.step b sym) s (fun e => e = d))))) ∧
    (∀ mark, pget d.tu.marks p = some mark → d.sendsTime p = true → d.flag TU_STATUS_TIME_VALID = true →
      let n := d.symbolOut p mark
      Does (.timeSymbolSend p) s (fun e => e = { d with out := d.out ++ [.timeSymbol p n] }) ∧
      n % 2 ^ 16 = crc16 240 (n / 2 ^ 16) ∧ n / 2 ^ 176 = stampUnits mark (d.fint (TU_PORT_COMP_TX_FIXED_PS p)) ∧
      n / 2 ^ 32 % 2 ^ 16 = d.epoch ∧ n.testBit 20 = d.flag TU_STATUS_STEP_PENDING ∧ n.testBit 18 = decide (d.tu.source ≠ 2) ∧
      n.testBit 17 = d.flag TU_STATUS_SOURCE_LOST ∧ n.testBit 16 = d.flag TU_STATUS_LOCKED ∧ (d.tu.source ≠ 2 → n / 2 ^ 24 % 2 ^ 8 = 0)) ∧
    (d.sendsTime p = true → ∀ o, d.tu.openings.find? (fun o => o.stepAt.isSome) = some o → Does (.stepSymbolSend p) s (fun e =>
      e = { d with out := d.out ++ [.stepSymbol p o.symbol] })) ∧
    (d.flag RIND_STATUS_SEQ_RUNNING = false →
      let at_ (o : Opening) : Nat := max (o.since + 1) (match o.stepAt with
        | none => d.tick
        | some t =>
          let past := stampDiff (d.ns % 2 ^ 48) (t % 2 ^ 48)
          if 0 ≤ past then d.tick else d.tick + ceilDiv ((d.ns + (-past).toNat) * 2 ^ 32 - d.time) d.inc)
      ∀ o ∈ d.tu.openings, (∀ x ∈ d.tu.openings, x ≠ o → at_ o < at_ x) → Does .stepAtReached s (Opened (d.advTo (at_ o)) o)) ∧
    (d.ready = false → exec .resync s = .next s ∧ exec .tuCountClear s = .next s) ∧
    (d.ready = true →
      (¬ (d.selSource = 2 ∧ (d.runState = stIdle ∨ d.runState = stLoaded ∨ d.runState = stDrained)) →
        Does .resync s (fun e => e.flag TU_STATUS_RESYNC_REFUSED = true ∧ RegsBut [TU_STATUS] d e ∧ Apart e d)) ∧
      (d.selSource = 2 → d.runState = stIdle ∨ d.runState = stLoaded ∨ d.runState = stDrained → d.flag TU_STATUS_TIME_VALID = true →
        ∀ x, pget d.tu.symbols d.sourcePort = some x → x.epoch < 2 ^ 16 → (∀ o ∈ d.tu.openings, ¬ (o.stepAt = none ∧ o.epoch = x.epoch)) →
        Does .resync s (fun e => e = { d with tu := { d.tu with openings := d.tu.openings ++
          [⟨-(rndDiv (d.portOffset d.sourcePort) 1000), x.epoch, none, false, 0, some 0, d.tick⟩] } })) ∧
      Does .tuCountClear s (fun e => (∀ i < 8, Cleared d e (TU_TCAP_CFG_OVERFLOW i) ∧ Cleared d e (TU_TCAP_CFG_MISSED i)) ∧
        (∀ q < 64, Cleared d e (TU_PORT_TIME_CRC_ERR q)) ∧ Cleared d e TU_SCHED_STAT_EVENTS_LOST ∧ Cleared d e TU_SCHED_STAT_FIRED ∧
        RegsBut (TU_SCHED_STAT :: (List.range 8).map TU_TCAP_CFG ++ (List.range 64).map TU_PORT_TIME) d e ∧ Apart e d))

/-- R302 to R306, R308, R310, R312, R333 to R336: a host entry that obeys its action's row is committed and arms by its epoch and time,
any other is rejected; READ copies an entry, CANCEL disables one, POP removes an event; an armed entry fires in the first
tick at or after its time, counts, acts, and moves on or is done, and an action without effect is reported. -/
def Obligations.ScheduleEntriesCommitArmAndFire : Prop :=
  ∀ (s : State) (i : Nat),
    let d := s.dev
    let x := d.sch i
    i < 256 →
    (d.ready = false → exec (.schedWrite i) s = .next s ∧ exec (.schedRead i) s = .next s ∧ exec (.schedCancel i) s = .next s ∧
      exec .schedEventPop s = .next s) ∧
    let fires (y : Nat × SchedEntry) : Nat := d.fireTick y.2
    let quiet : Prop := d.flag TU_STATUS_TIME_VALID = true → ∀ y ∈ d.tu.sched, y.2.st = 2 → d.tick < fires y
    (d.ready = true → quiet →
      let n := entryOf (d.rget TU_SCHED_TIME).toNat (d.rget TU_SCHED_PERIOD).toNat (d.rget TU_SCHED_CTRL).toNat
      let ok := entryOk n.action n.arg n.period
      let de := epochDiff n.epoch d.epoch
      let late := stampDiff (d.ns % 2 ^ 48) n.time
      (i < 128 ∨ i = 255 ∨ ok = false → Does (.schedWrite i) s (fun e => e.flag TU_SCHED_SEL_REJECT = true ∧
        e.fget TU_SCHED_SEL_INDEX = i ∧ RegsBut [TU_SCHED_SEL] d e ∧ Apart e d)) ∧
      (128 ≤ i → i ≤ 254 → ok = true →
        let becomes (y : SchedEntry) : Prop := Does (.schedWrite i) s (fun e => EntrySet d i y e ∧ e.fget TU_SCHED_SEL_INDEX = i ∧
          RegsBut [TU_SCHED_SEL] d e ∧ e = { d with regs := e.regs, tu := { d.tu with sched := e.tu.sched } })
        (n.enable = false ∨ n.rel = true → becomes n) ∧
        (n.enable = true → n.rel = false →
          (d.flag TU_STATUS_TIME_VALID = false → becomes { n with st := 4 }) ∧
          (d.flag TU_STATUS_TIME_VALID = true → de = 0 → late ≤ 0 → becomes { n with st := 2, late := false }) ∧
          (d.flag TU_STATUS_TIME_VALID = true → de = 0 → 0 < late → n.policy = true → becomes { n with st := 2, late := true }) ∧
          (d.flag TU_STATUS_TIME_VALID = true → de = 0 → 0 < late → n.policy = false → n.period = 0 →
            Does (.schedWrite i) s (fun e => EntrySet d i { n with st := 0, late := false } e ∧ Reported d 1 i late.toNat e)) ∧
          (d.flag TU_STATUS_TIME_VALID = true → 0 < de → becomes { n with st := 1 }) ∧
          (d.flag TU_STATUS_TIME_VALID = true → de < 0 →
            Does (.schedWrite i) s (fun e => EntrySet d i { n with st := 3, late := false } e ∧ Reported d 4 i 0 e)))) ∧
      (i ≠ 255 → Does (.schedCancel i) s (fun e => EntrySet d i { x with enable := false, st := 3, late := false } e ∧
        e.fget TU_SCHED_SEL_INDEX = i ∧ RegsBut [TU_SCHED_SEL] d e ∧
        e = { d with regs := e.regs, tu := { d.tu with sched := e.tu.sched } })) ∧
      Does (.schedCancel 255) s (fun e => e.sch 255 = { d.sch 255 with enable := false, st := 3, late := false } ∧
        (∀ k, k ≠ 255 → (d.sch k).rel = true → (d.sch k).st ≠ 3 → e.sch k = { d.sch k with st := 0, late := false }) ∧
        e.waiters .boundary0 = [])) ∧
    (∀ k y, d.ready = true → d.flag TU_STATUS_TIME_VALID = true → d.tu.openings = [] → (k, y) ∈ d.tu.sched → y = d.sch k →
      (∀ z ∈ d.tu.sched, z.2.st = 2 → fires z ≤ d.tick → z = (k, y)) → d.tu.sched.Nodup →
      y.st = 2 → y.late = false → y.action = 6 → y.period = 0 → fires (k, y) ≤ d.tick →
      Does (.schedCancel i) s (fun e => e.tu.acts = d.tu.acts ++ [(d.tick, 6, y.arg, k)] ∧ Counts d e TU_SCHED_STAT_FIRED 1 ∧
        (d.tick, k) ∈ e.tu.ahead ∧ (e.sch i).st = 3 ∧ (k ≠ i → (e.sch k).st = 0))) ∧
    (d.ready = true →
      Does (.schedRead i) s (fun e => e.fget TU_SCHED_SEL_INDEX = i ∧
        e.fget TU_SCHED_TIME_TIME = (if x.rel = true ∧ (x.st = 0 ∨ x.st = 3) then x.off else x.time) % 2 ^ 48 ∧
        e.fget TU_SCHED_PERIOD_PERIOD_NS = x.period % 2 ^ 40 ∧ e.fget TU_SCHED_CTRL_ARG = x.arg % 2 ^ 32 ∧
        e.fget TU_SCHED_CTRL_EPOCH = x.epoch % 2 ^ 16 ∧ e.fget TU_SCHED_CTRL_ACTION = x.action % 2 ^ 4 ∧
        e.fget TU_SCHED_CTRL_STATE = (if x.st = 4 then 0 else x.st) % 4 ∧ e.flag TU_SCHED_CTRL_REL = x.rel ∧
        e.flag TU_SCHED_CTRL_POLICY = x.policy ∧ e.flag TU_SCHED_CTRL_ENABLE = x.enable ∧
        RegsBut [TU_SCHED_SEL, TU_SCHED_TIME, TU_SCHED_PERIOD, TU_SCHED_CTRL] d e ∧ Apart e d) ∧
      Does .schedEventPop s (fun e => e = { d with tu := { d.tu with events := d.tu.events.tail } })) ∧
    (d.flag TU_STATUS_TIME_VALID = false → exec (.scheduleFire i) s = .next s) ∧
    (d.flag TU_STATUS_TIME_VALID = true → (d.tick, i) ∈ d.tu.ahead → Does (.scheduleFire i) s (fun e =>
      e = { d with tu := { d.tu with ahead := d.tu.ahead.erase (d.tick, i) } })) ∧
    ((∀ y ∈ d.tu.sched, y.2.st ≠ 2) → (d.tick, i) ∉ d.tu.ahead → exec (.scheduleFire i) s = .next s) ∧
    ((d.tu.sched.map Prod.fst).Pairwise (· < ·) → ∀ j, d.firstDue (d.dueBy i) = some j →
      (d.sch j).st = 2 ∧ ∀ y ∈ d.tu.sched, y.2.st = 2 → fires (j, d.sch j) < fires y ∨ (fires (j, d.sch j) = fires y ∧ j ≤ y.1)) ∧
    (d.flag TU_STATUS_TIME_VALID = true → (d.tick, i) ∉ d.tu.ahead → ∀ j, d.firstDue (d.dueBy i) = some j →
      (d.boundaryOpens (fires (j, d.sch j)) = true → exec (.scheduleFire i) s = .next s) ∧
      ((d.tu.sched.map Prod.fst).Pairwise (· < ·) → d.tu.openings = [] → (d.tick, j) ∉ d.tu.ahead →
        exec (.scheduleFire i) s = exec (.scheduleFire j) s) ∧
      (∀ o, j = i → d.flag RIND_STATUS_SEQ_RUNNING = false → d.tu.openings = [o] → d.openingTick o ≤ fires (i, x) →
        (∀ y ∈ d.tu.sched, y = (i, x)) → d.tu.sched.Nodup → Does (.scheduleFire i) s (fun e => e.epoch = o.epoch % 2 ^ 16 ∧ (e.sch i).st = 3 ∧
          e.tick = max d.tick (d.openingTick o) ∧ e.tu.openings = [] ∧ e.tu.acts = d.tu.acts ∧ e.tu.edges = d.tu.edges))) ∧
    (x.st = 2 → d.flag TU_STATUS_TIME_VALID = true → x.late = false → (d.tick, i) ∉ d.tu.ahead →
      d.firstDue (fires (i, x)) = some i → d.boundaryOpens (fires (i, x)) = false →
      d.tu.openings = [] ∨ d.flag RIND_STATUS_SEQ_RUNNING = true →
      let wait := (-(stampDiff (d.ns % 2 ^ 48) x.time)).toNat
      let b := if wait = 0 then d else d.advNs (d.ns + wait)
      let k := (stampDiff (b.ns % 2 ^ 48) x.time).toNat / x.period + 1
      let once : Prop := x.period = 0 ∨ k = 1
      let line := x.arg % 32
      let at0 := (b.tick + 4) * 1250 + edgeDelay (b.pastPs x.time) + 10 * d.fget (TU_TRGOUT_CFG_FINE_10PS line)
      let fired (P : Dev → Prop) : Prop := Does (.scheduleFire i) s (fun e => P e ∧ Counts b e TU_SCHED_STAT_FIRED 1 ∧
        (x.period = 0 → (e.sch i).st = 0) ∧ (x.period ≠ 0 → x.action ≠ 4 → (e.sch i) = { x with time := (x.time + k * x.period) % 2 ^ 48 }) ∧
        (∀ j, j ≠ i → x.action ≠ 4 → e.sch j = d.sch j) ∧ (x.action ≠ 4 → e.tick = b.tick ∧ e.time = b.time))
      let idle : Prop := fired (fun e => (once → Reported b 6 i 0 e) ∧ e.tu.edges = d.tu.edges ∧ e.tu.acts = d.tu.acts)
      (x.action = 1 → fired (fun e => e.tu.edges = d.tu.edges ++ [⟨line, at0, 1, true⟩, ⟨line, at0 + 1250 * (x.arg / 2 ^ 16), 1, false⟩] ∧
        (once → e.tu.events = d.tu.events))) ∧
      let levelled (rise : Bool) (e : Dev) : Prop :=
        (pget d.tu.levelAt line ≠ some b.tick → e.tu.edges = d.tu.edges ++ [⟨line, at0, 2, rise⟩]) ∧
        (pget d.tu.levelAt line = some b.tick → ∀ g, (d.tu.edges.filter (fun g : TrgEdge => g.line == line && g.kind == 2)).getLast? = some g →
          e.tu.edges = d.tu.edges.erase g ++ [⟨line, at0, 2, rise⟩]) ∧
        pget e.tu.levelAt line = some b.tick ∧ e.flag (TU_TRGOUT_CFG_LEVEL line) = rise ∧ (once → e.tu.events = d.tu.events)
      (x.action = 2 → fired (levelled true)) ∧
      (x.action = 3 → fired (levelled false)) ∧
      (x.action = 4 → d.runState = stArmed → fired (fun e => e.flag RIND_STATUS_SEQ_RUNNING = true ∧ e.rind.anchorFrame = 0 ∧
        (d.tu.acts = [] → e.runState = stRunning))) ∧
      (x.action = 4 → d.runState ≠ stArmed → idle) ∧
      (x.action = 5 → d.runState = stRunning ∨ d.runState = stBreak → fired (fun e => e.tu.acts = d.tu.acts ++ [(b.tick, 5, x.arg, i)])) ∧
      (x.action = 5 → d.runState ≠ stRunning → d.runState ≠ stBreak → idle) ∧
      (x.action = 6 ∨ x.action = 7 → fired (fun e => e.tu.acts = d.tu.acts ++ [(b.tick, x.action, x.arg, i)])) ∧
      (x.action = 8 → d.flag VAT_CURD_CTRL_ENABLE = true → fired (fun e => e.tu.acts = d.tu.acts ++ [(b.tick, 8, x.arg, i)])) ∧
      (x.action = 8 → d.flag VAT_CURD_CTRL_ENABLE = false → idle) ∧
      (x.action = 9 → selectorOk (x.arg % 256) = true → d.snapArea = true → d.snapAreaOk = true → d.obs.latched = none →
        fired (fun e => e.flag FAB_SNAP_STATUS_BUSY = true ∧ e.flag FAB_SNAP_STATUS_BAD_AREA = false ∧ ∃ l, e.obs.latched = some l ∧ l.selector = x.arg % 256 ∧ l.source = 1 ∧
          l.entry = i ∧ l.tick = b.tick)) ∧
      (x.action = 9 → d.snapArea = true → d.snapAreaOk = false → idle ∧
        (selectorOk (x.arg % 256) = true → fired (fun e => e.flag FAB_SNAP_STATUS_BAD_AREA = true))))

/-- R298, R311, R313, R314, R330 to R332: the next edge of a TRGOUT line leaves at its time where the line's level changes; an edge on
TCAP is captured with its time less the delay, in 10 ps, or counts as missed or overflowed; a POP removes the head capture;
PPS_OUT rises at a whole second and falls after its width. -/
def Obligations.TriggerLinesCapturesAndPps : Prop :=
  ∀ (s : State) (t i sub : Nat) (falling : Bool),
    let d := s.dev
    t < 32 → i < 8 → sub < 1250 →
    ((∀ e ∈ d.tu.edges, e.line ≠ t) → exec (.trgoutEdge t) s = .next s) ∧
    (∀ g, d.nextEdge t = some g →
      let high (u : TimeUnit) : Bool := pgetD u.recHigh t 0 != 0 || pgetD u.schedHigh t 0 != 0 || u.levels.contains t
      Does (.trgoutEdge t) s (fun e => e.tick = max d.tick (g.atPs / 1250) ∧ e.tu.edges = d.tu.edges.erase g ∧
        (g.kind = 0 → pgetD e.tu.recHigh g.line 0 = if g.rise then pgetD d.tu.recHigh g.line 0 + 1 else pgetD d.tu.recHigh g.line 0 - 1) ∧
        (g.kind = 1 → pgetD e.tu.schedHigh g.line 0 = if g.rise then pgetD d.tu.schedHigh g.line 0 + 1 else pgetD d.tu.schedHigh g.line 0 - 1) ∧
        (2 ≤ g.kind → (g.line ∈ e.tu.levels ↔ g.rise = true)) ∧
        e.out = d.out ++ (if high e.tu = high d.tu then [] else
          [.trgout t g.atPs (d.flag (TU_TRGOUT_CFG_INVERT t) != high e.tu)]) ∧ e.regs = d.regs)) ∧
    ((d.fget (TU_TCAP_CFG_EDGE i)).testBit (if falling then 1 else 0) = false → exec (.tcapEdge i falling sub) s = .next s) ∧
    ((d.fget (TU_TCAP_CFG_EDGE i)).testBit (if falling then 1 else 0) = true →
      let at0 := 1250 * d.tick + sub
      let soon : Prop := ∃ l, pget d.tu.tcapLast i = some l ∧ at0 < l + 5000
      let ps := wrapTo 80 ((d.time * 1000 / 2 ^ 32 + sub : Nat) - d.fint (TU_TCAP_CFG_DELAY_PS i))
      (d.flag TU_STATUS_BASE_LOST = true ∨ soon → Does (.tcapEdge i falling sub) s (fun e => Counts d e (TU_TCAP_CFG_MISSED i) 1 ∧
        RegsBut [TU_TCAP_CFG i] d e ∧ Apart e d)) ∧
      (d.flag TU_STATUS_BASE_LOST = false → ¬ soon → 16 ≤ (d.tcap i).length → Does (.tcapEdge i falling sub) s (fun e =>
        Counts d e (TU_TCAP_CFG_OVERFLOW i) 1 ∧ RegsBut [TU_TCAP_CFG i] d e ∧ Apart e d)) ∧
      (d.flag TU_STATUS_BASE_LOST = false → ¬ soon → (d.tcap i).length < 16 → Does (.tcapEdge i falling sub) s (fun e =>
        e.tcap i = d.tcap i ++ [⟨ps / 1000 % 2 ^ 64, ps % 1000 / 10 * 10, d.epoch, falling, !d.flag TU_STATUS_TIME_VALID⟩] ∧
        (∀ k, k ≠ i → e.tcap k = d.tcap k) ∧ e = { d with tu := { d.tu with tcap := e.tu.tcap, tcapLast := pput i at0 d.tu.tcapLast } }))) ∧
    (d.ready = false → exec (.tcapPop i) s = .next s) ∧
    (d.ready = true → Does (.tcapPop i) s (fun e => e.tcap i = (d.tcap i).tail ∧ (∀ k, k ≠ i → e.tcap k = d.tcap k) ∧
      e = { d with tu := { d.tu with tcap := e.tu.tcap } })) ∧
    (∀ f, d.tu.ppsFall = some f → Does .ppsOutEdge s (fun e => e.tick = max d.tick (f / 1250) ∧ e.tu.ppsFall = none ∧
      e.out = d.out ++ [.ppsOut f false] ∧ e.regs = d.regs)) ∧
    (d.tu.ppsFall = none → d.flag TU_CTRL_PPS_OUT_EN = false ∨ d.flag TU_STATUS_TIME_VALID = false → exec .ppsOutEdge s = .next s) ∧
    (d.tu.ppsFall = none → d.flag TU_CTRL_PPS_OUT_EN = true → d.flag TU_STATUS_TIME_VALID = true →
      let sec := d.nextSecond
      let b := d.advNs (1000000000 * sec)
      let at0 := (b.tick + 4) * 1250 + edgeDelay (b.pastPs (1000000000 * sec))
      let width := max 1 (min 500000 (d.fget TU_PPS_PPS_WIDTH_US))
      let first (k : Nat) : Prop := d.time < 1000000000 * 2 ^ 32 * k + d.inc ∧ (1000000000 * 2 ^ 32 * k ≤ d.time → d.tu.ppsTick ≠ d.tick + 1)
      first sec ∧ (∀ k, first k → sec ≤ k) ∧
      Does .ppsOutEdge s (fun e => e.tick = b.tick ∧ e.tu.ppsTick = b.tick + 1 ∧ e.tu.ppsFall = some (at0 + 1000000 * width) ∧
        e.out = d.out ++ [.ppsOut at0 true] ∧ e.regs = d.regs))

/-! ## Peust ports -/

/-- R19, R346 to R350, R354, R360, R364, R366, R367, R369: a frame that breaks no rule counts and waits for its alignment delay; one that
breaks a rule counts a violation or asks for a retry; bad blocks, credit and retries received; deferred PROTO_ERRs, those of
QUARANTINE, and the end of a violation window; PROTO_ERR, IDLE and RECORD blocks are ignored. -/
def Obligations.PortFramesBlocksAndViolations : Prop :=
  ∀ (s : State) (b : RxBlock) (grant seq : Nat) (f : RxFrame) (kind : BadBlock),
    let d := s.dev
    let p := b.port
    let x := d.port p
    let r := d.received b
    p < 64 → f.wf = true →
    (d.pstate p ≠ psActive → r = d) ∧
    (d.pstate p = psActive → PortIs d p { x with badRun := 0 } r ∧ RegsBut [PL_FEC p] d r ∧
      r = { d with regs := r.regs, fresh := r.fresh, ports := r.ports } ∧
      (b.fixed = true → 2 ≤ d.version p → Counts d r (PL_FEC_CORRECTED p) 1 ∧ r.fget (PL_FEC_UNCORRECTABLE p) = d.fget (PL_FEC_UNCORRECTABLE p)) ∧
      (b.fixed = false ∨ d.version p < 2 → r.regs = d.regs)) ∧
    exec (.protoErr b) s = .next { s with dev := r } ∧
    exec (.idleBlock b) s = .next { s with dev := r } ∧
    (d.pstate p ≠ psActive ∨ d.version p ≠ 1 → exec (.recordBlock b) s = .next { s with dev := r }) ∧
    (d.pstate p = psActive → d.version p = 1 → Does (.recordBlock b) s (Violated r p 6 0 true)) ∧
    (d.pstate p ≠ psActive → exec (.frameAssembled p f) s = .next s ∧ exec (.invalidBlock p kind) s = .next s ∧
      exec (.credit b grant) s = .next s ∧ exec (.retry p seq) s = .next s) ∧
    (d.pstate p = psActive →
      let retries := d.version p = 1 ∧ d.flag (PL_CFG_RETRY_EN p) = true ∧ d.role p = roleInput
      let fec (e : Dev) : Prop := Counts d e (PL_FEC_CORRECTED p) f.corrected ∧ Counts d e (PL_FEC_UNCORRECTABLE p) f.flagged.length
      let run := flaggedRun f x.badRun
      let short : Prop := run.1 < d.badLimit p
      let again (c : Nat) : Prop := c = 3 ∨ badHcrc f = true
      let passed (y : Port) : Prop := Does (.frameAssembled p f) s (fun e => fec e ∧ Counts d e (PL_RX_CNT_FRAMES p) 1 ∧
        (∀ q, pgetD e.rind.waiting q [] = if q = p then pgetD d.rind.waiting p [] ++ [⟨f.seq, f.payload, f.ftype,
          d.tick + d.fget (RIND_PORT_ALIGN_DELAY_TICKS p)⟩] else pgetD d.rind.waiting q []) ∧
        PortIs d p y e ∧ RegsBut [PL_FEC p, PL_RX_CNT p] d e ∧ e = { d with
          regs := e.regs
          fresh := e.fresh
          ports := e.ports
          rind := { d.rind with waiting := e.rind.waiting } })
      (f.flagged = [] → run = (x.badRun, 0)) ∧
      ((∀ k, 64 * k < 16 + f.payload.length → k ∈ f.flagged) → run.1 = run.2 ∧ 64 * (run.2 - x.badRun) < 80 + f.payload.length ∧
        16 + f.payload.length ≤ 64 * (run.2 - x.badRun)) ∧
      (x.retryFor = none → short →
        (d.frameFault p f = none → passed { x with badRun := 0 }) ∧
        (∀ c, d.frameFault p f = some c → ¬ (retries ∧ again c) → Does (.frameAssembled p f) s (fun e => fec e ∧
          Violated d p c f.seq true e ∧ e.rind.waiting = d.rind.waiting ∧ (Calm d p → (e.port p).badRun = run.2))) ∧
        (∀ c, d.frameFault p f = some c → retries → again c → Calm d p → f.seq ∉ x.retried → Does (.frameAssembled p f) s (fun e => fec e ∧
          Counts d e (PL_VIOL_CNT_COUNT p c) 1 ∧ e.out = d.out ++ [.control p 0x3C f.seq] ∧ (e.port p).retryFor = some f.seq ∧
          (e.port p).retried = f.seq :: x.retried ∧ e.rind.waiting = d.rind.waiting)) ∧
        (∀ c, d.frameFault p f = some c → retries → again c → Calm d p → f.seq ∈ x.retried → Does (.frameAssembled p f) s (fun e => fec e ∧
          Violated d p c f.seq false e ∧ e.out = d.out ∧ (e.port p).retryFor = none ∧ e.rind.waiting = d.rind.waiting))) ∧
      (∀ q, x.retryFor = some q → short →
        (f.seq ≠ q → Does (.frameAssembled p f) s (fun e => fec e ∧ RegsBut [PL_FEC p] d e ∧ PortIs d p { x with badRun := run.2 } e ∧
          e = { d with regs := e.regs, fresh := e.fresh, ports := e.ports })) ∧
        (f.seq = q → d.frameFault p f = none → passed { x with retryFor := none, badRun := 0 }) ∧
        (f.seq = q → ∀ c, d.frameFault p f = some c → (again c → Does (.frameAssembled p f) s (Violated d p c f.seq false)) ∧
          (¬ again c → Does (.frameAssembled p f) s (Violated d p c f.seq true)))) ∧
      (x.retryFor = none → d.badLimit p ≤ run.1 → ∀ c, d.frameFault p f = some c → ¬ (retries ∧ again c) → Calm d p → Does (.frameAssembled p f) s (fun e =>
        fec e ∧ Counts d e (PL_VIOL_CNT_COUNT p c) 1 ∧ Counts d e (PL_STATUS_LINK_DROPS p) 1 ∧ e.pstate p = psDetect ∧ Left d p e)) ∧
      (let code := if kind = .uncorrectable then 4 else 6
       let bad := kind = .uncorrectable ∨ kind = .badHeader
       (¬ bad ∨ x.badRun + 1 < d.badLimit p → Does (.invalidBlock p kind) s (fun e => Violated d p code 0 true e ∧
         (kind = .uncorrectable → Counts d e (PL_FEC_UNCORRECTABLE p) 1) ∧
         (Calm d p → (e.port p).badRun = if kind = .uncorrectable ∨ kind = .badHeader then x.badRun + 1 else 0))) ∧
       (bad → d.badLimit p ≤ x.badRun + 1 → Calm d p → Does (.invalidBlock p kind) s (fun e => Counts d e (PL_VIOL_CNT_COUNT p code) 1 ∧
         Counts d e (PL_STATUS_LINK_DROPS p) 1 ∧ e.pstate p = psDetect ∧ Left d p e))) ∧
      (let sum := d.fget (PL_CREDIT_CREDIT p) + grant % 65536
       (d.role p ≠ roleReadout ∨ d.flag (PL_CFG_CREDIT_EN p) = false → Does (.credit b grant) s (Violated r p 9 0 true)) ∧
       (d.role p = roleReadout → d.flag (PL_CFG_CREDIT_EN p) = true → sum ≤ 65535 → Does (.credit b grant) s (fun e =>
         e.fget (PL_CREDIT_CREDIT p) = sum ∧ RegsBut [PL_CREDIT p] r e ∧
         PortIs r p { x with badRun := 0, creditWait := if sum = 0 then x.creditWait else none } e ∧
         e = { r with regs := e.regs, fresh := e.fresh, ports := e.ports })) ∧
       (d.role p = roleReadout → d.flag (PL_CFG_CREDIT_EN p) = true → 65535 < sum → Does (.credit b grant) s (fun e =>
         e.fget (PL_CREDIT_CREDIT p) = 65535 ∧ Violated r p 9 0 true e))) ∧
      (let held := x.sent.drop (x.sent.length - 64)
       (d.version p ≠ 1 → Does (.retry p seq) s (Violated d p 6 0 true)) ∧
       (d.version p = 1 → (∃ y ∈ held, y.1 = seq) → Does (.retry p seq) s (fun e => e = { d with
         out := d.out ++ (held.dropWhile (fun y => y.1 != seq)).map (fun y => .frame p y.2.2) })) ∧
       (d.version p = 1 → (∀ y ∈ held, y.1 ≠ seq) → Calm d p → Does (.retry p seq) s (fun e => Violated d p 10 seq true e ∧
         Counts d e (PL_TX_CNT_RECORDS_LOST p) ((x.sent.dropWhile (fun y => y.1 != seq)).filter (fun y => !y.2.1)).length ∧
         Counts d e (PL_TX_CNT_CAPTURES_LOST p) (if (x.sent.dropWhile (fun y => y.1 != seq)).any (fun y => y.2.1) then 1 else 0))))) ∧
    (∀ c q st t, x.deferred = some (c, q, st) → x.lastErr = some t → Does (.protoErrDeferred p) s (fun e =>
      e.tick = max d.tick (t + 800) ∧ e.out = d.out ++ [.protoErr p c q (st % 2 ^ 48) x.more] ∧
      PortIs d p { x with deferred := none, more := 0, lastErr := some e.tick } e ∧ e.regs = d.regs)) ∧
    (d.pstate p = psQuarantine → Does (.quarantineProtoErr p) s (fun e => e.tick = max d.tick (x.quarErr + 800000) ∧
      e.out = d.out ++ [.protoErr p 15 0 (e.ns % 2 ^ 48) 0] ∧ PortIs d p { x with quarErr := e.tick, lastErr := some e.tick } e ∧ e.regs = d.regs)) ∧
    (d.pstate p ≠ psQuarantine → exec (.quarantineProtoErr p) s = .next s) ∧
    (∀ t n, x.window = some (t, n) → Does (.violationWindowEnd p) s (fun e => e.tick = max d.tick t ∧
      PortIs d p { x with window := none } e ∧ e.regs = d.regs ∧ e.out = d.out))

/-- R348, R361 to R364, R370, R374, R500: training: signal takes a port from DETECT to NEGOTIATE; TRAIN words agree on a version, the 16th
in a row taking it to EQUALISE, a word of its own nonce or a bad one failing the attempt; equalised it aligns, and with its
lanes identified it is ACTIVE; timeouts fail attempts, the next beginning after 10 ms dark; DOWN ports retry; the ports of a
group that is on begin. -/
def Obligations.PortTrainingStates : Prop :=
  ∀ (s : State) (b : RxBlock) (lane w g : Nat) (taps : List Nat) (m : AlignMark) (signal : Bool),
    let d := s.dev
    let p := b.port
    let x := d.port p
    let r := d.received b
    p < 64 → lane < 4 → m.laneId < 4 → w < 2 ^ 64 → taps.length = 52 → g < 8 →
    (¬ (d.pstate p = psDetect ∧ x.dark = none ∧ x.reqEnd = none) → exec (.signalDetect p) s = .next s) ∧
    (d.pstate p = psDetect → x.dark = none → x.reqEnd = none → Does (.signalDetect p) s (fun e => e.pstate p = psNegotiate ∧
      PortIs d p { x with since := d.tick } e ∧ RegsBut [PL_STATUS p] d e ∧
      e = { d with regs := e.regs, ports := e.ports, out := d.out ++ [.control p 0x99 (d.trainWord p 0)] } ∧
      (x.offer = none → x.echo = 0 → x.ack = false → d.trainWord p 0 = 0x99 * 2 ^ 56 + x.ownMax * 2 ^ 52 + x.nonce * 2 ^ 32))) ∧
    (d.pstate p ≠ psNegotiate → exec (.train p w) s = .next s) ∧
    (d.pstate p = psNegotiate →
      let nonce := w / 2 ^ 32 % 2 ^ 16
      let o := w / 2 ^ 52 % 2 ^ 4
      let psel := w / 2 ^ 48 % 2 ^ 4
      let sel := min x.ownMax o
      let agree := if w.testBit 11 = true ∧ psel = sel ∧ w / 2 ^ 16 % 2 ^ 16 = x.nonce then x.agree + 1 else 0
      let ack := x.ack || psel == sel
      let good := 1 ≤ o ∧ o ≤ 3 ∧ (x.offer = none ∨ x.offer = some o) ∧ (psel = 0 ∨ psel = sel)
      (nonce = x.nonce → Does (.train p w) s (AttemptFailed d p 3)) ∧
      (nonce ≠ x.nonce → good → Does (.train p w) s (fun e =>
        e.out = d.out ++ [.control p 0x99 (0x99 * 2 ^ 56 + x.ownMax * 2 ^ 52 + sel * 2 ^ 48 + x.nonce * 2 ^ 32 + nonce * 2 ^ 16 + (if ack then 2 ^ 11 else 0))] ∧
        e.fget (PL_STATUS_PARTNER_MAX p) = o ∧ RegsBut [PL_STATUS p] d e ∧
        (16 ≤ agree → e.pstate p = psEqualise) ∧ (agree < 16 → e.pstate p = psNegotiate) ∧
        PortIs d p { x with
          echo := nonce
          offer := some o
          ack := ack
          agree := agree
          version := sel
          since := if 16 ≤ agree then d.tick else x.since } e)) ∧
      (nonce ≠ x.nonce → ¬ good → Calm d p → Does (.train p w) s (fun e => Counts d e (PL_VIOL_CNT_COUNT p 8) 1 ∧
        e.fget (PL_STATUS_FAIL_CAUSE p) = 2 ∧ e.fget (PL_STATUS_FAIL_STATE p) = psNegotiate ∧
        (e.pstate p = psDown ∨ (e.port p).dark = some (d.tick + 8000000))))) ∧
    (d.pstate p = psEqualise → Does (.equaliseDone p taps) s (fun e => e.pstate p = psAlign ∧
      PortIs d p { x with
        since := d.tick
        taps := (List.range 52).map (fun i => if d.flag (PL_LANE_EQ_FREEZE p (i / 13)) then x.taps.getD i 0 else taps.getD i 0 % 2 ^ 16) } e ∧
      RegsBut [PL_STATUS p] d e)) ∧
    (d.pstate p = psAlign →
      (16000 < m.skew → Does (.align b lane m) s (AttemptFailed d p 5)) ∧
      (m.skew ≤ 16000 → Does (.align b lane m) s (fun e => e.fget (PL_STATUS_LANE_MAP p) / 4 ^ lane % 4 = m.laneId ∧ e.pstate p = psAlign ∧
        PortIs d p { x with lanes := if lane ∈ x.lanes then x.lanes else lane :: x.lanes } e ∧ RegsBut [PL_STATUS p] d e)) ∧
      (x.lanes.length = 4 → Does (.alignDone p) s (Activated d p))) ∧
    (d.pstate p = psActive →
      (m.atExpected = true → Does (.align b lane m) s (fun e => PortIs r p { x with missed := 0, badRun := 0 } e ∧ e.regs = r.regs)) ∧
      (m.atExpected = false → x.missed = 0 → Does (.align b lane m) s (fun e => PortIs r p { x with missed := 1, badRun := 0 } e ∧ e.regs = r.regs)) ∧
      (m.atExpected = false → x.missed ≠ 0 → Does (.align b lane m) s (Dropped r p false))) ∧
    (∀ n, trainLimit (d.pstate p) = some n → x.dark = none → x.reqEnd = none → Does (.trainTimeout p) s (fun e =>
      e.tick = max d.tick (x.since + n) ∧ AttemptFailed (d.advTo (x.since + n)) p 1 e)) ∧
    (∀ t, x.dark = some t → Does (.darkEnd p) s (fun e => e.tick = max d.tick t ∧ Began d p e ∧
      e.fget (PL_STATUS_ATTEMPTS p) = (d.fget (PL_STATUS_ATTEMPTS p) + 1) % 16)) ∧
    (d.pstate p = psDown → d.flag (PL_CFG_AUTO_RETRY p) = true → d.mayTrain p = true → Does (.downRetry p signal) s (fun e =>
      e.tick = (if signal then d.tick else max d.tick (x.since + 800000000)) ∧ SetBegan d p true e)) ∧
    (d.pstate p ≠ psDown ∨ d.flag (PL_CFG_AUTO_RETRY p) = false ∨ d.mayTrain p = false → exec (.downRetry p signal) s = .next s) ∧
    (∀ t, pget d.pwr.groupsOn g = some t → Does (.opticalGroupOn g) s (fun e => e.tick = max d.tick (t + 4000000) ∧ pget e.pwr.groupsOn g = none ∧
      ∀ q, q / 8 = g →
        (d.pstate q = psOff → d.portOn q = true → d.testOn q = true → e.pstate q = psTest ∧ (e.port q).since = e.tick) ∧
        (d.pstate q = psOff → d.portOn q = true → d.testOn q = false → d.laserLost q = true → e.pstate q = psDown ∧ e.fget (PL_STATUS_FAIL_CAUSE q) = 4) ∧
        (d.pstate q = psOff → d.portOn q = true → d.testOn q = false → d.laserLost q = false → e.pstate q = psDetect ∧
          e.fget (PL_STATUS_ATTEMPTS q) = 1 ∧ (e.port q).since = e.tick) ∧
        (¬ (d.pstate q = psOff ∧ d.portOn q = true) → e.pstate q = d.pstate q ∧ e.port q = d.port q)))

/-- R348, R363 to R365, R369, R377: a link drop, a partner's request and RETRAIN end what an ACTIVE port carries and train it anew;
IDLE_ENTER and IDLE_REQ take a Peust 2 or 3 port to IDLE, the exit burst makes it ACTIVE again, and a timeout drops it; an
ALIGN block that leaves marks its time. -/
def Obligations.PortDropsRetrainingAndIdle : Prop :=
  ∀ (s : State) (b : RxBlock) (flag : Bool),
    let d := s.dev
    let p := b.port
    let x := d.port p
    let r := d.received b
    p < 64 →
    (d.pstate p ≠ psActive → exec (.linkDrop p flag) s = .next s ∧ exec (.retrainReq b) s = .next s ∧ exec (.idleEnter b) s = .next s) ∧
    (d.pstate p = psActive → Does (.linkDrop p flag) s (Dropped d p flag) ∧ Does (.retrainReq b) s (Dropped r p false) ∧
      (d.version p < 2 → exec (.idleEnter b) s = .next { s with dev := r }) ∧
      (2 ≤ d.version p → Does (.idleEnter b) s (fun e => e.pstate p = psIdle ∧ Left r p e ∧ e.out = d.out))) ∧
    (∀ t, x.reqEnd = some t → Does (.retrainReqEnd p) s (fun e => e.tick = max d.tick t ∧ SetBegan d p false e)) ∧
    (x.reqEnd = none → exec (.retrainReqEnd p) s = .next s) ∧
    (d.ready = false ∨ d.pstate p = psOff ∨ d.laserLost p = true → exec (.retrain p) s = .next s) ∧
    (d.ready = true → d.pstate p ≠ psOff → d.laserLost p = false →
      (d.pstate p = psActive → Does (.retrain p) s (Dropped d p false)) ∧
      (d.pstate p ≠ psActive → Does (.retrain p) s (fun e => SetBegan d p false e ∧ Left d p e))) ∧
    (d.ready = false → exec (.idleReq p flag) s = .next s) ∧
    (d.ready = true →
      (d.pstate p = psActive → 2 ≤ d.version p → Does (.idleReq p true) s (fun e => e.flag (PL_CTRL_IDLE_REQ p) = true ∧ e.pstate p = psIdle ∧
        Left d p e ∧ e.out = d.out ++ [.control p 0x66 0])) ∧
      (d.pstate p ≠ psActive ∨ d.version p < 2 → Does (.idleReq p true) s (fun e => e.flag (PL_CTRL_IDLE_REQ p) = true ∧
        RegsBut [PL_CTRL p] d e ∧ Apart e d)) ∧
      Does (.idleReq p false) s (fun e => e.flag (PL_CTRL_IDLE_REQ p) = false ∧ RegsBut [PL_CTRL p] d e ∧
        (let exits : Prop := d.flag (PL_CTRL_IDLE_REQ p) = true ∧ d.pstate p = psIdle
         (exits → PortIs d p { x with exiting := some d.tick } e ∧
           e = { d with regs := e.regs, ports := e.ports, out := d.out ++ [.control p 0x00 1, .control p 0x00 0] }) ∧
         (¬ exits → e = { d with regs := e.regs })))) ∧
    (d.pstate p = psIdle → Does (.idleExit p) s (Activated d p) ∧
      Does (.idleTimeout p flag) s (fun e => e.tick = (if flag then d.tick else max d.tick (x.since + 80000000)) ∧
        Dropped (if flag then d else d.advTo (x.since + 80000000)) p false e)) ∧
    (d.pstate p ≠ psIdle → exec (.idleExit p) s = .next s ∧ exec (.idleTimeout p flag) s = .next s) ∧
    (d.transmits p = true ↔ d.pstate p ≠ psOff ∧ d.pstate p ≠ psDown ∧ (d.pstate p = psIdle → x.exiting ≠ none) ∧ x.dark = none) ∧
    (d.transmits p = true → ∀ at0,
      (∀ t, x.exiting = some t → at0 = 1250 * max d.tick (t + 160)) →
      (x.exiting = none → x.alignPs = none → at0 = 1250 * d.tick) →
      (∀ a, x.exiting = none → x.alignPs = some a → at0 = max (1250 * d.tick)
        (a + if x.version = 3 then 768 * 1280 else if x.version = 2 then 768 * 2560 else 16384 * 2560)) →
      let f := d.advTo (at0 / 1250)
      Does (.alignSend p) s (fun e => PortIs d p { x with alignPs := some at0, exiting := none } e ∧ e = { f with
        out := d.out ++ [.control p 0x1E 0]
        ports := e.ports
        tu := { f.tu with marks := pput p (f.time + at0 % 1250 * 2 ^ 32 / 1000) d.tu.marks } })) ∧
    (d.transmits p = false → exec (.alignSend p) s = .next s)

/-- R350, R354 to R360: a port sends its queued records before its RESULT frames and captures: a record in a block of its own, or on
Peust 1 the 16-byte T2 record in a frame; a RESULT frame under its SEQ; a capture in frames of up to 4,096 bytes a block at a
time as credit allows; a capture without credit for 1 ms is lost. -/
def Obligations.PortSendsRecordsResultsAndCaptures : Prop :=
  ∀ (s : State) (p : Nat),
    let d := s.dev
    let x := d.port p
    let frame (seq ftype flags : Nat) (payload : List Nat) : List Nat := frameBytes seq ftype (d.fget (PL_CFG_SRC_ID p)) flags payload
    p < 64 →
    (x.recs = [] ∨ d.pstate p ≠ psActive → exec (.portRecordSend p) s = .next s) ∧
    (∀ k r l, x.recs = (k, r) :: l → d.pstate p = psActive → Does (.portRecordSend p) s (fun e =>
      Counts d e (PL_TX_CNT_RECORDS_SENT p) 1 ∧ RegsBut [PL_TX_CNT p] d e ∧ (e.port p).recs = l ∧
      e = { d with regs := e.regs, fresh := e.fresh, ports := e.ports, out := e.out } ∧ (∀ q, q ≠ p → e.port q = d.port q) ∧
      (d.version p ≠ 1 → e.out = d.out ++ [.portRecord p k r] ∧ e.port p = { x with recs := l }) ∧
      (d.version p = 1 → e.out = d.out ++ [.frame p (frame x.txSeq 4 0 (leBytes 16 (t2Record r)))] ∧ (e.port p).txSeq = (x.txSeq + 1) % 2 ^ 16 ∧
        (e.port p).sent = x.sent ++ [(x.txSeq, false, frame x.txSeq 4 0 (leBytes 16 (t2Record r)))]))) ∧
    (x.results = [] ∨ x.recs ≠ [] ∨ d.pstate p ≠ psActive ∨ d.version p = 1 → exec (.resultFrameSend p) s = .next s) ∧
    (∀ q b l, x.results = (q, b) :: l → x.recs = [] → d.pstate p = psActive → d.version p ≠ 1 → Does (.resultFrameSend p) s (fun e =>
      Counts d e (PL_TX_CNT_RECORDS_SENT p) 1 ∧ RegsBut [PL_TX_CNT p] d e ∧ e.out = d.out ++ [.frame p (frame q 2 0 b)] ∧
      (e.port p).results = l ∧ (e.port p).txSeq = x.txSeq ∧ (∀ r, r ≠ p → e.port r = d.port r))) ∧
    (∀ c l, x.caps = c :: l → d.pstate p = psActive → x.recs = [] → c.ended = true ∨ 4096 ≤ c.bytes.length →
      let credit := d.flag (PL_CFG_CREDIT_EN p)
      let payload := c.bytes.take 4096
      let last := c.ended = true ∧ c.bytes.length ≤ 4096
      (credit = true → d.fget (PL_CREDIT_CREDIT p) = 0 → Does (.captureSegmentSend p) s (fun e => Counts d e (PL_CREDIT_STALL_BLOCKS p) 1 ∧
        RegsBut [PL_CREDIT p] d e ∧ PortIs d p { x with creditWait := some (x.creditWait.getD d.tick) } e ∧ e.out = d.out)) ∧
      (credit = false ∨ 1 ≤ d.fget (PL_CREDIT_CREDIT p) →
        let paid (e : Dev) : Prop := e.fget (PL_CREDIT_CREDIT p) = d.fget (PL_CREDIT_CREDIT p) - (if credit then 1 else 0) ∧ RegsBut [PL_CREDIT p] d e
        (64 * (c.blocks + 1) < 16 + payload.length → Does (.captureSegmentSend p) s (fun e => paid e ∧ e.out = d.out ∧
          PortIs d p { x with caps := { c with blocks := c.blocks + 1 } :: l, creditWait := none } e)) ∧
        (16 + payload.length ≤ 64 * (c.blocks + 1) → Does (.captureSegmentSend p) s (fun e => paid e ∧
          e.out = d.out ++ [.frame p (frame x.capSeq 3 ((if c.begun then 0 else 1) + (if c.ended ∧ c.bytes.length ≤ 4096 then 2 else 0)) payload)] ∧
          (e.port p).capSeq = (x.capSeq + 1) % 2 ^ 16 ∧ (e.port p).txSeq = x.txSeq ∧ (e.port p).creditWait = none ∧ (∀ r, r ≠ p → e.port r = d.port r) ∧
          (last → (e.port p).caps = l) ∧
          (¬ last → (e.port p).caps = { c with bytes := c.bytes.drop 4096, blocks := 0, begun := true } :: l))))) ∧
    (x.creditWait = none → exec (.creditTimeout p) s = .next s) ∧
    (∀ t c l, x.creditWait = some t → x.caps = c :: l → Does (.creditTimeout p) s (fun e => e.tick = max d.tick (t + 800000) ∧
      Counts d e (PL_TX_CNT_CAPTURES_LOST p) 1 ∧ PortIs d p { x with caps := l, creditWait := none } e ∧
      (c.ended = true → e.curd = d.curd) ∧
      (c.ended = false → ∀ h r, d.curd.queue = h :: r → e.curd.queue = { h with dests := h.dests.filter (fun q => q != p) } :: r)))

/-- R368, R371 to R375, R377: the port's log and counters; test patterns and loopback with the states TEST and DETECT; a checker's
lock and bit errors, a slip, an injected bit; a laser source's power with its flags, their 2% of hysteresis, and the ports
that LOS takes down; the margin warning. -/
def Obligations.PortRegistersTestsAndLasers : Prop :=
  ∀ (s : State) (p lane v k power errs : Nat) (bits : List Nat),
    let d := s.dev
    let x := d.port p
    p < 64 → lane < 4 → v < 2 ^ 64 → k < 16 → bits.length = 4 →
    (d.ready = false → exec (.logPop p) s = .next s ∧ exec (.plCountClear p) s = .next s ∧ exec (.testSettingWrite p lane v) s = .next s ∧
      exec (.testSettingWrite p 4 v) s = .next s ∧ exec (.slip p lane) s = .next s ∧ exec (.injectOne p lane) s = .next s) ∧
    (d.ready = true →
      Does (.logPop p) s (fun e => PortIs d p { x with log := x.log.tail } e ∧ e = { d with ports := e.ports }) ∧
      Does (.plCountClear p) s (fun e => (∀ f ∈ [PL_STATUS_LINK_DROPS p, PL_RX_CNT_LATE_FRAMES p, PL_RX_CNT_FRAMES p, PL_FEC_UNCORRECTABLE p,
          PL_FEC_CORRECTED p, PL_TX_CNT_CAPTURES_LOST p, PL_TX_CNT_RECORDS_LOST p, PL_TX_CNT_RECORDS_SENT p, PL_CREDIT_STALL_BLOCKS p,
          PL_EVENT_INFO_LOG_LOST p], Cleared d e f) ∧ (∀ c, 1 ≤ c → c ≤ 10 → Cleared d e (PL_VIOL_CNT_COUNT p c)) ∧
        Cleared d e (PL_LANE_STAT_PRBS_ERRORS p lane) ∧ Cleared d e (PL_LANE_STAT_CORRECTED_BITS p lane) ∧ e.pstate p = d.pstate p ∧
        e.fget (PL_CREDIT_CREDIT p) = d.fget (PL_CREDIT_CREDIT p) ∧ Apart e d) ∧
      (d.testAllowed p = false → Does (.testSettingWrite p lane v) s (fun e => e.fget (PL_LANE_PRBS_INJECT_RATE_LOG2 p lane) = v / 2 ^ 8 % 2 ^ 5 ∧
        e.fget (PL_LANE_PRBS_TX_PATTERN p lane) = d.fget (PL_LANE_PRBS_TX_PATTERN p lane) ∧ e.pstate p = d.pstate p ∧
        RegsBut [PL_LANE_PRBS p lane] d e ∧ Apart e d)) ∧
      (d.testAllowed p = false → exec (.testSettingWrite p 4 v) s = .next s) ∧
      (d.testAllowed p = true → d.pstate p = psOff ∨ d.pstate p = psQuarantine → Does (.testSettingWrite p lane v) s (fun e =>
        e.pstate p = d.pstate p ∧ e.fget (PL_LANE_PRBS_TX_PATTERN p lane) = v % 2 ^ 3 ∧ RegsBut [PL_LANE_PRBS p lane] d e ∧ Apart e d)) ∧
      (d.testAllowed p = true → d.pstate p ≠ psOff → d.pstate p ≠ psTest → d.pstate p ≠ psQuarantine →
        (v % 2 ^ 3 ≠ 0 → Does (.testSettingWrite p lane v) s (fun e => e.pstate p = psTest ∧ e.fget (PL_LANE_PRBS_TX_PATTERN p lane) = v % 2 ^ 3 ∧
          e.fget (PL_LANE_PRBS_RX_PATTERN p lane) = v / 2 ^ 4 % 2 ^ 3 ∧ e.fget (PL_LANE_PRBS_INVERT p lane) = v / 2 ^ 7 % 2 ∧
          e.flag (PL_LANE_PRBS_RX_LOCK p lane) = false ∧ Left d p e)) ∧
        (v / 2 ^ 3 % 4 ≠ 0 → Does (.testSettingWrite p 4 v) s (fun e => e.pstate p = psTest ∧ e.fget (PL_CTRL_LOOPBACK p) = v / 2 ^ 3 % 4 ∧
          Left d p e))) ∧
      (d.testAllowed p = true → d.pstate p = psTest → v / 2 ^ 3 % 4 = 0 → (∀ l < 4, d.fget (PL_LANE_PRBS_TX_PATTERN p l) = 0 ∧
          d.fget (PL_LANE_PRBS_RX_PATTERN p l) = 0) →
        (d.laserLost p = false → Does (.testSettingWrite p 4 v) s (fun e => SetBegan d p false e ∧
          e.flag (PL_LANE_PRBS_RX_LOCK p lane) = false ∧ e.fget (PL_LANE_SLIP_SLIP_TOTAL p lane) = 0)) ∧
        (d.laserLost p = true → Does (.testSettingWrite p 4 v) s (fun e => e.pstate p = psDown ∧ Left d p e))) ∧
      (d.pstate p = psTest → Does (.slip p lane) s (fun e =>
        e.fget (PL_LANE_SLIP_SLIP_TOTAL p lane) = (d.fget (PL_LANE_SLIP_SLIP_TOTAL p lane) + 1) % 2 ^ 8 ∧ RegsBut [PL_LANE_SLIP p lane] d e ∧ Apart e d)) ∧
      (d.pstate p ≠ psTest → exec (.slip p lane) s = .next s) ∧
      (d.transmits p = true → Does (.injectOne p lane) s (fun e => e = { d with out := d.out ++ [.laneFlip p lane] })) ∧
      (d.transmits p = false → exec (.injectOne p lane) s = .next s)) ∧
    (d.pstate p = psTest → d.checkerSees p lane = true → Does (.rxLock p lane errs) s (fun e =>
      e.flag (PL_LANE_PRBS_RX_LOCK p lane) = true ∧ Counts d e (PL_LANE_STAT_PRBS_ERRORS p lane) errs ∧
      RegsBut [PL_LANE_PRBS p lane, PL_LANE_STAT p lane] d e ∧ Apart e d)) ∧
    (d.pstate p ≠ psTest ∨ d.checkerSees p lane = false → exec (.rxLock p lane errs) s = .next s) ∧
    (let rx := d.fget (PL_LANE_PRBS_RX_PATTERN p lane)
     let tx := d.fget (PL_LANE_PRBS_TX_PATTERN p lane)
     let loop := d.fget (PL_CTRL_LOOPBACK p)
     (rx = 0 ∨ rx = 7 → d.checkerSees p lane = false) ∧
     (1 ≤ rx → rx ≤ 6 → loop = 0 ∨ loop = 3 → d.checkerSees p lane = true) ∧
     (d.pstate p = psTest → loop = 1 ∨ loop = 2 → 1 ≤ rx → rx ≤ 6 → x.dark = none → x.reqEnd = none → x.version ≠ 1 →
       (d.checkerSees p lane = true ↔ tx = rx)) ∧
     (d.transmits p = false → d.laneSends p lane = .dark) ∧
     (d.transmits p = true → x.reqEnd = none →
       (d.pstate p = psDetect ∨ d.pstate p = psNegotiate → d.laneSends p lane = .train) ∧
       (d.pstate p = psEqualise → d.laneSends p lane = .pattern (if x.version = 1 then .prbs31 else .prbs13q) false) ∧
       (d.pstate p = psTest → loop = 3 → d.laneSends p lane = .recovered) ∧
       (d.pstate p = psTest → loop ≠ 3 → tx = 0 ∨ tx = 7 → d.laneSends p lane = .idle) ∧
       (d.pstate p = psTest → loop ≠ 3 → tx = 4 → d.laneSends p lane = .pattern .prbs15 (d.flag (PL_LANE_PRBS_INVERT p lane))))) ∧
    (let pw := min power 65535
     let falls (flag threshold : Fld) : Bool := decide (pw < d.fget threshold) || (d.flag flag && decide (100 * pw < 102 * d.fget threshold))
     Does (.laserMeasure k power) s (fun e => e.fget (PL_LASER_POWER_UW k) = pw ∧
       e.flag (PL_LASER_WARN k) = falls (PL_LASER_WARN k) (PL_LASER_WARN_UW k) ∧
       e.flag (PL_LASER_ALARM k) = falls (PL_LASER_ALARM k) (PL_LASER_ALARM_UW k) ∧
       e.flag (PL_LASER_LOS k) = falls (PL_LASER_LOS k) (PL_LASER_LOS_UW k) ∧
       (∀ q, q / 4 = k → e.flag (PL_STATUS_LASER_ALARM q) = falls (PL_LASER_ALARM k) (PL_LASER_ALARM_UW k)) ∧
       (d.flag (PL_LASER_LOS k) = false → falls (PL_LASER_LOS k) (PL_LASER_LOS_UW k) = true → ∀ q, q / 4 = k →
         (d.pstate q = psOff ∨ d.pstate q = psQuarantine → e.pstate q = d.pstate q) ∧
         (d.pstate q ≠ psOff → d.pstate q ≠ psQuarantine → e.pstate q = psDown ∧
           e.fget (PL_STATUS_FAIL_CAUSE q) = 4 ∧ e.fget (PL_STATUS_FAIL_STATE q) = d.pstate q)) ∧
       (falls (PL_LASER_LOS k) (PL_LASER_LOS_UW k) = false → d.fget (PL_LASER_ALARM_UW k) < pw → ∀ q, q / 4 = k → d.pstate q = psDown →
         d.fget (PL_STATUS_FAIL_CAUSE q) = 4 → d.flag (PL_CFG_AUTO_RETRY q) = true → d.portOn q = true →
         e.pstate q = psDetect ∧ e.fget (PL_STATUS_ATTEMPTS q) = 1 ∧ (e.port q).single = true) ∧
       (∀ q, q / 4 ≠ k → e.port q = d.port q) ∧ e.tick = d.tick)) ∧
    (d.version p < 2 → Does (.marginWarn p bits) s (fun e => e.flag (PL_STATUS_MARGIN_WARN p) = false ∧ RegsBut [PL_STATUS p] d e ∧ Apart e d)) ∧
    (2 ≤ d.version p → Does (.marginWarn p bits) s (fun e => Counts d e (PL_LANE_STAT_CORRECTED_BITS p lane) (bits.getD lane 0) ∧
      (e.flag (PL_STATUS_MARGIN_WARN p) = true ↔ ∃ b ∈ bits, (if d.version p = 3 then 1063 else 532) ≤ b) ∧
      RegsBut (PL_STATUS p :: (List.range 4).map (PL_LANE_STAT p)) d e ∧ Apart e d))

/-! ## The host interface -/

/-- R393, R394, R398, R399, R401 to R406, R418, R431: CXL.mem reads return a line, poisoned where it is uncorrectable; writes store it or
are dropped and counted; snoops, commits and the link's loss and return; the data port's bursts: START refused or begun with
its units fetched in order, window writes and reads, ABORT, and the end. -/
def Obligations.CxlMemoryLinkAndDataPort : Prop :=
  ∀ (s : State) (addr v off size : Nat) (bytes : List Nat) (flag : Bool) (m : LinkMode) (r : LpRead) (x : ServiceRead),
    let d := s.dev
    addr < 0x1400000000 → v < 2 ^ 64 → off < 4096 → bytesWf bytes = true → m.wf = true →
    (d.flag GLB_STATUS_MEM_EN = false → addr % 64 = 0 → exec (.cxlMemRead addr r) s = .next s) ∧
    (d.flag GLB_STATUS_MEM_EN = true → addr % 64 = 0 →
      (r.bad = false → d.lpUp = true → Does (.cxlMemRead addr r) s (fun e => Counts d e (LPX_ERR_CORRECTED (addr / 256 % 5)) r.corrected ∧
        RegsBut [LPX_ERR (addr / 256 % 5)] d e ∧ (r.corrected = 0 → e.regs = d.regs) ∧
        e = { d with regs := e.regs, fresh := e.fresh, out := d.out ++ [.readData addr (d.bytes addr 64) false] })) ∧
      (r.bad = true ∨ d.lpUp = false → Does (.cxlMemRead addr r) s (fun e => Counts d e (LPX_ERR_UNCORRECTED (addr / 256 % 5)) 1 ∧
        Counts d e (LPX_ERR_CORRECTED (addr / 256 % 5)) r.corrected ∧
        e.said = d.said ++ (if d.host.mbox.intPolicy / 2 ^ 16 % 4 = 1 then d.rings 2 else []) ++ [.readData addr (e.bytes addr 64) true] ∧
        (d.host.mbox.events.length < 64 → e.host.mbox.events.length = d.host.mbox.events.length + 1)))) ∧
    (1 ≤ bytes.length → addr % 64 + bytes.length ≤ 64 →
      (d.flag GLB_STATUS_MEM_EN = false → exec (.cxlMemWrite addr bytes) s = .next s) ∧
      (d.flag GLB_STATUS_MEM_EN = true → d.protectedAt addr = true → Does (.cxlMemWrite addr bytes) s (fun e =>
        Counts d e LPX_STATUS_HOST_WRITE_DROP 1 ∧ RegsBut [LPX_STATUS] d e ∧ Apart e d)) ∧
      (d.flag GLB_STATUS_MEM_EN = true → d.protectedAt addr = false → d.lpUp = true → Does (.cxlMemWrite addr bytes) s (fun e =>
        (∀ k < bytes.length, memGet e.mem (addr + k) = bytes.getD k 0) ∧
        (∀ a, a < addr ∨ addr + bytes.length ≤ a → memGet e.mem a = memGet d.mem a) ∧ e = { d with mem := e.mem }))) ∧
    (addr % 64 = 0 → d.invalidated addr 64 = if d.flag GLB_STATUS_MEM_EN then [.backInvalidate addr] else []) ∧
    Does (.snoop v) s (fun e => e = { d with out := d.out ++ [.snoopReply v] }) ∧
    (flag = false ∨ d.flag GLB_STATUS_FALLBACK = true → exec (.hdmCommit flag) s = .next s) ∧
    (d.flag GLB_STATUS_FALLBACK = false → Does (.hdmCommit true) s (fun e => e.flag GLB_STATUS_MEM_EN = true ∧ RegsBut [GLB_STATUS] d e ∧ Apart e d) ∧
      Does .cxlCacheEnable s (fun e => e.flag GLB_STATUS_CACHE_EN = true ∧ RegsBut [GLB_STATUS] d e ∧ Apart e d)) ∧
    (d.host.linkDown = true → exec .cxlLinkDown s = .next s) ∧
    (d.host.linkDown = false → Does .cxlLinkDown s (fun e => e.host.linkDown = true ∧ e.flag GLB_STATUS_LINK_DOWN_SEEN = true ∧
      e.flag DP_STATUS_BUSY = false ∧ (d.flag DP_STATUS_BUSY = true → e.host.dp.buffer = [] ∧ e.fget DP_STATUS_AVAIL = 0) ∧ e.host.hold = d.host.hold ∧
      e.runState = d.runState ∧ RegsBut [GLB_STATUS, DP_STATUS] d e)) ∧
    (d.dom 29 ≠ dsOn → exec (.cxlLinkUp m) s = .next s) ∧
    (d.dom 29 = dsOn → Does (.cxlLinkUp m) s (fun e => e.host = { d.host with linkDown := false, link := m } ∧ e.flag GLB_STATUS_FALLBACK = m.fallback ∧
      e.flag GLB_STATUS_MEM_EN = (!m.fallback && d.flag GLB_STATUS_MEM_EN) ∧ e.flag GLB_STATUS_CACHE_EN = (!m.fallback && d.flag GLB_STATUS_CACHE_EN) ∧
      LinkMode.flitBytes m = (if m.fallback then none else some 256) ∧
      RegsBut [GLB_STATUS] d e ∧ e = { d with regs := e.regs, host := e.host })) ∧
    (d.ready = false → exec (.dpStart v) s = .next s ∧ exec .dpAbort s = .next s ∧ exec (.dpWindowWrite off bytes) s = .next s) ∧
    (d.ready = true →
      let units := v / 2 ^ 12 % 2 ^ 10
      let inc := v / 2 ^ 4 % 4
      let dir := v.testBit 3
      let busy := d.flag DP_STATUS_BUSY
      let legal := 1 ≤ units ∧ units ≤ 512 ∧ inc ≠ 3
      let a (k : Nat) : Nat := 8 * ((d.fget DP_ADDR_ADDR + k * (if inc = 2 then 8 else inc)) % 2 ^ 61)
      let latched (e : Dev) (code : Nat) : Prop := e.fget DP_STATUS_ERR = if d.fget DP_STATUS_ERR = 0 then code else d.fget DP_STATUS_ERR
      (¬ legal → Does (.dpStart v) s (fun e => latched e 7 ∧ e.flag DP_STATUS_BUSY = busy ∧ RegsBut [DP_CTRL, DP_STATUS] d e ∧ Apart e d)) ∧
      (legal → busy = true → Does (.dpStart v) s (fun e => latched e 6 ∧ RegsBut [DP_STATUS] d e ∧ Apart e d)) ∧
      (legal → busy = false →
        let begun (e : Dev) : Prop := e.flag DP_STATUS_BUSY = true ∧ e.flag DP_STATUS_DONE = false ∧ e.fget DP_STATUS_DONE_UNITS = 0 ∧
          e.fget DP_CTRL_UNITS = units ∧ e.fget DP_CTRL_INC = inc ∧ e.flag DP_CTRL_DIR = dir ∧ e.mem = d.mem
        (dir = true → Does (.dpStart v) s (fun e => begun e ∧ e.fget DP_STATUS_ERR = 0)) ∧
        (dir = false → Does (.dpStart v) s (fun e => begun e ∧ e.host.dp.buffer.length = units ∧ e.fget DP_STATUS_AVAIL = units ∧
          (∀ k < units, e.host.dp.buffer[k]? = some (if d.dpRefuses false (a k) = 0 then d.bytes (a k) 8 else List.replicate 8 0)) ∧
          ((∀ k < units, d.dpRefuses false (a k) = 0) → e.fget DP_STATUS_ERR = 0) ∧
          (∀ k < units, (∀ j < k, d.dpRefuses false (a j) = 0) → d.dpRefuses false (a k) ≠ 0 → e.fget DP_STATUS_ERR = d.dpRefuses false (a k) ∧
            e.fget DP_ERR_ADDR_ADDR = a k)))) ∧
      Does .dpAbort s (fun e => e.flag DP_STATUS_BUSY = false ∧ e.fget DP_STATUS_AVAIL = 0 ∧ e.host = { d.host with dp := {} } ∧ RegsBut [DP_STATUS] d e) ∧
      (dpAccess off bytes.length = false → Does (.dpWindowWrite off bytes) s (fun e => latched e 4 ∧ RegsBut [DP_STATUS] d e ∧ Apart e d)) ∧
      (dpAccess off bytes.length = true →
        let n := bytes.length / 8
        let room := if busy && d.flag DP_CTRL_DIR then d.fget DP_CTRL_UNITS - d.fget DP_STATUS_DONE_UNITS else 0
        let c (k : Nat) : Nat := 8 * ((d.fget DP_ADDR_ADDR + k * d.dpStep) % 2 ^ 61)
        Does (.dpWindowWrite off bytes) s (fun e => e.fget DP_STATUS_DONE_UNITS = d.fget DP_STATUS_DONE_UNITS + min room n ∧
          e.fget DP_ADDR_ADDR = (d.fget DP_ADDR_ADDR + min room n * d.dpStep) % 2 ^ 61 ∧
          (∀ k < min room n, (∀ j, k < j → j < min room n → c j ≠ c k) → d.dpRefuses true (c k) = 0 → d.holdsAt (c k) = true →
            ∀ i < 8, memGet e.mem (c k + i) = bytes.getD (8 * k + i) 0) ∧
          (∀ m, (∀ k < min room n, m < c k ∨ c k + 8 ≤ m) → memGet e.mem m = memGet d.mem m) ∧
          e.said = d.said ∧ (room < n → (∀ k < room, d.dpRefuses true (c k) = 0) → latched e 5) ∧
          ((∀ k < min room n, d.dpRefuses true (c k) = 0) → n ≤ room → e.fget DP_STATUS_ERR = d.fget DP_STATUS_ERR))) ∧
      (dpAccess off size = false → Does (.dpWindowRead off size x) s (fun e => latched e 4 ∧
        e.out = d.out ++ [.readData (0x21000 + off) (List.replicate size 0) false])) ∧
      (dpAccess off size = true →
        let got := d.host.dp.buffer.take (size / 8)
        let at0 := 8 * d.fget DP_ADDR_ADDR
        let c (k : Nat) : Nat := 8 * ((d.fget DP_ADDR_ADDR + k * d.dpStep) % 2 ^ 61)
        let read (P : Dev → Prop) : Prop := Does (.dpWindowRead off size x) s (fun e => P e ∧ e.host.dp.buffer = d.host.dp.buffer.drop (size / 8) ∧
          e.fget DP_STATUS_AVAIL = (d.host.dp.buffer.length - size / 8) % 2 ^ 10)
        (lpSize ≤ at0 ∨ x.lp.bad = false ∧ d.lpUp = true → (∀ k < got.length, inVat (c k) = false) → read (fun e =>
          e.out = d.out ++ [.readData (0x21000 + off) (padTo size got.flatten) false] ∧ (d.host.dp.buffer.length < size / 8 → latched e 5) ∧
          (size / 8 ≤ d.host.dp.buffer.length → e.fget DP_STATUS_ERR = d.fget DP_STATUS_ERR) ∧ e.mem = d.mem ∧
          (at0 < lpSize → got ≠ [] → Counts d e (LPX_ERR_CORRECTED (at0 / 256 % 5)) x.lp.corrected))) ∧
        (at0 < lpSize → got ≠ [] → x.lp.bad = true ∨ d.lpUp = false → (∀ k < got.length, inVat (c k) = false) → read (fun e => latched e 3 ∧
          e.said = d.said ++ [.readData (0x21000 + off) (padTo size got.flatten) true] ∧ Counts d e (LPX_ERR_UNCORRECTED (at0 / 256 % 5)) 1)) ∧
        (got ≠ [] → (∀ k < got.length, inVat (c k) = true) → read (fun e => Counts d e VAT_ERR_REREAD x.rereads ∧
          (x.zeroed = [0] → Counts d e VAT_ERR_ZEROED 1) ∧ (x.zeroed = [] → Counts d e VAT_ERR_ZEROED 0) ∧ e.out = d.out ++ [.readData (0x21000 + off)
            (padTo size ((List.range got.length).flatMap (fun k => if k ∈ x.zeroed then List.replicate 8 0 else got.getD k []))) false])))) ∧
    (d.flag DP_STATUS_BUSY = true → d.fget DP_CTRL_UNITS ≤ d.fget DP_STATUS_DONE_UNITS → Does .dpBurstDone s (fun e =>
      e.flag DP_STATUS_BUSY = false ∧ e.flag DP_STATUS_DONE = true ∧ RegsBut [DP_STATUS] d e ∧ Apart e d)) ∧
    (d.flag DP_STATUS_BUSY = false ∨ d.fget DP_STATUS_DONE_UNITS < d.fget DP_CTRL_UNITS → exec .dpBurstDone s = .next s)

/-- R407, R408, R412, R413, R424: the completion queue is enabled with its size and place, HEAD consumes entries up to TAIL, the oldest
entry held is written where there is space, with PHASE and CSEQ, a graph leaving flight with its entry, and vector 0 covers the
entries written once the queue is half full or the holdoff has passed. -/
def Obligations.CompletionQueueWritesAndSignals : Prop :=
  ∀ (s : State) (v : Nat),
    let d := s.dev
    v < 2 ^ 64 →
    (let log2 := max 6 (min 16 (v % 2 ^ 5))
     let holdoff (e : Dev) : Prop := e.fget GLB_CQ_CFG_HOLDOFF_US = min 4000 (v / 2 ^ 16 % 2 ^ 12)
     let place : Prop := d.fget GLB_CQ_BASE_LOC = 1 → d.inRegion [1] (64 * d.fget GLB_CQ_BASE_ADDR) (64 * 2 ^ log2) = true
     (d.flag GLB_CQ_CFG_ENABLE = true → Does (.cqEnable v) s (fun e => holdoff e ∧ e.flag GLB_CQ_CFG_ENABLE = true ∧
       e.fget GLB_CQ_CFG_ENTRIES_LOG2 = d.fget GLB_CQ_CFG_ENTRIES_LOG2 ∧ RegsBut [GLB_CQ_CFG] d e ∧ Apart e d)) ∧
     (d.flag GLB_CQ_CFG_ENABLE = false → Does (.cqEnable v) s (fun e => holdoff e ∧ e.fget GLB_CQ_CFG_ENTRIES_LOG2 = log2 ∧
       (place → e.flag GLB_CQ_CFG_ENABLE = true ∧ e.fget GLB_CQ_HEAD_HEAD = 0 ∧ e.fget GLB_CQ_TAIL_TAIL = 0 ∧ e.fget GLB_CQ_TAIL_PHASE = 1) ∧
       (¬ place → e.flag GLB_CQ_CFG_ENABLE = false ∧ e.rget GLB_CQ_HEAD = d.rget GLB_CQ_HEAD) ∧
       RegsBut [GLB_CQ_CFG, GLB_CQ_HEAD, GLB_CQ_TAIL] d e ∧ Apart e d))) ∧
    (let h := v % 2 ^ 16
     let n := 2 ^ d.fget GLB_CQ_CFG_ENTRIES_LOG2
     let taken := (h + n - d.fget GLB_CQ_HEAD_HEAD) % n
     (h < n ∧ taken ≤ d.cqUsed → Does (.cqHeadWrite v) s (fun e => e.fget GLB_CQ_HEAD_HEAD = h ∧ RegsBut [GLB_CQ_HEAD] d e ∧ Apart e d)) ∧
     (¬ (h < n ∧ taken ≤ d.cqUsed) → exec (.cqHeadWrite v) s = .next s)) ∧
    Does .cqStatClear s (fun e => Cleared d e GLB_CQ_STAT_DROPPED ∧ Cleared d e GLB_CQ_STAT_WRITTEN ∧ RegsBut [GLB_CQ_STAT] d e ∧ Apart e d) ∧
    (d.host.hold = [] ∨ d.cqOpen 0 = false → exec .cqEntryWrite s = .next s) ∧
    (∀ c r, d.host.hold = c :: r → d.flag GLB_CQ_CFG_ENABLE = true → d.host.linkDown = false → d.cqUsed + 1 < d.cqSize →
      let tail := d.fget GLB_CQ_TAIL_TAIL
      let phase := d.fget GLB_CQ_TAIL_PHASE
      let bytes := c.bytes.take 1 ++ [phase] ++ leBytes 2 d.host.cseq ++ c.bytes.drop 4
      let a := 64 * d.fget GLB_CQ_BASE_ADDR + 64 * tail
      let next := (tail + 1) % d.cqSize
      let now := d.fget GLB_CQ_CFG_HOLDOFF_US = 0
      Does .cqEntryWrite s (fun e => e.host.hold = r ∧ e.host.cseq = (d.host.cseq + 1) % 2 ^ 16 ∧
        e.fget GLB_CQ_TAIL_TAIL = next % 2 ^ 16 ∧ e.fget GLB_CQ_TAIL_PHASE = (if next = 0 then 1 - phase else phase) ∧ Counts d e GLB_CQ_STAT_WRITTEN 1 ∧
        (d.flag GLB_CQ_BASE_LOC = true → (∀ k < bytes.length, memGet e.mem (a + k) = bytes.getD k 0 % 256) ∧
          (∀ m, m < a ∨ a + bytes.length ≤ m → memGet e.mem m = memGet d.mem m) ∧
          e.out = d.out ++ d.invalidated a bytes.length ++ if d.fget GLB_CQ_CFG_HOLDOFF_US = 0 then d.rings 0 else []) ∧
        (d.flag GLB_CQ_BASE_LOC = false → e.mem = d.mem ∧
          e.out = d.out ++ [.hostWrite (d.flag GLB_STATUS_CACHE_EN) a bytes] ++ if d.fget GLB_CQ_CFG_HOLDOFF_US = 0 then d.rings 0 else []) ∧
        (now → e.host.unsignalled = none ∧ e.host.msixPending = d.pended 0) ∧
        (¬ now → e.host.unsignalled = some (d.host.unsignalled.getD d.tick) ∧ e.host.msixPending = d.host.msixPending) ∧
        (∀ slot, c.graph = some slot → e.graph slot = none ∧ (∀ k, k ≠ slot → e.graph k = d.graph k) ∧
          RegsBut [GLB_CQ_TAIL, GLB_CQ_STAT, RCE_GRAPH slot, RCE_STATUS] d e) ∧
        (c.graph = none → e.rce = d.rce ∧ RegsBut [GLB_CQ_TAIL, GLB_CQ_STAT] d e))) ∧
    (d.host.unsignalled = none ∨ d.host.linkDown = true → exec .cqInterrupt s = .next s) ∧
    (∀ t, d.host.unsignalled = some t → d.host.linkDown = false → Does .cqInterrupt s (fun e =>
      e.tick = (if d.cqSize ≤ 2 * d.cqUsed then d.tick else max d.tick (t + 800 * d.fget GLB_CQ_CFG_HOLDOFF_US)) ∧
      e.out = d.out ++ d.rings 0 ∧ e.host = { d.host with unsignalled := none, msixPending := d.pended 0 } ∧ e.regs = d.regs ∧ e.mem = d.mem))

/-! ## The mailbox -/

/-- R414, R415, R543: every mailbox command whose payload has one length: nothing from a mailbox that does not answer,
Unsupported before READY, Invalid Payload Length for another length; a command of no row is Unsupported. Return codes and
payloads are those of CXL 3.1 (log entry 60). Event records, the interrupt policy, the time stamp, the logs, what
IDENTIFY_MEMORY_DEVICE and GET_HEALTH_INFO say. -/
def Obligations.MailboxStandardCommands : Prop :=
  ∀ (s : State) (inp : List Nat),
    let d := s.dev
    let m := d.host.mbox
    bytesWf inp = true →
    (∀ r ∈ [(Instr.getEventRecords inp, 0x0100, decide (inp.length = 1)), (.clearEventRecords inp, 0x0101, decide (inp.length = 6 + 2 * leAt inp 2 1)),
        (.getEventInterruptPolicy inp, 0x0102, inp == []), (.setEventInterruptPolicy inp, 0x0103, decide (inp.length = 4 ∨ inp.length = 5)),
        (.getFwInfo inp, 0x0200, inp == []), (.transferFw inp, 0x0201, decide (128 ≤ inp.length)), (.activateFw inp, 0x0202, decide (inp.length = 2)),
        (.getTimestamp inp, 0x0300, inp == []), (.setTimestamp inp, 0x0301, decide (inp.length = 8)), (.getSupportedLogs inp, 0x0400, inp == []),
        (.getLog inp, 0x0401, decide (inp.length = 24)), (.identifyMemoryDevice inp, 0x4000, inp == []), (.getHealthInfo inp, 0x4200, inp == []),
        (.getDeviceInfo inp, 0xC000, inp == []), (.regionCreate inp, 0xC001, decide (inp.length = 5)), (.regionFree inp, 0xC002, decide (inp.length = 1)),
        (.reset inp, 0xC003, decide (inp.length = 1)), (.logInfo inp, 0xC004, inp == []), (.getCertificate inp, 0xC010, inp == []),
        (.attest inp, 0xC011, decide (inp.length = 32)), (.ownerEnrol inp, 0xC012, decide (inp.length = 3469)),
        (.ownerPolicy inp, 0xC013, decide (inp.length = 3448))],
      (d.mboxUp = false → exec r.1 s = .next s) ∧
      (d.mboxUp = true → d.mboxAccepts r.2.1 = false → Does r.1 s (Replied d r.2.1 3 [])) ∧
      (Takes d r.2.1 → r.2.2 = false → Does r.1 s (Replied d r.2.1 0x16 []))) ∧
    (∀ op < 2 ^ 16, mailboxKnown op = false → (d.mboxUp = false → exec (.mailboxUnsupported op inp) s = .next s) ∧
      (d.mboxUp = true → Does (.mailboxUnsupported op inp) s (Replied d op 3 []))) ∧
    (d.ready = true → ∀ op, d.mboxAccepts op = true) ∧
    (d.ready = false → d.flag GLB_STATUS_RECOVERY = false → ∀ op, d.mboxAccepts op = true ↔ op = 0xC000 ∨ op = 0xC003 ∨ op = 0xC010) ∧
    (∀ log, inp = [log] → Takes d 0x0100 →
      let es := if log = 2 then m.events else []
      let lost := if log = 2 then m.overflow else 0
      (4 < log → Does (.getEventRecords inp) s (Replied d 0x0100 2 [])) ∧
      (log ≤ 4 → Does (.getEventRecords inp) s (Replied d 0x0100 0 ([(if lost = 0 then 0 else 1) + if 31 < es.length then 2 else 0, 0] ++ leBytes 2 lost ++
        leBytes 8 (if lost = 0 then 0 else m.overFirst) ++ leBytes 8 (if lost = 0 then 0 else m.overLast) ++ leBytes 2 (min 31 es.length) ++
        List.replicate 10 0 ++ (es.take 31).flatten)))) ∧
    (∀ log flags n r hs, inp = log :: flags :: n :: r → r.length = 3 + 2 * n → hs = (List.range n).map (fun k => leAt r (3 + 2 * k) 2) → Takes d 0x0101 →
      let es := if log = 2 then m.events else []
      let kept (l : List (List Nat)) : Dev := if log = 2 then boxed d { m with events := l, overflow := 0, overFirst := 0, overLast := 0 } else d
      (4 < log → Does (.clearEventRecords inp) s (Replied d 0x0101 2 [])) ∧
      (log ≤ 4 → flags % 2 = 1 → Does (.clearEventRecords inp) s (Replied (kept []) 0x0101 0 [])) ∧
      (log ≤ 4 → flags % 2 = 0 → (es.take n).map (fun x => leAt x 20 2) = hs → Does (.clearEventRecords inp) s (Replied (kept (es.drop n)) 0x0101 0 [])) ∧
      (log ≤ 4 → flags % 2 = 0 → (es.take n).map (fun x => leAt x 20 2) ≠ hs → Does (.clearEventRecords inp) s (Replied d 0x0101 0xE []))) ∧
    (Takes d 0x0102 → Does (.getEventInterruptPolicy []) s (Replied d 0x0102 0 ((List.range 5).map (fun k => m.intPolicy / 2 ^ (8 * k) % 4 + 32)))) ∧
    (inp.length = 4 ∨ inp.length = 5 → Takes d 0x0103 → Does (.setEventInterruptPolicy inp) s (Replied (boxed d { m with intPolicy := leNat inp }) 0x0103 0 [])) ∧
    (Takes d 0x0300 → Does (.getTimestamp []) s (Replied d 0x0300 0 (leBytes 8
      (if m.timestamp = 0 then 0 else m.timestamp + (d.tick - m.timestampTick) * 5 / 4)))) ∧
    (inp.length = 8 → Takes d 0x0301 → Does (.setTimestamp inp) s (Replied (boxed d { m with timestamp := leNat inp, timestampTick := d.tick }) 0x0301 0 [])) ∧
    (Takes d 0x0400 → Does (.getSupportedLogs []) s (Replied d 0x0400 0 ([1, 0, 0, 0, 0, 0, 0, 0] ++ celUuid ++ leBytes 4 celLog.length))) ∧
    (inp.length = 24 → Takes d 0x0401 →
      (inp.take 16 ≠ celUuid → Does (.getLog inp) s (Replied d 0x0401 0x17 [])) ∧
      (inp.take 16 = celUuid → celLog.length < leAt inp 16 4 + leAt inp 20 4 → Does (.getLog inp) s (Replied d 0x0401 2 [])) ∧
      (inp.take 16 = celUuid → leAt inp 16 4 + leAt inp 20 4 ≤ celLog.length → Does (.getLog inp) s (Replied d 0x0401 0
        ((celLog.drop (leAt inp 16 4)).take (leAt inp 20 4))))) ∧
    (Takes d 0x4000 → Does (.identifyMemoryDevice []) s (fun e => ∃ bs, Replied d 0x4000 0 bs e ∧ bs.length = 69 ∧ bs.take 16 = d.fwRevision ∧
      leAt bs 16 8 = 320 ∧ leAt bs 24 8 = 320 ∧ leAt bs 32 8 = 0)) ∧
    (Takes d 0x4200 → Does (.getHealthInfo []) s (fun e => ∃ bs, Replied d 0x4200 0 bs e ∧ bs.length = 22 ∧
      (leAt bs 0 1 = 0 ↔ d.fget LPX_STATUS_PKG_TRAINED = 0x1F ∧ d.dom 28 ≠ dsFailed) ∧
      leAt bs 4 2 = wrapTo 16 (d.fint PWR_STATUS_TEMP_MAX / 10) ∧
      leAt bs 10 4 = min ((List.range 5).map (fun c => d.fget (LPX_ERR_CORRECTED c))).sum (2 ^ 32 - 1) ∧
      leAt bs 18 4 = min ((List.range 5).map (fun c => d.fget (LPX_ERR_UNCORRECTED c))).sum (2 ^ 32 - 1)))

/-- R414, R415, R546, R550: GET_FW_INFO; TRANSFER_FW stages the parts of an image in order, the last making it STAGED; ACTIVATE_FW
verifies and programming begins; a success leaves the image in flash, resetting the device in recovery mode; both are busy
while it is in progress. -/
def Obligations.FirmwareIsStagedVerifiedAndProgrammed : Prop :=
  ∀ (s : State) (act slot o : Nat) (hdr part : List Nat),
    let d := s.dev
    let m := d.host.mbox
    let state := d.fget SEC_UPDATE_UPDATE_STATE
    let inp := [act, slot, 0, 0] ++ leBytes 4 o ++ hdr ++ part
    act < 256 → slot < 256 → o < 2 ^ 32 → hdr.length = 120 → bytesWf hdr = true → bytesWf part = true →
    (Takes d 0x0200 → Does (.getFwInfo []) s (Replied d 0x0200 0 ([1, if state = 3 then 9 else 1, 0] ++ List.replicate 13 0 ++ d.fwRevision ++ List.replicate 48 0))) ∧
    (Takes d 0x0201 →
      (state = 2 → Does (.transferFw inp) s (Replied d 0x0201 6 [])) ∧
      (state ≠ 2 →
        (4 < act → Does (.transferFw inp) s (Replied d 0x0201 2 [])) ∧
        (act = 4 → Does (.transferFw inp) s (Replied (boxed d { m with staged := [], transferring := false }) 0x0201 0 [])) ∧
        (act = 0 ∨ act = 3 → 1 < slot → Does (.transferFw inp) s (Replied d 0x0201 0xB [])) ∧
        (act = 1 ∨ (act = 0 ∧ slot ≤ 1) → m.transferring = true → Does (.transferFw inp) s (Replied d 0x0201 8 [])) ∧
        (act = 2 ∨ (act = 3 ∧ slot ≤ 1) → m.transferring = false ∨ 128 * o ≠ m.staged.length → Does (.transferFw inp) s (Replied d 0x0201 9 [])) ∧
        (∀ all last, (act = 1 ∨ (act = 0 ∧ slot ≤ 1)) ∧ m.transferring = false ∧ all = part ∧ last = decide (act = 0) ∨
            (act = 2 ∨ (act = 3 ∧ slot ≤ 1)) ∧ m.transferring = true ∧ 128 * o = m.staged.length ∧ all = m.staged ++ part ∧ last = decide (act = 3) →
          (0x2000000 < all.length → Does (.transferFw inp) s (RepliedLater (boxed d { m with staged := [], transferring := false }) 0x0201 2 [])) ∧
          (all.length ≤ 0x2000000 → last = false → Does (.transferFw inp) s (RepliedLater (boxed d { m with staged := all, transferring := true }) 0x0201 0 [])) ∧
          (all.length ≤ 0x2000000 → last = true → Does (.transferFw inp) s (fun e => e.fget SEC_UPDATE_UPDATE_STATE = 1 ∧ RegsBut [SEC_UPDATE] d e ∧
            RepliedLater { boxed d { m with staged := all, transferring := false } with regs := e.regs } 0x0201 0 [] e))))) ∧
    (Takes d 0x0202 →
      let judged := fwCheck m.staged (max d.owner.minSvn d.owner.minFwSvn)
      (state = 2 → Does (.activateFw [act, slot]) s (Replied d 0x0202 6 [])) ∧
      (state ≠ 2 → act ≠ 1 → Does (.activateFw [act, slot]) s (Replied d 0x0202 2 [])) ∧
      (state ≠ 2 → act = 1 → 1 < slot → Does (.activateFw [act, slot]) s (Replied d 0x0202 0xB [])) ∧
      (state ≠ 2 → act = 1 → slot ≤ 1 → judged ≠ 0 → Does (.activateFw [act, slot]) s (fun e => e.fget SEC_UPDATE_UPDATE_STATE = 4 ∧
        RegsBut [SEC_UPDATE] d e ∧ Replied { d with regs := e.regs } 0x0202 2 [] e)) ∧
      (state ≠ 2 → act = 1 → slot ≤ 1 → judged = 0 → Does (.activateFw [act, slot]) s (fun e => e.fget SEC_UPDATE_UPDATE_STATE = 2 ∧
        e.fget SEC_UPDATE_PROGRAMMED_KIB = 0 ∧ RegsBut [SEC_UPDATE] d e ∧ Replied { d with regs := e.regs } 0x0202 0 [] e))) ∧
    (state ≠ 2 ∨ d.rce.dead = true → exec (.fwProgrammingDone (act == 0)) s = .next s) ∧
    (state = 2 → d.rce.dead = false →
      let image := m.staged.take (0x1540 + leAt m.staged 0x18 8)
      Does (.fwProgrammingDone false) s (fun e => e.fget SEC_UPDATE_UPDATE_STATE = 5 ∧ RegsBut [SEC_UPDATE] d e ∧
        e = { d with regs := e.regs, boot := { d.boot with torn := true } }) ∧
      Does (.fwProgrammingDone true) s (fun e =>
        (∀ k < image.length, memGet e.flash k = image.getD k 0 % 256) ∧ (∀ a, image.length ≤ a → memGet e.flash a = memGet d.flash a) ∧
        (d.flag GLB_STATUS_RECOVERY = false → e.fget SEC_UPDATE_UPDATE_STATE = 3 ∧ e.fget SEC_UPDATE_PROGRAMMED_KIB = (image.length + 1023) / 1024 % 2 ^ 32 ∧
          RegsBut [SEC_UPDATE] d e ∧ e = { d with
            regs := e.regs
            flash := e.flash
            boot := { d.boot with torn := false } }) ∧
        (d.flag GLB_STATUS_RECOVERY = true → e.fget SEC_BOOT_BOOT_STEP = 0 ∧ e.fget SEC_UPDATE_UPDATE_STATE = 0 ∧ e.owner = d.owner ∧ e.boot.torn = false)))

/-- R219, R415 to R417, R484, R529, R544, R550, R552 to R558: the vendor commands: device information; regions made at the lowest
base that fits and freed unless in use; RESET, refused while programming; the run log; the certificate's two parts; ATTEST
between run tasks; enrolment and policy, judged in order and shown. -/
def Obligations.VendorCommandsRegionsOwnersAndAttestation : Prop :=
  ∀ (s : State) (inp : List Nat) (kind mib k : Nat),
    let d := s.dev
    let m := d.host.mbox
    let told (e : Dev) : Dev := { d with regs := e.regs }
    bytesWf inp = true → kind < 256 → mib < 2 ^ 32 → k < 256 →
    (Takes d 0xC000 → Does (.getDeviceInfo []) s (Replied d 0xC000 0 (vendor 0 (leBytes 8 (d.rget GLB_ID).toNat ++ leBytes 8 (d.rget GLB_SERIAL).toNat ++
      leBytes 8 (d.rget GLB_FW_VERSION).toNat ++ leBytes 4 d.usableTiles ++ leBytes 4 d.usableVus ++ leBytes 4 d.usableMus ++ leBytes 4 d.vatWords)))) ∧
    (d.fab.failed = [] → d.usableTiles = 4096 ∧ d.usableVus = 512 ∧ d.usableMus = 256) ∧
    (Takes d 0xC001 →
      let inp := kind :: leBytes 4 mib
      let legal := 1 ≤ kind ∧ kind ≤ 4
      (¬ legal → Does (.regionCreate inp) s (RepliedLater d 0xC001 0 (vendor 4 []))) ∧
      (legal → (∀ j < 16, 3 ≤ j → d.fget (LPX_REGION_KIND j) ≠ 0) ∨ (∀ b, ¬ Fits d b mib) → Does (.regionCreate inp) s (RepliedLater d 0xC001 0 (vendor 2 []))) ∧
      (∀ j b, legal → 3 ≤ j → j < 16 → d.fget (LPX_REGION_KIND j) = 0 → (∀ i < j, 3 ≤ i → d.fget (LPX_REGION_KIND i) ≠ 0) →
        Fits d b mib → (∀ c < b, ¬ Fits d c mib) → Does (.regionCreate inp) s (fun e => e.fget (LPX_REGION_KIND j) = kind ∧
          e.fget (LPX_REGION_BASE_MIB j) = b ∧ e.fget (LPX_REGION_SIZE_MIB j) = mib ∧ RegsBut [LPX_REGION j] d e ∧
          RepliedLater (told e) 0xC001 0 (vendor 0 (j :: leBytes 4 b)) e))) ∧
    (Takes d 0xC002 →
      let allowed := k < 16 ∧ 1 ≤ d.fget (LPX_REGION_KIND k) ∧ d.fget (LPX_REGION_KIND k) ≤ 4
      (¬ allowed → Does (.regionFree [k]) s (Replied d 0xC002 0 (vendor 5 []))) ∧
      (allowed → d.regionInUse k = true → Does (.regionFree [k]) s (Replied d 0xC002 0 (vendor 3 []))) ∧
      (allowed → d.regionInUse k = false → Does (.regionFree [k]) s (fun e => e.rget (LPX_REGION k) = 0#64 ∧ RegsBut [LPX_REGION k] d e ∧
        e.rce.library = (if d.fget (LPX_REGION_KIND k) = 3 then d.rce.library.filter (fun b => !d.inEntry k b.addr) else d.rce.library) ∧
        Replied { told e with rce := { d.rce with library := e.rce.library } } 0xC002 0 (vendor 0 []) e))) ∧
    (k ∈ d.rce.regions → d.regionInUse k = true) ∧
    (Takes d 0xC003 →
      (d.fget SEC_UPDATE_UPDATE_STATE = 2 → Does (.reset [k]) s (Replied d 0xC003 0 (vendor 3 []))) ∧
      (d.fget SEC_UPDATE_UPDATE_STATE ≠ 2 → Does (.reset [k]) s (ResetTo d (d.out ++ [.mailbox 0xC003 0 (vendor 0 [])] ++ d.rings 1)
        (d.flag LPX_STATUS_SELF_REFRESH || (decide (k % 2 = 1) && d.dom 28 == dsOn && !d.rce.dead))))) ∧
    (Takes d 0xC004 → Does (.logInfo []) s (Replied d 0xC004 0 (vendor 0 (leBytes 8 (d.fget (LPX_REGION_BASE_MIB 0) * 2 ^ 20) ++
      leBytes 8 (d.fget (LPX_REGION_SIZE_MIB 0) * 2 ^ 20) ++
      leBytes 8 ((4096 * d.obs.logPages.length + d.obs.logCur.length) % (d.fget (LPX_REGION_SIZE_MIB 0) * 2 ^ 20)))))) ∧
    (Takes d 0xC010 →
      (m.certPart = 0 → Does (.getCertificate []) s (Replied (boxed d { m with certPart := 1 }) 0xC010 0
        (vendor 0 ([0, 2] ++ leBytes 2 4088 ++ memBytes d.flash 0x2000000 4088)))) ∧
      (m.certPart = 1 → Does (.getCertificate []) s (Replied (boxed d { m with certPart := 0 }) 0xC010 0
        (vendor 0 ([1, 2] ++ leBytes 2 1333 ++ memBytes d.flash 0x2000FF8 1333))))) ∧
    (inp.length = 32 → Takes d 0xC011 →
      let identified := d.flag SEC_STATUS_IDENTITY_OK
      (identified = false → Does (.attest inp) s (Replied d 0xC011 0 (vendor 5 []))) ∧
      (identified = true → d.runTaskRuns = true → Does (.attest inp) s (fun e =>
        e = boxed d { m with certPart := 0, attests := m.attests ++ [inp] })) ∧
      (identified = true → d.runTaskRuns = false → Does (.attest inp) s (fun e => ∃ bs,
        e.fget SEC_ATTEST_ATTEST_COUNT = (d.fget SEC_ATTEST_ATTEST_COUNT + 1) % 2 ^ 32 ∧ RegsBut [SEC_ATTEST] d e ∧
        Replied (told e) 0xC011 0 (vendor 0 bs) e ∧ bs.length = 3597 ∧ Reports d inp bs ∧ leAt bs 0xCC 4 = e.fget SEC_ATTEST_ATTEST_COUNT ∧
        (let msg := sigMessage "EVX-T4 ATTESTATION" (Config.sha3 (bs.take 0xE0))
         (bs.drop 0xE0).take 64 = padTo 64 (Config.devEdSign msg) ∧ bs.drop 0x120 = padTo 3309 (Config.devMlSign msg))))) ∧
    (inp.length = 3469 → Takes d 0xC012 →
      let signed : Bool := enrolmentFormed inp && bothVerify Config.vendorEdPk Config.vendorMlPk
        (sigMessage "EVX-T4 ENROLMENT" (Config.sha3 (inp.take 0x60))) ((inp.drop 0x60).take 64) ((inp.drop 0xA0).take 3309)
      let mine := leAt inp 8 8 = d.fget GLB_SERIAL_SERIAL ∧ d.owner.enrolSeq < leAt inp 0x10 4
      let clears := (leAt inp 0x14 4).testBit 0
      let o : Owner := { d.owner with
        enrolled := !clears, edDigest := if clears then 0 else leAt inp 0x20 32, mlDigest := if clears then 0 else leAt inp 0x40 32
        enrolSeq := leAt inp 0x10 4, policySeq := 0, requireSigned := false, minFwSvn := 0 }
      (d.runState ≠ stIdle → Does (.ownerEnrol inp) s (Replied d 0xC012 0 (vendor 1 []))) ∧
      (d.runState = stIdle → signed = false → Does (.ownerEnrol inp) s (Replied d 0xC012 0 (vendor 6 []))) ∧
      (d.runState = stIdle → signed = true → ¬ mine → Does (.ownerEnrol inp) s (Replied d 0xC012 0 (vendor 5 []))) ∧
      (d.runState = stIdle → signed = true → mine → Does (.ownerEnrol inp) s (fun e => OwnerSet d o e ∧
        Replied { told e with owner := o } 0xC012 0 (vendor 0 []) e))) ∧
    (inp.length = 3448 → Takes d 0xC013 →
      let mine := d.owner.enrolled = true ∧ (leAt inp 8 8 = 0 ∨ leAt inp 8 8 = d.fget GLB_SERIAL_SERIAL) ∧ d.owner.policySeq < leAt inp 0x10 4
      let o : Owner := { d.owner with policySeq := leAt inp 0x10 4, requireSigned := (leAt inp 0x14 4).testBit 0, minFwSvn := leAt inp 0x18 4 }
      (d.runState ≠ stIdle → Does (.ownerPolicy inp) s (Replied d 0xC013 0 (vendor 1 []))) ∧
      (d.runState = stIdle → ¬ mine → Does (.ownerPolicy inp) s (Replied d 0xC013 0 (vendor 5 []))) ∧
      (d.runState = stIdle → mine → d.policyVerifies inp = false → Does (.ownerPolicy inp) s (Replied d 0xC013 0 (vendor 6 []))) ∧
      (d.runState = stIdle → mine → d.policyVerifies inp = true → Does (.ownerPolicy inp) s (fun e => OwnerSet d o e ∧
        Replied { told e with owner := o } 0xC013 0 (vendor 0 []) e)))

/-- R393, R560: the SPDM responder: the errors of a request; version, capabilities and algorithms; slot 0's chain; challenges,
measurements and key exchange, which need a proven identity; sessions; and IDE key management in a session. Codes and layouts
are those of DSP0274 1.2 and the CXL IDE key management protocol (log entry 61). -/
def Obligations.SpdmResponderAndIdeKeys : Prop :=
  ∀ (s : State) (req : List Nat),
    let d := s.dev
    let x := d.host.spdm
    let p1 := leAt req 2 1
    let p2 := leAt req 3 1
    let chain := leBytes 32 (Config.sha3 Config.spdmChain)
    let proven := d.flag SEC_STATUS_IDENTITY_OK
    let signedAll := p1.testBit 0
    bytesWf req = true →
    (∀ r ∈ [(Instr.spdmGetCapabilities req, 0xE1, 1, 4), (.spdmNegotiateAlgorithms req, 0xE3, 2, 32), (.spdmGetDigests req, 0x81, 3, 4),
        (.spdmGetCertificate req, 0x82, 3, 8), (.spdmChallenge req, 0x83, 3, 36), (.spdmGetMeasurements req, 0xE0, 3, if signedAll then 37 else 4),
        (.spdmKeyExchange req, 0xE4, 3, 136), (.spdmFinish req, 0xE5, 3, 36), (.spdmEndSession req, 0xEC, 3, 4)],
      (d.mboxUp = false → exec r.1 s = .next s) ∧
      (d.mboxUp = true → leAt req 0 1 ≠ 0x12 → Does r.1 s (SpdmFailed d 0x41)) ∧
      (d.mboxUp = true → leAt req 0 1 = 0x12 → leAt req 1 1 ≠ r.2.1 ∨ req.length < r.2.2.2 → Does r.1 s (SpdmFailed d 1)) ∧
      (d.mboxUp = true → leAt req 0 1 = 0x12 → leAt req 1 1 = r.2.1 → r.2.2.2 ≤ req.length → x.phase < r.2.2.1 → Does r.1 s (SpdmFailed d 4))) ∧
    (∀ r ∈ [(Instr.spdmChallenge req, 0x83, 36), (.spdmGetMeasurements req, 0xE0, if signedAll then 37 else 4), (.spdmKeyExchange req, 0xE4, 136)],
      Asks d req r.2.1 3 r.2.2 → proven = false → Does r.1 s (SpdmFailed d 5)) ∧
    (d.mboxUp = false → exec (.spdmGetVersion req) s = .next s) ∧
    (d.mboxUp = true →
      let bs := [0x10, 4, 0, 0, 0, 1, 0, 0x12]
      (leAt req 0 1 ≠ 0x10 → Does (.spdmGetVersion req) s (SpdmFailed d 0x41)) ∧
      (leAt req 0 1 = 0x10 → leAt req 1 1 ≠ 0x84 ∨ req.length < 4 → Does (.spdmGetVersion req) s (SpdmFailed d 1)) ∧
      (leAt req 0 1 = 0x10 → leAt req 1 1 = 0x84 → 4 ≤ req.length → Does (.spdmGetVersion req) s (fun e => e = { d with
        out := d.out ++ [.spdm 4 bs]
        host := { d.host with spdm := { x with phase := 1, transcript := req ++ bs, opening := [], sessions := [] } } }))) ∧
    (Asks d req 0xE1 1 4 → Does (.spdmGetCapabilities req) s (Responded d req 0x61 0 0
      ([0, Config.spdmSize 0 % 256, 0, 0] ++ leBytes 4 0x2D6 ++ leBytes 4 (Config.spdmSize 1) ++ leBytes 4 (Config.spdmSize 2)) { x with phase := max x.phase 2 })) ∧
    (Asks d req 0xE3 2 32 → Does (.spdmNegotiateAlgorithms req) s (fun e => ∃ structs : List Nat,
      Responded d req 0x63 p1 0 (leBytes 2 (36 + structs.length) ++ [1, 0] ++ leBytes 4 0x10 ++ leBytes 4 (if (leAt req 8 4).testBit 9 then 0x200 else 0) ++
        leBytes 4 (if (leAt req 12 4).testBit 3 then 8 else 0) ++ List.replicate 16 0 ++ structs) { x with phase := max x.phase 3 } e ∧
      structs.length = 4 * p1 ∧ ∀ k < p1, structs.getD (4 * k) 0 = leAt req (32 + 4 * k) 1 ∧ structs.getD (4 * k + 1) 0 = 0x20 ∧
        leAt structs (4 * k + 2) 2 = (let ty := leAt req (32 + 4 * k) 1
          leAt req (34 + 4 * k) 2 &&& if ty = 2 then 0x10 else if ty = 3 then 2 else if ty = 5 then 1 else 0))) ∧
    (Asks d req 0x81 3 4 → Does (.spdmGetDigests req) s (Responded d req 1 0 1 chain x)) ∧
    (Asks d req 0x82 3 8 →
      let off := leAt req 4 2
      let bs := (Config.spdmChain.drop off).take (leAt req 6 2)
      let bad := p1 % 16 ≠ 0 ∨ (off ≠ 0 ∧ Config.spdmChain.length ≤ off)
      (bad → Does (.spdmGetCertificate req) s (SpdmFailed d 1)) ∧
      (¬ bad → Does (.spdmGetCertificate req) s (Responded d req 2 0 0 (leBytes 2 bs.length ++ leBytes 2 (Config.spdmChain.length - off - bs.length) ++ bs) x))) ∧
    (Asks d req 0x83 3 36 → proven = true →
      let body := chain ++ drawn d 0 32 ++ d.measSummary p2 ++ [0, 0]
      (p1 ≠ 0 → Does (.spdmChallenge req) s (SpdmFailed d 1)) ∧
      (p1 = 0 → Does (.spdmChallenge req) s (Responded (drew d 1) req 3 0 1
        (body ++ spdmSign "responder-challenge_auth signing" (x.transcript ++ req ++ [0x12, 3, 0, 1] ++ body)) x))) ∧
    (Asks d req 0xE0 3 (if signedAll then 37 else 4) → proven = true →
      let blocks := if p2 = 0 then [] else if p2 = 0xFF then (List.range 4).map (fun k => d.measBlock (k + 1)) else [d.measBlock p2]
      let many := if p2 = 0 then 4 else 0
      let body := [blocks.length] ++ leBytes 3 blocks.flatten.length ++ blocks.flatten ++ drawn d 0 32 ++ [0, 0]
      let sig := if signedAll then spdmSign "responder-measurements signing" (x.transcript ++ req ++ [0x12, 0x60, many, 0] ++ body) else []
      (4 < p2 → p2 ≠ 0xFF → Does (.spdmGetMeasurements req) s (SpdmFailed d 1)) ∧
      (p2 ≤ 4 ∨ p2 = 0xFF → Does (.spdmGetMeasurements req) s (Responded (drew d 1) req 0x60 many 0 (body ++ sig) x))) ∧
    (∀ k ∈ [1, 2, 3, 4], d.measBlock k = [k, 1, 35, 0, k, 32, 0] ++ leBytes 32 (d.measurement k)) ∧
    (Asks d req 0xE4 3 136 → proven = true →
      let half := (1 + x.sessions.length + x.opening.length) % 2 ^ 16
      let body := leBytes 2 half ++ [0, 0] ++ drawn d 0 32 ++ drawn d 1 96 ++ d.measSummary p1 ++ [0, 0]
      let t := x.transcript ++ req ++ [0x12, 0x64, 0, 0] ++ body
      let sig := spdmSign "responder-key_exchange_rsp signing" t
      (p2 ≠ 0 → Does (.spdmKeyExchange req) s (SpdmFailed d 1)) ∧
      (p2 = 0 → Does (.spdmKeyExchange req) s (Responded (drew d 2) req 0x64 0 0 (body ++ sig ++ padTo 32 (Config.spdmVerify 0 (t ++ sig)))
        { x with opening := [leAt req 4 2 + half * 2 ^ 16] }))) ∧
    (Asks d req 0xE5 3 36 →
      let t := x.transcript ++ req.take 4
      let proof := (req.drop 4).take 32
      (x.opening = [] → Does (.spdmFinish req) s (SpdmFailed d 4)) ∧
      (x.opening ≠ [] → proof ≠ padTo 32 (Config.spdmVerify 1 t) → Does (.spdmFinish req) s (fun e =>
        SpdmFailed { d with host := { d.host with spdm := { x with opening := [] } } } 6 e)) ∧
      (∀ sid r, x.opening = sid :: r → proof = padTo 32 (Config.spdmVerify 1 t) → Does (.spdmFinish req) s (Responded d req 0x65 0 0
        (padTo 32 (Config.spdmVerify 2 (t ++ proof))) { x with opening := [], sessions := x.sessions ++ [sid] }))) ∧
    (Asks d req 0xEC 3 4 →
      (x.sessions = [] → Does (.spdmEndSession req) s (SpdmFailed d 4)) ∧
      (x.sessions ≠ [] → Does (.spdmEndSession req) s (Responded d req 0x6C 0 0 [] { x with sessions := x.sessions.dropLast }))) ∧
    (d.mboxUp = false → exec (.ideKeyExchange req) s = .next s) ∧
    (d.mboxUp = true → x.sessions = [] → Does (.ideKeyExchange req) s (SpdmFailed d 4)) ∧
    (d.mboxUp = true → x.sessions ≠ [] →
      let obj := leAt req 1 1
      let other := decide (1 ≤ leAt req 0 1)
      let at0 := (if other then 65536 else 0) + 256 * leAt req 4 1 + leAt req 6 1
      let streams := ((x.ideKeys.map Prod.fst).filter (fun k => (k / 65536 == 1) == other)).map (fun k => k / 256 % 256)
      let room := leAt req 4 1 ∈ streams ∨ streams.eraseDups.length < if other then 1 else 3
      let acks (y : Spdm) (code st : Nat) (e : Dev) : Prop := e = { d with
        out := d.out ++ [.spdm code [leAt req 0 1, code, 0, 0, leAt req 4 1, st, leAt req 6 1, leAt req 7 1]]
        host := { d.host with spdm := y } }
      (obj = 0 → Does (.ideKeyExchange req) s (fun e => e = { d with out := d.out ++ [.spdm 1 [leAt req 0 1, 1, 0, p2, 0, 0, 0, 0]] })) ∧
      (obj = 2 → req.length < 48 → Does (.ideKeyExchange req) s (acks x 3 1)) ∧
      ((∀ y ∈ x.ideKeys, y.1 < 2 ^ 17) → obj = 2 → 48 ≤ req.length → ¬ room → Does (.ideKeyExchange req) s (acks x 3 3)) ∧
      ((∀ y ∈ x.ideKeys, y.1 < 2 ^ 17) → obj = 2 → 48 ≤ req.length → room → Does (.ideKeyExchange req) s (acks { x with ideKeys := pput at0 ((req.drop 8).take 40) x.ideKeys } 3 0)) ∧
      (obj = 4 → pget x.ideKeys at0 = none → Does (.ideKeyExchange req) s (acks x 6 0)) ∧
      (obj = 4 → pget x.ideKeys at0 ≠ none → Does (.ideKeyExchange req) s
        (acks { x with ideOn := x.ideOn.filter (fun y => y != at0) ++ [at0] } 6 0)) ∧
      (obj = 5 → Does (.ideKeyExchange req) s (acks { x with ideOn := x.ideOn.filter (fun y => y != at0), ideKeys := pdel at0 x.ideKeys } 6 0)) ∧
      (obj = 1 ∨ obj = 3 ∨ 5 < obj → Does (.ideKeyExchange req) s (SpdmFailed d 1)))

/-! ## The ledger, the deadlock detector and snapshots -/

/-- R438 to R448, R463, R464, R470, R473 to R475: a notice enters the ledger; the ledger's registers; a stall report counts and sends
a probe, or fails a full spill; the probe that closes a cycle spills its lowest sink, else it is abandoned. -/
def Obligations.LedgerAndDeadlockDetector : Prop :=
  ∀ (s : State) (b net i k esq : Nat),
    let d := s.dev
    let q := qnum b net i
    b < 256 → net < 3 → i < (if net = 0 then 92 else if net = 1 then 23 else 32) → k < 1024 → esq < 4096 →
    (∀ (j : Nat) (n : Notice), d.fab.lane[j]? = some n → Does (.faultNotice j) s (Ledgered d n.kind n.suspect n.esq n.reporter n.blocks n.count)) ∧
    (∀ j, d.fab.lane[j]? = none → exec (.faultNotice j) s = .next s) ∧
    (d.ready = false → ∀ c ∈ [Instr.ledgerClear, .ledgerCountClear, .ledgerSelWrite k, .esqLedgerWrite esq], exec c s = .next s) ∧
    (d.ready = true →
      Does .ledgerClear s (fun e => e.led.entries = d.led.fresh ∧ e.led.index = d.led.freshIndex ∧ e = { d with led := e.led }) ∧
      Does .ledgerCountClear s (fun e => (∀ f ∈ [FAB_LEDGER_STATUS_LEDGER_LOST, FAB_REPLAY_ZERO_FORWARDS, FAB_REPLAY_REPLAYS, FAB_TIE_T2_COUNT,
          FAB_DL_STAT_PROBES, FAB_DL_STAT_CYCLES, FAB_DL_STAT_ABANDONED, FAB_DL_STAT_EXHAUSTED], Cleared d e f) ∧
        e.flag FAB_LEDGER_STATUS_NEW = d.flag FAB_LEDGER_STATUS_NEW ∧ RegsBut [FAB_LEDGER_STATUS, FAB_REPLAY, FAB_TIE_T2, FAB_DL_STAT] d e ∧ Apart e d) ∧
      Does (.ledgerSelWrite k) s (fun e => e.fget FAB_LEDGER_SEL_INDEX = k ∧
        (∀ j < 8, e.rget (FAB_LEDGER_A + 8 * j) = BitVec.ofNat 64 (((d.led.entries[k]?).elim [] ledgerWords).getD j 0)) ∧
        RegsBut (FAB_LEDGER_SEL :: (List.range 8).map (fun j => FAB_LEDGER_A + 8 * j)) d e ∧ Apart e d) ∧
      Does (.esqLedgerWrite esq) s (fun e => e.fget FAB_ESQ_LEDGER_ESQ = esq ∧ (e.flag FAB_ESQ_LEDGER_VALID = true ↔ pget d.led.index esq ≠ none) ∧
        (∀ x, pget d.led.index esq = some x → e.fget FAB_ESQ_LEDGER_INDEX = x % 2 ^ 10) ∧ RegsBut [FAB_ESQ_LEDGER] d e ∧ Apart e d)) ∧
    (¬ SinkFull d b net i → exec (.stallReport b net i) s = .next s) ∧
    (SinkFull d b net i →
      let counted (e : Dev) : Prop := if d.flag FAB_OBS_CTRL_FREEZE then e.rget (BLK_QSTAT b net i) = d.rget (BLK_QSTAT b net i)
        else Counts d e (BLK_QSTAT_REPORTS b net i) 1
      (d.flag FAB_DL_CFG_ENABLE = false ∨ d.inRun = false → Does (.stallReport b net i) s (fun e => counted e ∧ RegsBut [BLK_QSTAT b net i] d e ∧ Apart e d)) ∧
      (d.flag FAB_DL_CFG_ENABLE = true → d.inRun = true →
        (d.spill q ≠ [] → d.sinkRoom b net i = false → Does (.stallReport b net i) s (fun e => counted e ∧ SpillFailed d q e ∧
          Ledgered d 0xD (sinkUnit q) (((d.queue q).head?).elim 0 Token.esq) (sinkUnit q) 0 1 e)) ∧
        (d.spill q = [] ∨ d.sinkRoom b net i = true → Does (.stallReport b net i) s (fun e => counted e ∧
          RegsBut [BLK_QSTAT b net i, FAB_DL_STAT] d e ∧
          e.fab.probes = (if d.fab.probes.length < 68 then d.fab.probes ++ [q] else d.fab.probes) ∧
          (if d.fab.probes.length < 4 then Counts d e FAB_DL_STAT_PROBES 1 else e.rget FAB_DL_STAT = d.rget FAB_DL_STAT) ∧
          e.fab = { d.fab with probes := e.fab.probes })))) ∧
    (let acts : Prop := q ∈ d.fab.probes.take 4 ∧ d.flag FAB_DL_CFG_ENABLE = true ∧ d.inRun = true ∧ d.fab.lane = []
     (¬ acts → exec (.probeResult b net i) s = .next s) ∧
     (acts →
      let ended (e : Dev) : Prop := e.fab.probes = d.fab.probes.erase q ∧ Counts d e FAB_DL_STAT_PROBES (if 4 < d.fab.probes.length then 1 else 0)
      (d.probe 1024 [] (.sink q) = none → Does (.probeResult b net i) s (fun e => ended e ∧ Counts d e FAB_DL_STAT_ABANDONED 1 ∧
        RegsBut [FAB_DL_STAT] d e ∧ e.led = d.led ∧ e.fab = { d.fab with probes := e.fab.probes })) ∧
      (∀ c l, d.probe 1024 [] (.sink q) = some (c :: l) →
        let x := (c :: l).foldl min c
        let n := (if x / 256 % 4 = 1 then 16 else 1) * ((d.queue x).length - 1)
        let fits := d.muUsable (x / 1024) = true ∧ d.areaUsed (x / 1024) + n ≤ 4096
        (fits → Does (.probeResult b net i) s (fun e => ended e ∧ Counts d e FAB_DL_STAT_CYCLES 1 ∧ e.fget FAB_DL_SPILL_LAST_QUEUE = x % 2 ^ 18 ∧
          Ledgered d 0xC (sinkUnit x) (((d.queue x).head?).elim 0 Token.esq) (sinkUnit x) 0 1 e ∧
          e.queue x = (d.queue x).take 1 ∧ e.spill x = (d.queue x).tail ++ d.spill x ∧
          ∀ y, y ≠ x → e.queue y = d.queue y ∧ e.spill y = d.spill y)) ∧
        (¬ fits → Does (.probeResult b net i) s (fun e => ended e ∧ Counts d e FAB_DL_STAT_CYCLES 1 ∧ e.fget FAB_DL_SPILL_LAST_QUEUE = x % 2 ^ 18 ∧
          SpillFailed d x e)))))

/-- R477 to R484, R490, R492, R493: TAKE latches the selected sections, or counts MISSED or shows BAD_AREA; STALL_CLEAR clears the
statistics, FREEZE stops them; a write of FAB_SNAP_AREA; the snapshot in progress is written to its slot, and the shadow's follows. -/
def Obligations.SnapshotsAndStatistics : Prop :=
  ∀ (s : State) (v : Nat) (on : Bool),
    let d := s.dev
    let sel := d.fget FAB_OBS_CTRL_TAKE_SELECTOR
    let slot := d.fget FAB_SNAP_AREA_SLOT_64K * 2 ^ 16
    let slots := d.fget FAB_SNAP_AREA_SLOTS
    let base := d.fget FAB_SNAP_AREA_BASE_4K * 2 ^ 12
    v < 2 ^ 64 →
    (d.ready = false → ∀ c ∈ [Instr.take, .stallClear, .freeze on, .snapAreaWrite v], exec c s = .next s) ∧
    (d.ready = true →
      (sel = 0 ∨ 32 ≤ sel ∨ slot = 0 ∨ slots = 0 → exec .take s = .next s) ∧
      (sel ≠ 0 → sel < 32 → slot ≠ 0 → slots ≠ 0 →
        (d.inRegion [1, 4] base (slot * slots) = false → Does .take s (fun e => e.flag FAB_SNAP_STATUS_BAD_AREA = true ∧
          RegsBut [FAB_SNAP_STATUS] d e ∧ Apart e d)) ∧
        (d.inRegion [1, 4] base (slot * slots) = true →
          (d.obs.latched = none → Does .take s (fun e => ∃ l, e.obs.latched = some l ∧ Latches d sel 0 0 [] l ∧ e.flag FAB_SNAP_STATUS_BUSY = true ∧
            e.flag FAB_SNAP_STATUS_BAD_AREA = false ∧ RegsBut [FAB_SNAP_STATUS] d e ∧ e = { d with regs := e.regs, obs := { d.obs with latched := some l } })) ∧
          (∀ l, d.obs.latched = some l → l.tick ≠ d.tick → Does .take s (fun e => Counts d e FAB_SNAP_STATUS_MISSED 1 ∧
            e.flag FAB_SNAP_STATUS_BAD_AREA = false ∧ RegsBut [FAB_SNAP_STATUS] d e ∧ Apart e d)) ∧
          (∀ l, d.obs.latched = some l → l.tick = d.tick → Does .take s (fun e => ∃ m, e = { d with obs := { d.obs with latched := some m } } ∧
            m.selector = sel ||| l.selector ∧ m.tasks = l.tasks ∧
            m.source = l.source ∧ m.entry = l.entry ∧
            ∀ k < 5, (∀ bs, pget l.sections k = some bs → (sel ||| l.selector).testBit k = true → pget m.sections k = some bs) ∧
              (pget l.sections k = none → sel.testBit k = true → pget m.sections k =
                some ([k, 0, 0, 0] ++ leBytes 4 ((d.section k).length + 8) ++ d.section k)))))) ∧
      Does .stallClear s (fun e => (∀ o, isStallReg o = false → e.rget o = d.rget o) ∧ Apart e d ∧
        ∀ b net i k, b < 256 → net < 3 → i < (if net = 0 then 92 else if net = 1 then 23 else 32) → k < 24 →
          (∀ f ∈ [BLK_QSTAT_STALL_TURNS b net i, BLK_QSTAT_REPORTS b net i, BLK_QSTAT_OCC_MAX b net i, BLK_UNIT_WAIT_OUT_WAIT_TURNS b k,
              BLK_UNIT_WAIT_IN_WAIT_TURNS b k, BLK_UNIT_BUSY_BUSY_TURNS b k],
            (pget d.regs f.off ≠ none → Cleared d e f) ∧ (pget d.regs f.off = none → e.fget f = d.fget f)) ∧
          e.fget (BLK_QSTAT_SPILL_HELD b net i) = d.fget (BLK_QSTAT_SPILL_HELD b net i)) ∧
      Does (.freeze on) s (fun e => e.flag FAB_OBS_CTRL_FREEZE = on ∧ e.fget FAB_OBS_CTRL_TAKE_SELECTOR = sel ∧ RegsBut [FAB_OBS_CTRL] d e ∧ Apart e d) ∧
      (d.flag FAB_SNAP_STATUS_BUSY = true → exec (.snapAreaWrite v) s = .next s) ∧
      (d.flag FAB_SNAP_STATUS_BUSY = false →
        let w := v / 2 ^ 48 % 2 ^ 8
        let n := v / 2 ^ 32 % 2 ^ 8
        let a := v % 2 ^ 25
        Does (.snapAreaWrite v) s (fun e => e.fget FAB_SNAP_AREA_SLOT_64K = w ∧ e.fget FAB_SNAP_AREA_SLOTS = n ∧ e.fget FAB_SNAP_AREA_BASE_4K = a ∧
          e.fget FAB_SNAP_STATUS_NEXT_SLOT = 0 ∧
          (e.flag FAB_SNAP_STATUS_BAD_AREA = true ↔ w ≠ 0 ∧ n ≠ 0 ∧ d.inRegion [1, 4] (2 ^ 12 * a) (2 ^ 16 * w * n) = false) ∧
          e.fget FAB_SNAP_STATUS_SNAP_SEQ = d.fget FAB_SNAP_STATUS_SNAP_SEQ ∧ RegsBut [FAB_SNAP_AREA, FAB_SNAP_STATUS] d e ∧ Apart e d))) ∧
    (d.obs.latched = none → exec .snapshotWritten s = .next s) ∧
    (∀ l, d.obs.latched = some l → l.tasks = [] →
      let seq := (d.fget FAB_SNAP_STATUS_SNAP_SEQ + 1) % 2 ^ 32
      let next := d.fget FAB_SNAP_STATUS_NEXT_SLOT
      let a := base + next * slot
      let room := slot - 64
      let whole := (l.sections.map Prod.snd).flatten
      let log := d.fget (LPX_REGION_BASE_MIB 0) * 2 ^ 20
      let logEnd := log + d.fget (LPX_REGION_SIZE_MIB 0) * 2 ^ 20
      Does .snapshotWritten s (fun e => ∃ body,
        let trunc := if whole.length ≤ room then 0 else 1
        let bytes := [0x53, 0x4E, 0x41, 0x50, 1, 0, l.selector, trunc] ++ leBytes 4 seq ++ leBytes 4 (64 + body.length) ++ l.head ++ body
        body.length ≤ room ∧ (whole.length ≤ room → body = whole) ∧
        (∀ k < bytes.length, ¬ (log ≤ a + k ∧ a + k < logEnd) → memGet e.mem (a + k) = bytes.getD k 0 % 256) ∧
        (∀ m, m < a ∨ a + bytes.length ≤ m → ¬ (log ≤ m ∧ m < logEnd) → memGet e.mem m = memGet d.mem m) ∧
        e.fget FAB_SNAP_STATUS_SNAP_SEQ = seq ∧ e.fget FAB_SNAP_STATUS_NEXT_SLOT = (next + 1) % max 1 slots % 2 ^ 8 ∧
        e.flag FAB_SNAP_STATUS_DONE = true ∧ (e.flag FAB_SNAP_STATUS_BUSY = true ↔ d.obs.shadow ≠ none) ∧
        (room < whole.length → e.flag FAB_SNAP_STATUS_TRUNCATED = true) ∧ RegsBut [FAB_SNAP_STATUS] d e ∧
        e.obs.latched = d.obs.shadow ∧ e.obs.shadow = none ∧ e.said = d.said ∧ e.rce = d.rce))

/-! ## Power -/

/-- R224, R498 to R506, R508, R510, R512, R514 to R517, R520: requests of the domains, refused or taken; regulator faults; the
adaptive voltage's step by the smallest slack; HOT_LOCK, the peaks, the main input's loss, and its averages. -/
def Obligations.PowerDomainsVoltageAndInput : Prop :=
  ∀ (s : State) (k cause mv mw da : Nat),
    let d := s.dev
    k < 30 → 1 ≤ cause → cause ≤ 3 → mv < 2 ^ 16 → mw < 2 ^ 32 → da < 2 ^ 16 →
    (∀ r ∈ [(Instr.reqOff k, 0), (.reqLow k, 1), (.reqOn k, 2), (.reqAuto k, 3)],
      (d.ready = false → exec r.1 s = .next s) ∧
      (d.ready = true → Conflicts d k r.2 → Does r.1 s (fun e => e.flag PWR_STATUS_REQ_REFUSED = true ∧ RegsBut [PWR_STATUS] d e ∧ Apart e d)) ∧
      (d.ready = true → ¬ Conflicts d k r.2 →
        let follows := d.pwr.up = true ∧ d.dom k ≠ 3 ∧ ¬ (d.flag PWR_STATUS_TRIPPED = true ∧ k < 28)
        (follows → ∃ st, Wanted d k r.2 st ∧ Does r.1 s (fun e => e.fget (PWR_DOMAIN_CTRL_REQ k) = r.2 ∧ DomainTakes d k st e)) ∧
        (¬ follows → Does r.1 s (fun e => e.fget (PWR_DOMAIN_CTRL_REQ k) = r.2 ∧ RegsBut [PWR_DOMAIN_CTRL k] d e ∧ Apart e d)))) ∧
    exec (.regulatorFault 30 cause) s = exec .timeBaseLoss s ∧
    (d.dom k = 0 ∨ d.dom k = 3 → exec (.regulatorFault k cause) s = .next s) ∧
    (d.dom k ≠ 0 → d.dom k ≠ 3 → Does (.regulatorFault k cause) s (fun e => e.dom k = 3 ∧ e.fget (PWR_DOMAIN_STAT_FAULT k) = cause ∧
      (∀ j < 30, j ≠ k → e.dom j = d.dom j) ∧
      (k < 16 → (∀ u ∈ domainUnits k, u ∈ e.fab.failed) ∧ (∀ b ∈ domainBlocks k, ∀ q, q / 1024 = b → ∀ x ∈ e.spill q, x.kind = .flush)) ∧
      (16 ≤ k → k < 20 → e.rget (VAT_DIE_FAIL (k - 16)) = BitVec.allOnes 64 ∧
        (d.runState = stRunning ∨ d.runState = stBreak → e.runState = stQuiescing)) ∧
      (20 ≤ k → k < 28 → ∀ p, p / 8 = k - 20 → e.pstate p = if d.pstate p = psOff then psOff else psDown) ∧
      (k = 29 → e.host.linkDown = true))) ∧
    (k < 16 →
      let v := d.volt k
      let target : Int := d.fget PWR_AVC_CFG_TARGET_SLACK_TICKS
      let ended (e : Dev) : Prop := e = { d with regs := e.regs, fresh := e.fresh, pwr := { d.pwr with winSlack := pdel k d.pwr.winSlack } }
      let idle := pget d.pwr.winSlack k = none ∨ d.fget PWR_AVC_CFG_MODE ≠ 0 ∨ d.dom k ≠ 2
      (idle → Does (.avcInterval k) s (fun e => ended e ∧ e.regs = d.regs)) ∧
      (∀ x, pget d.pwr.winSlack k = some x → ¬ idle → Does (.avcInterval k) s (fun e => ended e ∧ RegsBut [PWR_AVC_STAT k, PWR_DOMAIN_STAT k] d e ∧
        e.fint (PWR_AVC_STAT_WIN_SLACK k) = max (-32767) (min 32767 x) ∧
        (x < 0 → e.volt k = min (v + 50) d.vmax ∧ Counts d e (PWR_AVC_STAT_LATE_STEPS k) 1) ∧
        (0 ≤ x → x < target → e.volt k = min (v + 10) d.vmax ∧ Counts d e (PWR_AVC_STAT_UP_STEPS k) 1) ∧
        (0 ≤ x → target ≤ x →
          let lowers := target + d.fget PWR_AVC_CFG_HYST_TICKS ≤ x ∧ d.flag PWR_STATUS_WARN = false ∧ d.vfloor k < v
          (lowers → e.volt k = max (v - 10) (d.vfloor k) ∧ Counts d e (PWR_AVC_STAT_DOWN_STEPS k) 1) ∧
          (¬ lowers → e.volt k = v ∧ e.fget (PWR_AVC_STAT_DOWN_STEPS k) = d.fget (PWR_AVC_STAT_DOWN_STEPS k)))))) ∧
    (d.ready = false ∨ d.flag PWR_STATUS_WARN = true → exec .hotLockWrite s = .next s) ∧
    (∀ slot idx, slot < 16 → idx < 4096 → d.taskBegins slot idx 3 = true → d.flag PWR_STATUS_HOT_LOCK = true → TaskFails (.arm slot idx) s slot idx 5 0) ∧
    (d.ready = true → d.flag PWR_STATUS_WARN = false → Does .hotLockWrite s (fun e => Cleared d e PWR_STATUS_HOT_LOCK ∧
      RegsBut [PWR_STATUS] d e ∧ Apart e d)) ∧
    (d.ready = false → exec .peakClear s = .next s) ∧
    (d.ready = true → Does .peakClear s (fun e => (∀ j < 31, e.fint (PWR_TEMP_TEMP_PEAK j) = -32768 ∧ e.fget (PWR_TEMP_TEMP j) = d.fget (PWR_TEMP_TEMP j)) ∧
      RegsBut ((List.range 31).map PWR_TEMP) d e ∧ Apart e d)) ∧
    (1710 ≤ mv → exec (.mainUndervoltage mv) s = .next s) ∧
    (1620 ≤ mv → mv < 1710 → Does (.mainUndervoltage mv) s (fun e => e.flag PWR_STATUS_UV_WARN = true ∧ RegsBut [PWR_STATUS] d e ∧ Apart e d)) ∧
    (mv < 1620 → Does (.mainUndervoltage mv) s (fun e => e.flag PWR_STATUS_UV_WARN = true ∧ TurnedOff d (List.range 30) e ∧
      e.host.linkDown = true ∧ e.pwr.up = false ∧ e.rind.stopped = true ∧ e.flag RIND_STATUS_SEQ_RUNNING = false)) ∧
    Does .powerDown s (fun e => e.fget PWR_STATUS_UV_WARN = d.fget PWR_STATUS_UV_WARN ∧ TurnedOff d (List.range 30) e ∧
      e.host.linkDown = true ∧ e.pwr.up = false ∧ e.rind.stopped = true ∧ e.flag RIND_STATUS_SEQ_RUNNING = false) ∧
    Does (.powerAverage mw da mv) s (fun e =>
      let w := min (mw / 1000) 65535
      e.fget PWR_INPUT_POWER_W = w ∧ e.fget PWR_INPUT_POWER_PEAK_W = max w (d.fget PWR_INPUT_POWER_PEAK_W) ∧ e.fget PWR_INPUT_MAIN_DA = da ∧
      e.fget PWR_INPUT_MAIN_MV = mv ∧ e.fget PWR_ENERGY_ENERGY_MJ = min (d.fget PWR_ENERGY_ENERGY_MJ + (d.pwr.energyUj + mw) / 1000) (2 ^ 64 - 1) ∧
      e.pwr = { d.pwr with energyUj := (d.pwr.energyUj + mw) % 1000 } ∧ RegsBut [PWR_INPUT, PWR_ENERGY] d e ∧ e = { d with regs := e.regs, pwr := e.pwr })

/-- R507 to R509, R511, R521, R536: a reading sets every sensor's temperature and peak, TEMP_MAX and HOT_SENSOR; WARN with COOL_REQ,
cleared 2.0 °C below; CRIT, whose second reading in a row begins a protective quiesce; at 125.0 °C the trip turns the domains
off; a change of WARN, CRIT or TRIPPED lowers SMB_ALERT_N. -/
def Obligations.TemperaturesWarnQuiesceAndTrip : Prop :=
  ∀ (s : State) (temps : List Nat) (h : Nat),
    let d := s.dev
    let t (k : Nat) : Int := sx 16 (temps.getD k 0)
    let warn := d.flag PWR_STATUS_WARN
    let w : Int := d.fget PWR_THERM_CFG_WARN_DC
    let critical := (d.fget PWR_THERM_CFG_CRIT_DC : Int) ≤ t h
    let trips := (∃ k < 31, 1250 ≤ t k) ∧ d.flag PWR_STATUS_TRIPPED = false
    let second := critical ∧ d.pwr.critRun = 1 ∧ ¬ (d.flag PWR_STATUS_HOT_LOCK = true ∧ d.runState = stQuiescing)
    temps.length = 31 → (∀ x ∈ temps, x < 2 ^ 16) → Hottest d t h →
    Does (.tempReading temps) s (fun e =>
      (∀ k < 31, e.fint (PWR_TEMP_TEMP k) = t k ∧ e.fint (PWR_TEMP_TEMP_PEAK k) = max (d.fint (PWR_TEMP_TEMP_PEAK k)) (t k)) ∧
      e.fget PWR_STATUS_HOT_SENSOR = h ∧ e.fint PWR_STATUS_TEMP_MAX = t h ∧
      e.flag PWR_STATUS_WARN = (decide (w ≤ t h) || (warn && decide (w - 20 ≤ t h))) ∧
      (warn = false → w ≤ t h → e.flag PWR_STATUS_COOL_REQ = true) ∧ (warn = true → t h < w - 20 → e.flag PWR_STATUS_COOL_REQ = false) ∧
      e.flag PWR_STATUS_CRIT = decide critical ∧ e.pwr.critRun = (if critical then min (d.pwr.critRun + 1) 3 else 0) ∧
      (second ∨ trips → e.flag PWR_STATUS_HOT_LOCK = true ∧
        (d.runState = stRunning ∨ d.runState = stBreak → e.runState = stQuiescing)) ∧
      (trips → e.flag PWR_STATUS_TRIPPED = true ∧ e.pins.thermTrip = true ∧ TurnedOff d (List.range 28) e) ∧
      (¬ trips → e.flag PWR_STATUS_TRIPPED = d.flag PWR_STATUS_TRIPPED ∧ e.pins.thermTrip = d.pins.thermTrip) ∧
      (¬ second → ¬ trips → e.runState = d.runState ∧ e.fget PWR_STATUS_HOT_LOCK = d.fget PWR_STATUS_HOT_LOCK ∧ (∀ k < 30, e.dom k = d.dom k) ∧
        e.mem = d.mem ∧ e.ports = d.ports ∧ e.out = d.out) ∧
      (e.pins.smbAlert = true ↔ d.pins.smbAlert = true ∨ e.fget PWR_STATUS_WARN ≠ d.fget PWR_STATUS_WARN ∨
        e.fget PWR_STATUS_CRIT ≠ d.fget PWR_STATUS_CRIT ∨ e.fget PWR_STATUS_TRIPPED ≠ d.fget PWR_STATUS_TRIPPED))

/-! ## Reset, start-up and the board -/

/-- R417, R528 to R530, R538: a cold reset keeps nothing of LPDDR5X and releases THERM_TRIP_N; a device reset keeps LPDDR5X where it is
in self-refresh, where a CXL reset without memory clear places it; RESET_N stays low until it rises, which ends the TAP's
instructions that need it low. -/
def Obligations.ResetLevels : Prop :=
  ∀ (s : State),
    let d := s.dev
    let asleep := d.flag LPX_STATUS_SELF_REFRESH
    let resets (src : ResetSource) (kept : Bool) : Prop := ∃ e, ResetTo d d.out kept e ∧ exec (.deviceReset src) s = .next { s with
      dev := e
      jtag := { s.jtag with resetLow := s.jtag.resetLow || decide (src = .resetN) } }
    Does .coldReset s (ResetTo { d with pins := { d.pins with thermTrip := false } } d.out false) ∧
    resets .resetN asleep ∧ resets .perstN asleep ∧ resets (.cxl false) false ∧
    resets (.cxl true) (asleep || (d.dom 28 == dsOn && !d.rce.dead)) ∧
    exec .resetNRise s = .next { s with jtag := { s.jtag with
      resetLow := false
      tap := if s.jtag.tap ∈ [.extest, .clamp, .highz, .acExtest] then .bypass else s.jtag.tap } } ∧
    Does .rceWatchdog s (fun e => e = { d with rce := { d.rce with dead := true } })

/-- R219, R374, R528, R542, R543, R545 to R549, R552, R561 to R565, R570: start-up: recovery where flash or the firmware fails; else the
firmware and its digest, the identity, the device record, the owners, the domains and the boot march, LPDDR5X and the link,
with BOOT_ERR the first error; READY once no port holds it back, with the raised least SVN. -/
def Obligations.StartUpToReadyOrRecovery : Prop :=
  ∀ (s : State) (x : BootInput),
    let d := s.dev
    let code := if x.flashOk then d.romCheck else 1
    let identified := x.pufOk && d.certOk
    let recorded := x.recordOk && (!identified || d.certRecord == Config.recordDigest)
    let early := if x.pufOk then (if identified then 0 else 7) else 6
    x.wf = true →
    (s.jtag.resetLow = true ∨ d.fget SEC_BOOT_BOOT_STEP ≠ 0 → exec (.bootStart x) s = .next s) ∧
    (s.jtag.resetLow = false → d.fget SEC_BOOT_BOOT_STEP = 0 → d.fget SEC_BOOT_BOOT_ERR = 0 →
      (code ≠ 0 → Does (.bootStart x) s (fun e => StepsEnded d x 1 e ∧ e.flag SEC_STATUS_RECOVERY = true ∧ e.flag GLB_STATUS_RECOVERY = true ∧
        e.flag SEC_STATUS_FW_VERIFIED = d.flag SEC_STATUS_FW_VERIFIED ∧ e.owner = d.owner ∧ e.flash = d.flash ∧
        (x.lpOk = true → e.fget SEC_BOOT_BOOT_ERR = code ∧ e.out = d.out ++ d.rings 3 ∧ e.host.msixPending = d.pended 3 ∧ e.dom 28 = dsOn ∧ e.dom 29 = dsOn ∧
          e.fget LPX_STATUS_PKG_TRAINED = 0x1F ∧ e.boot.halted = d.boot.halted) ∧
        (x.lpOk = false → e.fget SEC_BOOT_BOOT_ERR = 9 ∧ e.boot.halted = true ∧ e.out = d.out))) ∧
      (code = 0 →
        let verified (e : Dev) : Prop := e.flag SEC_STATUS_FW_VERIFIED = true ∧ e.fget SEC_FW_SVN = leAt d.flashImage 0xC 4 ∧
          e.rget GLB_FW_VERSION = BitVec.ofNat 64 (leAt d.flashImage 0x10 8) ∧
          (∀ k < 4, e.fget (SEC_FW_DIGEST_DIGEST k) = fwDigest d.flashImage / 2 ^ (64 * k) % 2 ^ 64) ∧
          (identified = true → e.flag SEC_STATUS_IDENTITY_OK = true) ∧ e.flash = d.flash ∧ e.owner = d.owner
        let marched (e : Dev) : Prop := OwnerShown d.owner e ∧ e.fget SEC_FW_MIN_SVN = d.owner.minSvn % 2 ^ 32 ∧
          e.pwr.up = true ∧ e.pwr.needMarch = []
        (recorded = false → Does (.bootStart x) s (fun e => StepsEnded d x 3 e ∧ verified e ∧ e.boot.halted = true ∧
          e.fget SEC_BOOT_BOOT_ERR = if early = 0 then 8 else early)) ∧
        (recorded = true → x.lpOk = false → Does (.bootStart x) s (fun e => StepsEnded d x 7 e ∧ verified e ∧ marched e ∧ e.boot.halted = true ∧
          e.fget SEC_BOOT_BOOT_ERR = if early = 0 then 9 else early)) ∧
        (recorded = true → x.lpOk = true → Does (.bootStart x) s (fun e => StepsEnded d x 10 e ∧ verified e ∧ marched e ∧ e.boot.halted = d.boot.halted ∧
          e.fget LPX_STATUS_PKG_TRAINED = 0x1F ∧ e.flag LPX_STATUS_SR_KEPT = d.boot.kept ∧
          e.fget (LPX_REGION_KIND 0) = 5 ∧ e.fget (LPX_REGION_KIND 1) = 6 ∧ e.fget (LPX_REGION_KIND 2) = 8 ∧ e.fget (LPX_REGION_BASE_MIB 0) = 0x13C00 ∧
          e.fget (LPX_REGION_BASE_MIB 2) + e.fget (LPX_REGION_SIZE_MIB 2) = 0x14000 ∧
          (x.linkUp = true → e.host.link = x.link ∧ e.host.linkDown = false ∧ e.flag GLB_STATUS_FALLBACK = x.link.fallback) ∧
          e.fget SEC_BOOT_BOOT_ERR = if early ≠ 0 then early else if x.linkUp then 0 else 10)))) ∧
    (let settled (p : Nat) : Prop := d.flag (PL_CFG_TRAIN_EN p) = false ∨ d.pstate p = psActive ∨ d.pstate p = psDown ∨ d.flag (PL_LASER_LOS (p / 4)) = true
     let us := (d.tick - d.boot.start) / 800 % 2 ^ 32
     let may := d.fget SEC_BOOT_BOOT_STEP = 11 ∧ d.boot.halted = false ∧ ∀ p < 64, settled p
     let raises := (leAt d.flashImage 0x20 4).testBit 0 = true ∧ d.owner.minSvn < d.fget SEC_FW_SVN
     (¬ may → exec .bootReady s = .next s) ∧
     (may → Does .bootReady s (fun e => e.flag GLB_STATUS_READY = true ∧ e.fget SEC_BOOT_BOOT_STEP = 12 ∧ e.fget SEC_BOOT_READY_US = us ∧
       e.fget (SEC_STEP_END_END_US 11) = us ∧ RegsBut [SEC_STEP_END 11, SEC_BOOT, GLB_STATUS, SEC_FW] d e ∧
       e = { d with regs := e.regs, owner := e.owner } ∧
       (raises → e.owner = { d.owner with minSvn := d.fget SEC_FW_SVN } ∧ e.fget SEC_FW_MIN_SVN = d.fget SEC_FW_SVN) ∧
       (¬ raises → e.owner = d.owner ∧ e.rget SEC_FW = d.rget SEC_FW))))

/-- R536 to R538: SMBus reads return what the registers show, from the first step of start-up on, ports and lasers once the firmware
is verified; other codes are not acknowledged; the key 0xA5 begins a protective quiesce; the alert response; and the TAP's
instructions, those that drive pins acting only while RESET_N is low. -/
def Obligations.ManagementBusAndTestPort : Prop :=
  ∀ (s : State) (key code : Nat) (bits : List Nat),
    let d := s.dev
    let answers := d.fget SEC_BOOT_BOOT_STEP ≠ 0 ∧ d.rce.dead = false
    let sent (code : Nat) (ok : Bool) (bs : List Nat) (e : Dev) : Prop := e = { d with out := d.out ++ [.smbus code ok bs] }
    let status : List Fld := [GLB_STATUS_READY, GLB_STATUS_RECOVERY, PWR_STATUS_WARN, PWR_STATUS_CRIT, PWR_STATUS_TRIPPED, PWR_STATUS_HOT_LOCK,
      TU_STATUS_BASE_LOST, PWR_STATUS_COOL_REQ]
    let shown (bs : List Nat) : List Nat := if d.flag SEC_STATUS_FW_VERIFIED then bs else List.replicate 32 0
    key < 256 → 8 ≤ code → code < 256 → code ≠ 0x20 → (∀ x ∈ bits, x < 2) →
    (¬ answers → ∀ c ∈ [Instr.smbStatus, .smbTempMax, .smbPower, .smbMainMv, .smbSerial, .smbId, .smbLaserPower, .smbPortState, .smbQuiesce key,
      .smbOtherCode code, .smbAlertResponse], exec c s = .next s) ∧
    (answers →
      Does .smbStatus s (fun e => ∃ b < 256, sent 0 true [b] e ∧ ∀ k < 8, b.testBit k = (status.map d.flag).getD k false) ∧
      Does .smbTempMax s (sent 1 true (leBytes 2 (d.fget PWR_STATUS_TEMP_MAX))) ∧
      Does .smbPower s (sent 2 true (leBytes 2 (d.fget PWR_INPUT_POWER_W))) ∧
      Does .smbMainMv s (sent 3 true (leBytes 2 (d.fget PWR_INPUT_MAIN_MV))) ∧
      Does .smbSerial s (sent 4 true (leBytes 8 (d.rget GLB_SERIAL).toNat)) ∧
      Does .smbId s (sent 5 true (leBytes 8 (d.rget GLB_ID).toNat)) ∧
      Does .smbLaserPower s (sent 6 true (shown ((List.range 16).flatMap (fun k => leBytes 2 (d.fget (PL_LASER_POWER_UW k)))))) ∧
      Does .smbPortState s (sent 7 true (shown ((List.range 32).map (fun b => d.pstate (2 * b) + 16 * d.pstate (2 * b + 1))))) ∧
      Does (.smbOtherCode code) s (sent code false []) ∧
      Does .smbAlertResponse s (fun e => e = { d with pins := { d.pins with smbAlert := false } }) ∧
      (key ≠ 0xA5 ∨ (d.flag PWR_STATUS_HOT_LOCK = true ∧ d.runState = stQuiescing) → exec (.smbQuiesce key) s = .next s) ∧
      (key = 0xA5 → ¬ (d.flag PWR_STATUS_HOT_LOCK = true ∧ d.runState = stQuiescing) → Does (.smbQuiesce key) s (fun e =>
        e.flag PWR_STATUS_HOT_LOCK = true ∧ (d.runState = stRunning ∨ d.runState = stBreak → e.runState = stQuiescing) ∧
        (d.runState = stArmed → e.runState = stDrained)))) ∧
    exec .bypass s = .next { s with jtag := { s.jtag with tap := .bypass } } ∧
    (∀ r ∈ [(Instr.extest, TapInstr.extest), (.clamp, .clamp), (.highz, .highz), (.acExtestInstruction, .acExtest)],
      exec r.1 s = .next { s with jtag := { s.jtag with tap := if s.jtag.resetLow then r.2 else .bypass } }) ∧
    exec .tapReset s = .next { s with jtag := { s.jtag with tap := .idcode } } ∧
    (∃ word : List Nat, exec .idcode s = .next { s with dev := { d with out := d.out ++ [.tap word] }, jtag := { s.jtag with tap := .idcode } } ∧
      word.length = 32 ∧ (∀ k < 4, word.getD (28 + k) 0 = d.fget GLB_ID_STEPPING / 2 ^ k % 2) ∧
      ∀ k < 16, word.getD (12 + k) 0 = 0x0004 / 2 ^ k % 2) ∧
    exec (.samplePreload bits) s = .next { s with
      dev := { d with out := d.out ++ [.tap (Config.pinSample d.freeIdx)], freeIdx := d.freeIdx + 1 }
      jtag := { s.jtag with tap := .samplePreload, boundary := bits } }

/-! ## Register writes -/

/-- R10 to R12, R89, R396, R397, R507, R376: a register write: a size or alignment that is not allowed, no register, a configuration
register, and a block that does not respond; fields by their access codes; and registers whose write is another command. The
write of the data port's window is DP_WINDOW_WRITE. -/
def Obligations.RegisterWritesByAccess : Prop :=
  ∀ (s : State) (addr size v k : Nat),
    let d := s.dev
    let off := addr - addr % 8
    let window := 0x21000 ≤ addr ∧ addr < 0x22000
    let aligned := (size = 4 ∨ size = 8) ∧ addr % size = 0
    let responds := d.ready = true ∨ addr < 0x10000 ∨ (0x380000 ≤ addr ∧ addr < 0x400000)
    let c := Instr.registerWrite addr size v
    let sets (f : Fld) : Prop := Does c s (fun e => e.flag f = true ∧ RegsBut [f.off] d e ∧ Apart e d)
    addr < 2 ^ 26 → v < 2 ^ 64 → k < 16 →
    (window → exec c s = .next s) ∧
    (¬ window → ¬ aligned → sets GLB_STATUS_BAD_ACCESS) ∧
    (¬ window → aligned → ¬ responds → exec c s = .next s) ∧
    (¬ window → aligned → responds → regAt off = none → sets GLB_STATUS_UNMAPPED) ∧
    (∀ r, ¬ window → aligned → responds → regAt off = some r → r.cfg = true → sets FAB_STATUS_CFG_WRITE_DROP) ∧
    (∀ r, aligned → responds → regAt off = some r → r.cfg = false →
      (off < 0x10000 ∧ off ∉ [GLB_CQ_BASE, GLB_CQ_CFG, GLB_CQ_HEAD]) ∨ (0x80000 ≤ off ∧ off < 0x100000 ∧
        off ∉ [FAB_CTRL, FAB_LEDGER_CTRL, FAB_LEDGER_SEL, FAB_ESQ_LEDGER, FAB_OBS_CTRL, FAB_SNAP_AREA, FAB_DL_CFG]) →
      let lo := 8 * (addr % 8)
      let reached (i : Nat) : Prop := lo ≤ i ∧ i < lo + 8 * size
      Does c s (fun e => RegsBut [off] d e ∧ Apart e d ∧ ∀ i < 64,
        (reached i → r.w1c.testBit i = false → r.rw.testBit i = true → (e.rget off).getLsbD i = v.testBit (i - lo)) ∧
        (reached i → r.w1c.testBit i = true → v.testBit (i - lo) = true → (e.rget off).getLsbD i = (d.freshGet off).getLsbD i) ∧
        (reached i → r.w1c.testBit i = true → r.rw.testBit i = false → v.testBit (i - lo) = false → (e.rget off).getLsbD i = (d.rget off).getLsbD i) ∧
        (¬ reached i ∨ (r.w1c.testBit i = false ∧ r.rw.testBit i = false) → (e.rget off).getLsbD i = (d.rget off).getLsbD i))) ∧
    (d.ready = true → ∀ r ∈ [(RCE_SUBMIT, Instr.graphSubmit (v / 2 ^ 32 % 2 ^ 16) (v % 2 ^ 13)), (RCE_LOAD_CFG, .loadCfgWrite v),
        (RCE_CHAR_QUERY, .charQueryWrite v), (GLB_CQ_HEAD, .cqHeadWrite (v % 2 ^ 16)), (TU_TIME_SET, .timeSet v), (RIND_STAMP_SEL, .stampSelWrite (v % 2 ^ 12)),
        (RIND_STREAM_CFG (k % 8), .streamCfgWrite (k % 8) v), (FAB_LEDGER_SEL, .ledgerSelWrite (v % 2 ^ 10)), (FAB_ESQ_LEDGER, .esqLedgerWrite (v % 2 ^ 12)),
        (FAB_SNAP_AREA, .snapAreaWrite v), (VAT_CURD_AREA, .curdAreaWrite v), (VAT_CURD_PTR, .curdRdWrite v), (VAT_CURD_RULE k, .curdRuleWrite k v)],
      exec (.registerWrite r.1 8 v) s = exec r.2 s) ∧
    (d.ready = true → v.testBit DP_CTRL_ABORT.lsb = true → d.flag DP_STATUS_BUSY = false → Does (.registerWrite DP_CTRL 8 v) s (fun e =>
      e.fget DP_CTRL_UNITS = v / 2 ^ 12 % 2 ^ 10 ∧ e.fget DP_CTRL_INC = v / 2 ^ 4 % 4 ∧ e.flag DP_CTRL_DIR = v.testBit 3 ∧
      e.flag DP_STATUS_BUSY = false ∧ RegsBut [DP_CTRL, DP_STATUS] d e)) ∧
    (d.ready = true → Does (.registerWrite FAB_DL_CFG 8 v) s (fun e => e.flag FAB_DL_CFG_ENABLE = v.testBit FAB_DL_CFG_ENABLE.lsb ∧
      (v.testBit FAB_DL_CFG_ENABLE.lsb = true → e.fab = d.fab) ∧ (v.testBit FAB_DL_CFG_ENABLE.lsb = false → e.fab = { d.fab with probes := [] }) ∧
      RegsBut [FAB_DL_CFG] d e)) ∧
    (∀ w < 2 ^ 16,
      let put := Instr.registerWrite (2 ^ 26 + 4 * w) 4 v
      let host (e : Dev) : Prop := e = { d with host := { d.host with bar2 := e.host.bar2 } } ∧ ∀ j, j ≠ w → e.bar2Word j = d.bar2Word j
      (w < 0x8000 ∨ (w < 0x8010 ∧ w % 4 ≠ 3) → Does put s (fun e => e.bar2Word w = v % 2 ^ 32 ∧ host e)) ∧
      (0x8010 ≤ w → exec put s = .next s) ∧
      (∀ n < 4, w = 0x8003 + 4 * n →
        (v % 2 = 1 ∨ bitAt d.host.msixPending n = false → Does put s (fun e => e.vectorOn n = decide (v % 2 = 0) ∧ host e)) ∧
        (v % 2 = 0 → bitAt d.host.msixPending n = true → Does put s (fun e => e.vectorOn n = true ∧ e.out = d.out ++ [.msix n] ∧
          bitAt e.host.msixPending n = false ∧ e.regs = d.regs)))) ∧
    (d.ready = true → v.testBit 32 = false → Does (.registerWrite PWR_THERM_CFG 8 v) s (fun e =>
      let crit := max 410 (min ((regReset PWR_THERM_CFG).toNat / 2 ^ 16 % 2 ^ 16) (v / 2 ^ 16 % 2 ^ 16))
      e.fget PWR_THERM_CFG_CRIT_DC = crit ∧ e.fget PWR_THERM_CFG_WARN_DC = max 400 (min (crit - 10) (v % 2 ^ 16)) ∧ RegsBut [PWR_THERM_CFG] d e ∧ Apart e d)) ∧
    (d.ready = true → Does (.registerWrite TU_STEP_CFG 8 v) s (fun e => e.fget TU_STEP_CFG_LEAD_US = max 20 (min 10000 (v % 2 ^ 16)) ∧
      RegsBut [TU_STEP_CFG] d e)) ∧
    (d.ready = true → d.runState ≠ stIdle → d.runState ≠ stLoaded → d.runState ≠ stDrained → ∀ p < 64, Does (.registerWrite (PL_CFG p) 8 v) s (fun e =>
      e.fget (PL_CFG_ROLE p) = d.fget (PL_CFG_ROLE p) ∧ e.fget (PL_CFG_PAYLOAD_BYTES p) = d.fget (PL_CFG_PAYLOAD_BYTES p) ∧
      e.flag (PL_CFG_RETRY_EN p) = d.flag (PL_CFG_RETRY_EN p) ∧
      e.fget (PL_CFG_VERSION_MAX p) = bitsOf v (PL_CFG_VERSION_MAX p).lsb (PL_CFG_VERSION_MAX p).width))

/-! ## The whole machine -/

/-- A step with commands waiting is the command at the front run with the queue's rest; the command leaves the rest as it is. With
none waiting one tick of the clock passes (R24, R287; log entry 1: the model's choice). -/
def Obligations.StepRunsTheFrontCommand : Prop :=
  ∀ (s : State) (c : Instr) (rest : List Instr),
    step { s with pending := c :: rest } = exec c { s with pending := rest } ∧
    step { s with pending := [] } = .next { s with pending := [], dev := { s.dev with
      tick := s.dev.tick + 1, time := (s.dev.time + s.dev.fget TU_INC_INC) % 2 ^ 96, fresh := [], led := { s.dev.led with fresh := [], freshIndex := [] } } }

/-- Every command whose operands name what the device has answers a next state and leaves the commands that wait as they are;
one whose operands do not is a fault, and no command is refused. -/
def Obligations.EveryWellFormedCommandCompletes : Prop :=
  ∀ (c : Instr) (s : State),
    (c.wf = true → ∃ t, exec c s = .next t ∧ t.pending = s.pending) ∧ (c.wf = false → exec c s = .fault .noSuchUnit)

/-- R24, R91, R93, R267, R298, R412, R529, R538, R542, R561: what reset leaves: the tick counter, the run state, the device not READY and
its start-up not begun, no token, frame, graph or entry, the fabric's block identifiers, and memory with nothing listed. The
TAP holds IDCODE (the model's choice), so no instruction that needs RESET_N low is in force. -/
def Obligations.WhatResetLeaves : Prop :=
  let d := State.reset.dev
  State.reset.pending = [] ∧ TapLawful State.reset ∧ d.tick = 0 ∧ d.runState = stIdle ∧ d.ready = false ∧ d.flag GLB_STATUS_RECOVERY = false ∧
  d.fget SEC_BOOT_BOOT_STEP = 0 ∧ d.flag TU_STATUS_TIME_VALID = false ∧ (∀ q, d.queue q = [] ∧ d.stageOf q = none) ∧ (∀ slot, d.graph slot = none) ∧
  d.led.entries = [] ∧ d.host.hold = [] ∧ d.host.cseq = 0 ∧ d.mem = [] ∧ Memory.wf d.mem = true ∧ d.owner.enrolled = false ∧
  (∀ b < 256, d.fget (BLK_ID_BLOCK b) = b)

/-- R538: in every state a step keeps what the test port promises: an instruction that drives pins is in force only while RESET_N
is low. -/
def Obligations.EveryStepKeepsTheTestPortLawful : Prop :=
  ∀ (s t : State), TapLawful s → step s = .next t → TapLawful t

/-- R107 to R110: for every well-formed tile instruction, decode of its word gives it back, and a word that decodes is the word of the
well-formed instruction it decodes to: no bit is dropped and no other word is legal. -/
def Obligations.TileWordsDecodeAndEncodeAgree : Prop :=
  (∀ (i : Instr) (w : Nat) (g : Guard), i.wf = true → i.issue = some (bareIssue g) → tileWord i = some w → w < 2 ^ 32 ∧ tileDecode w = some i) ∧
  (∀ (i : Instr) (w : Nat), w < 2 ^ 32 → tileDecode w = some i → i.wf = true ∧ tileWord i = some w)
end

