-- ==== Sys2Proof/Laws/Sparse.lean ====
section
/-!
SUPPORT. The laws of the finite maps: what a lookup gives after an insertion or a removal, and that both keep the keys rising.
-/

namespace Sys2Proof.Machine

variable {α : Type}

@[simp] theorem pget_pput_self (x : Nat) (a : α) (m : PMap α) : pget (pput x a m) x = some a := by
  induction m with
  | nil => simp [pput, pget]
  | cons e r ih =>
    obtain ⟨k, v⟩ := e
    simp only [pput]
    split
    · simp [pget]
    · split
      · simp [pget]
      · rename_i h _; simp [pget, Ne.symm h, ih]

theorem pget_pput_ne {x y : Nat} (h : y ≠ x) (a : α) (m : PMap α) : pget (pput x a m) y = pget m y := by
  induction m with
  | nil => simp [pput, pget, Ne.symm h]
  | cons e r ih =>
    obtain ⟨k, v⟩ := e
    simp only [pput]
    split
    · subst_vars; simp [pget, Ne.symm h]
    · split
      · simp [pget, Ne.symm h]
      · simp [pget, ih]

@[simp] theorem pget_pdel_self (x : Nat) (m : PMap α) : pget (pdel x m) x = none := by
  induction m with
  | nil => rfl
  | cons e r ih =>
    obtain ⟨k, v⟩ := e
    by_cases h : k = x
    · subst h; simpa [pdel] using ih
    · have : pdel x ((k, v) :: r) = (k, v) :: pdel x r := by simp [pdel, h]
      rw [this]; simp [pget, h, ih]

theorem pget_pdel_ne {x y : Nat} (h : y ≠ x) (m : PMap α) : pget (pdel x m) y = pget m y := by
  induction m with
  | nil => rfl
  | cons e r ih =>
    obtain ⟨k, v⟩ := e
    by_cases hk : k = x
    · have : pdel x ((k, v) :: r) = pdel x r := by simp [pdel, hk]
      rw [this, ih]; subst hk; simp [pget, Ne.symm h]
    · have : pdel x ((k, v) :: r) = (k, v) :: pdel x r := by simp [pdel, hk]
      rw [this]; simp [pget, ih]

theorem rising_cons {k : Nat} {v : α} {r : PMap α} :
    rising ((k, v) :: r) = true ↔ (∀ e ∈ r, k < e.1) ∧ rising r = true := by
  induction r generalizing k v with
  | nil => simp [rising]
  | cons e r ih =>
    obtain ⟨k', v'⟩ := e
    have h' := @ih k' v'
    simp only [rising, Bool.and_eq_true, decide_eq_true_eq, List.mem_cons, forall_eq_or_imp] at h' ⊢
    constructor
    · rintro ⟨hk, hr⟩
      exact ⟨⟨hk, fun e he => Nat.lt_trans hk ((h'.1 hr).1 e he)⟩, hr⟩
    · rintro ⟨⟨hk, _⟩, hr⟩
      exact ⟨hk, hr⟩

theorem rising_filter (p : Nat × α → Bool) {m : PMap α} (h : rising m = true) : rising (m.filter p) = true := by
  induction m with
  | nil => rfl
  | cons e r ih =>
    obtain ⟨k, v⟩ := e
    rw [rising_cons] at h
    simp only [List.filter_cons]
    split
    · rw [rising_cons]
      exact ⟨fun e he => h.1 e (List.mem_filter.1 he).1, ih h.2⟩
    · exact ih h.2

theorem rising_pdel (x : Nat) {m : PMap α} (h : rising m = true) : rising (pdel x m) = true := rising_filter _ h

theorem mem_pput {x : Nat} {a : α} {m : PMap α} {e : Nat × α} (h : e ∈ pput x a m) : e = (x, a) ∨ e ∈ m := by
  induction m with
  | nil => exact .inl (by simpa [pput] using h)
  | cons f r ih =>
    obtain ⟨k, v⟩ := f
    simp only [pput] at h
    split at h
    · rcases List.mem_cons.1 h with h | h
      · exact .inl h
      · exact .inr (List.mem_cons_of_mem _ h)
    · split at h
      · rcases List.mem_cons.1 h with h | h
        · exact .inl h
        · exact .inr h
      · rcases List.mem_cons.1 h with h | h
        · exact .inr (h ▸ List.mem_cons_self)
        · rcases ih h with h | h
          · exact .inl h
          · exact .inr (List.mem_cons_of_mem _ h)

theorem rising_pput (x : Nat) (a : α) {m : PMap α} (h : rising m = true) : rising (pput x a m) = true := by
  induction m with
  | nil => rfl
  | cons e r ih =>
    obtain ⟨k, v⟩ := e
    have hc := rising_cons.1 h
    simp only [pput]
    split
    · subst_vars; exact rising_cons.2 hc
    · split
      · rename_i hlt
        refine rising_cons.2 ⟨fun e he => ?_, h⟩
        rcases List.mem_cons.1 he with rfl | he
        · exact hlt
        · exact Nat.lt_trans hlt (hc.1 e he)
      · refine rising_cons.2 ⟨fun e he => ?_, ih hc.2⟩
        rcases mem_pput he with rfl | he
        · show k < x; omega
        · exact hc.1 e he

end Sys2Proof.Machine
end

