-- ==== Sys2Proof/Laws/Memory.lean ====
section
/-!
SUPPORT. The memory laws: a read after a write, what a write leaves alone, and that every memory operation keeps the canonical
form.
-/

namespace Sys2Proof.Machine

open Sys2Proof

theorem memGet_memPut_self (m : List Host.Cell) (a v : Nat) : memGet (memPut m a v) a = v % 256 := by
  unfold memPut memGet
  split
  · rename_i h
    have := congrArg BitVec.toNat h
    simp at this ⊢
    omega
  · simp

theorem memGet_memPut_ne (m : List Host.Cell) {a b : Nat} (h : b ≠ a) (v : Nat) : memGet (memPut m a v) b = memGet m b := by
  unfold memPut memGet
  split
  · rw [pget_pdel_ne h]
  · rw [pget_pput_ne h]

theorem memGet_memPuts_outside (m : List Host.Cell) (a : Nat) (bs : List Nat) (b : Nat) (h : b < a ∨ a + bs.length ≤ b) :
    memGet (memPuts m a bs) b = memGet m b := by
  induction bs generalizing m a with
  | nil => rfl
  | cons v vs ih =>
    simp only [memPuts, List.length_cons] at h ⊢
    rw [ih _ _ (by omega), memGet_memPut_ne _ (by omega)]

theorem memGet_memPuts_inside (m : List Host.Cell) (a : Nat) (bs : List Nat) (k : Nat) (h : k < bs.length) :
    memGet (memPuts m a bs) (a + k) = bs[k] % 256 := by
  induction bs generalizing m a k with
  | nil => simp at h
  | cons v vs ih =>
    simp only [memPuts]
    cases k with
    | zero => rw [memGet_memPuts_outside _ _ _ _ (by omega)]; simpa using memGet_memPut_self m a v
    | succ k =>
      simp only [List.length_cons] at h
      have := ih (memPut m a v) (a + 1) k (by omega)
      simpa [Nat.add_assoc, Nat.add_comm 1 k] using this

theorem Memory.wf_iff (m : List Host.Cell) : Memory.wf m = true ↔ rising m = true ∧ ∀ e ∈ m, e.2 ≠ 0#8 := by
  simp [Memory.wf]

theorem Memory.wf_filter (p : Host.Cell → Bool) {m : List Host.Cell} (h : Memory.wf m = true) : Memory.wf (m.filter p) = true := by
  rw [Memory.wf_iff] at h ⊢
  exact ⟨rising_filter p h.1, fun e he => h.2 e (List.mem_filter.1 he).1⟩

theorem Memory.wf_memPut (a v : Nat) {m : List Host.Cell} (h : Memory.wf m = true) : Memory.wf (memPut m a v) = true := by
  unfold memPut
  split
  · exact Memory.wf_filter _ h
  · rename_i hv
    rw [Memory.wf_iff] at h ⊢
    refine ⟨rising_pput _ _ h.1, fun e he => ?_⟩
    rcases mem_pput he with rfl | he
    · exact hv
    · exact h.2 e he

theorem Memory.wf_memPuts (a : Nat) (bs : List Nat) {m : List Host.Cell} (h : Memory.wf m = true) :
    Memory.wf (memPuts m a bs) = true := by
  induction bs generalizing m a with
  | nil => exact h
  | cons v vs ih => exact ih _ (Memory.wf_memPut _ _ h)

theorem Memory.wf_poke (d : Dev) (a : Nat) (bs : List Nat) (h : Memory.wf d.mem = true) : Memory.wf (d.poke a bs).mem = true :=
  Memory.wf_memPuts _ _ h

theorem Memory.wf_zeroSpan (d : Dev) (a n : Nat) (h : Memory.wf d.mem = true) : Memory.wf (d.zeroSpan a n).mem = true :=
  Memory.wf_filter _ h

theorem Memory.wf_foldl_put {α : Type} (f : α → Nat × Nat) (l : List α) {m : List Host.Cell} (h : Memory.wf m = true) :
    Memory.wf (l.foldl (fun m e => memPut m (f e).1 (f e).2) m) = true := by
  induction l generalizing m with
  | nil => exact h
  | cons e l ih => exact ih (Memory.wf_memPut _ _ h)

theorem Memory.wf_reset : Memory.wf Dev.reset.mem = true := rfl

end Sys2Proof.Machine
end

