-- ==== Sys2Proof/Laws/PerInstr.lean ====
section
/-!
SUPPORT. What holds of every command as syntax: the table gives no row any bits, so no word spells it.
-/

namespace Sys2Proof.Laws.CommandForm

/-- No word of any length spells the command. -/
def Statement (i : Instr) : Prop := ∀ nbits w, decodeTableWord nbits w ≠ some i

/-- No word spells any command. -/
theorem all (i : Instr) : Statement i := fun _ _ h => by cases h

theorem registerWrite (addr : Nat) (size : Nat) (data : Nat) : Statement (.registerWrite addr size data) := all _
theorem frameBoundary : Statement .frameBoundary := all _
theorem frameEligible (p : Nat) : Statement (.frameEligible p) := all _
theorem lookbackDelivery (b : Nat) (a : Nat) (bad : List Nat) (rereads : Nat) : Statement (.lookbackDelivery b a bad rereads) := all _
theorem resultArrival (e : Nat) : Statement (.resultArrival e) := all _
theorem faultNotice (k : Nat) : Statement (.faultNotice k) := all _
theorem tieReport (k : Nat) : Statement (.tieReport k) := all _
theorem deadline (s : Nat) (esq : Nat) : Statement (.deadline s esq) := all _
theorem horizon (s : Nat) (esq : Nat) : Statement (.horizon s esq) := all _
theorem timeBaseLoss : Statement .timeBaseLoss := all _
theorem holdoverEnd : Statement .holdoverEnd := all _
theorem rindCountClear : Statement .rindCountClear := all _
theorem slackClear : Statement .slackClear := all _
theorem closeInputs (v : Bool) : Statement (.closeInputs v) := all _
theorem stampSelWrite (esq : Nat) : Statement (.stampSelWrite esq) := all _
theorem streamCfgWrite (s : Nat) (v : Nat) : Statement (.streamCfgWrite s v) := all _
theorem tokenTransfer (b : Nat) (net : Nat) (i : Nat) (o : Offer) : Statement (.tokenTransfer b net i o) := all _
theorem turnMonWindow (rates : List Nat) : Statement (.turnMonWindow rates) := all _
theorem turnMinClear : Statement .turnMinClear := all _
theorem tieCountClear : Statement .tieCountClear := all _
theorem tileFiringStart (b : Nat) (t : Nat) (f : Nat) (gap : Option Nat) : Statement (.tileFiringStart b t f gap) := all _
theorem nop (x : Issue) : Statement (.nop x) := all _
theorem end_ (x : Issue) : Statement (.end_ x) := all _
theorem br (x : Issue) (target : Nat) : Statement (.br x target) := all _
theorem loop (x : Issue) (ck : Nat) (target : Nat) : Statement (.loop x ck target) := all _
theorem add (x : Issue) (rd : Nat) (ra : Nat) (rb : Nat) : Statement (.add x rd ra rb) := all _
theorem sub (x : Issue) (rd : Nat) (ra : Nat) (rb : Nat) : Statement (.sub x rd ra rb) := all _
theorem and_ (x : Issue) (rd : Nat) (ra : Nat) (rb : Nat) : Statement (.and_ x rd ra rb) := all _
theorem or_ (x : Issue) (rd : Nat) (ra : Nat) (rb : Nat) : Statement (.or_ x rd ra rb) := all _
theorem xor_ (x : Issue) (rd : Nat) (ra : Nat) (rb : Nat) : Statement (.xor_ x rd ra rb) := all _
theorem shl (x : Issue) (rd : Nat) (ra : Nat) (rb : Nat) : Statement (.shl x rd ra rb) := all _
theorem shr (x : Issue) (rd : Nat) (ra : Nat) (rb : Nat) : Statement (.shr x rd ra rb) := all _
theorem sra (x : Issue) (rd : Nat) (ra : Nat) (rb : Nat) : Statement (.sra x rd ra rb) := all _
theorem adds (x : Issue) (rd : Nat) (ra : Nat) (rb : Nat) : Statement (.adds x rd ra rb) := all _
theorem subs (x : Issue) (rd : Nat) (ra : Nat) (rb : Nat) : Statement (.subs x rd ra rb) := all _
theorem min_ (x : Issue) (rd : Nat) (ra : Nat) (rb : Nat) : Statement (.min_ x rd ra rb) := all _
theorem max_ (x : Issue) (rd : Nat) (ra : Nat) (rb : Nat) : Statement (.max_ x rd ra rb) := all _
theorem minu (x : Issue) (rd : Nat) (ra : Nat) (rb : Nat) : Statement (.minu x rd ra rb) := all _
theorem maxu (x : Issue) (rd : Nat) (ra : Nat) (rb : Nat) : Statement (.maxu x rd ra rb) := all _
theorem mul (x : Issue) (rd : Nat) (ra : Nat) (rb : Nat) : Statement (.mul x rd ra rb) := all _
theorem mulu (x : Issue) (rd : Nat) (ra : Nat) (rb : Nat) : Statement (.mulu x rd ra rb) := all _
theorem addi (x : Issue) (rd : Nat) (ra : Nat) (imm : Nat) : Statement (.addi x rd ra imm) := all _
theorem andi (x : Issue) (rd : Nat) (ra : Nat) (imm : Nat) : Statement (.andi x rd ra imm) := all _
theorem ori (x : Issue) (rd : Nat) (ra : Nat) (imm : Nat) : Statement (.ori x rd ra imm) := all _
theorem xori (x : Issue) (rd : Nat) (ra : Nat) (imm : Nat) : Statement (.xori x rd ra imm) := all _
theorem shli (x : Issue) (rd : Nat) (ra : Nat) (n : Nat) : Statement (.shli x rd ra n) := all _
theorem shri (x : Issue) (rd : Nat) (ra : Nat) (n : Nat) : Statement (.shri x rd ra n) := all _
theorem srai (x : Issue) (rd : Nat) (ra : Nat) (n : Nat) : Statement (.srai x rd ra n) := all _
theorem movi (x : Issue) (rd : Nat) (imm : Nat) : Statement (.movi x rd imm) := all _
theorem movhi (x : Issue) (rd : Nat) (imm : Nat) : Statement (.movhi x rd imm) := all _
theorem extu (x : Issue) (rd : Nat) (ra : Nat) (pos : Nat) (len : Nat) : Statement (.extu x rd ra pos len) := all _
theorem exts (x : Issue) (rd : Nat) (ra : Nat) (pos : Nat) (len : Nat) : Statement (.exts x rd ra pos len) := all _
theorem ins (x : Issue) (rd : Nat) (ra : Nat) (pos : Nat) (len : Nat) : Statement (.ins x rd ra pos len) := all _
theorem popc (x : Issue) (rd : Nat) (ra : Nat) : Statement (.popc x rd ra) := all _
theorem clz (x : Issue) (rd : Nat) (ra : Nat) : Statement (.clz x rd ra) := all _
theorem sel (x : Issue) (rd : Nat) (ra : Nat) (rb : Nat) (ps : Nat) : Statement (.sel x rd ra rb ps) := all _
theorem rget (x : Issue) (rd : Nat) (ra : Nat) : Statement (.rget x rd ra) := all _
theorem rput (x : Issue) (ra : Nat) (rb : Nat) : Statement (.rput x ra rb) := all _
theorem lut (x : Issue) (rd : Nat) (ra : Nat) : Statement (.lut x rd ra) := all _
theorem luts (x : Issue) (rd : Nat) (ra : Nat) : Statement (.luts x rd ra) := all _
theorem lutw (x : Issue) (ra : Nat) (rb : Nat) : Statement (.lutw x ra rb) := all _
theorem cmpCc (x : Issue) (cc : Cond) (pd : Nat) (ra : Nat) (rb : Nat) : Statement (.cmpCc x cc pd ra rb) := all _
theorem cmpiCc (x : Issue) (cc : Cond) (pd : Nat) (ra : Nat) (imm : Nat) : Statement (.cmpiCc x cc pd ra imm) := all _
theorem plog (x : Issue) (pd : Nat) (pa : Nat) (pb : Nat) (fn : Nat) : Statement (.plog x pd pa pb fn) := all _
theorem pget_ (x : Issue) (rd : Nat) : Statement (.pget_ x rd) := all _
theorem pput_ (x : Issue) (ra : Nat) : Statement (.pput_ x ra) := all _
theorem cldi (x : Issue) (ck : Nat) (imm : Nat) : Statement (.cldi x ck imm) := all _
theorem cld (x : Issue) (ck : Nat) (ra : Nat) : Statement (.cld x ck ra) := all _
theorem cget (x : Issue) (rd : Nat) (ck : Nat) : Statement (.cget x rd ck) := all _
theorem cstep (x : Issue) (ck : Nat) (pd : Nat) : Statement (.cstep x ck pd) := all _
theorem recv (x : Issue) (rd : Nat) (port : Nat) (pe : Bool) (pd : Nat) : Statement (.recv x rd port pe pd) := all _
theorem send (x : Issue) (port : Nat) (ra : Nat) : Statement (.send x port ra) := all _
theorem sendM (x : Issue) (port : Nat) (ra : Nat) : Statement (.sendM x port ra) := all _
theorem sendc (x : Issue) (ps : Nat) : Statement (.sendc x ps) := all _
theorem tileFlush (b : Nat) (t : Nat) : Statement (.tileFlush b t) := all _
theorem failedUnitConsume (unit : Nat) (input : Nat) : Statement (.failedUnitConsume unit input) := all _
theorem steer (b : Nat) (u : Nat) : Statement (.steer b u) := all _
theorem mergeBoth (b : Nat) (u : Nat) : Statement (.mergeBoth b u) := all _
theorem mergeSelected (b : Nat) (u : Nat) : Statement (.mergeSelected b u) := all _
theorem join (b : Nat) (u : Nat) : Statement (.join b u) := all _
theorem suFlush (b : Nat) (u : Nat) : Statement (.suFlush b u) := all _
theorem vuCycleStart (unit : Nat) (bad : VuParity) : Statement (.vuCycleStart unit bad) := all _
theorem vuRowIntake (unit : Nat) (bad : VuParity) : Statement (.vuRowIntake unit bad) := all _
theorem endOfAccumulation (unit : Nat) (bad : VuParity) : Statement (.endOfAccumulation unit bad) := all _
theorem vuTransform (unit : Nat) (bad : VuParity) : Statement (.vuTransform unit bad) := all _
theorem vuOutput (unit : Nat) (bad : VuParity) : Statement (.vuOutput unit bad) := all _
theorem vuFlush (unit : Nat) : Statement (.vuFlush unit) := all _
theorem aguRead (b : Nat) (a : Nat) (x : Access) : Statement (.aguRead b a x) := all _
theorem aguWrite (b : Nat) (a : Nat) (x : Access) : Statement (.aguWrite b a x) := all _
theorem aguWindow (b : Nat) (a : Nat) (x : Access) : Statement (.aguWindow b a x) := all _
theorem requestRead (b : Nat) (a : Nat) (x : Access) : Statement (.requestRead b a x) := all _
theorem requestWrite (b : Nat) (a : Nat) (x : Access) : Statement (.requestWrite b a x) := all _
theorem requestAdd (b : Nat) (a : Nat) (x : Access) : Statement (.requestAdd b a x) := all _
theorem fetch (b : Nat) : Statement (.fetch b) := all _
theorem fetchComplete (b : Nat) (tag : Nat) (x : LpRead) : Statement (.fetchComplete b tag x) := all _
theorem wait (b : Nat) : Statement (.wait b) := all _
theorem post (b : Nat) : Statement (.post b) := all _
theorem muFlush (b : Nat) : Statement (.muFlush b) := all _
theorem curdRecord : Statement .curdRecord := all _
theorem curdSlotRead (bad : List Nat) (rereads : Nat) : Statement (.curdSlotRead bad rereads) := all _
theorem curdCaptureComplete : Statement .curdCaptureComplete := all _
theorem curdEnableWrite (v : Bool) : Statement (.curdEnableWrite v) := all _
theorem curdCountClear : Statement .curdCountClear := all _
theorem curdAreaWrite (v : Nat) : Statement (.curdAreaWrite v) := all _
theorem curdRdWrite (v : Nat) : Statement (.curdRdWrite v) := all _
theorem curdRuleWrite (r : Nat) (v : Nat) : Statement (.curdRuleWrite r v) := all _
theorem memoryWake (mem : Nat) : Statement (.memoryWake mem) := all _
theorem graphSubmit (tag : Nat) (tasks : Nat) : Statement (.graphSubmit tag tasks) := all _
theorem taskDispatch (slot : Nat) (idx : Nat) : Statement (.taskDispatch slot idx) := all _
theorem graphAbort (slot : Nat) : Statement (.graphAbort slot) := all _
theorem load (slot : Nat) (idx : Nat) : Statement (.load slot idx) := all _
theorem unload (slot : Nat) (idx : Nat) : Statement (.unload slot idx) := all _
theorem arm (slot : Nat) (idx : Nat) : Statement (.arm slot idx) := all _
theorem start (slot : Nat) (idx : Nat) : Statement (.start slot idx) := all _
theorem stop (slot : Nat) (idx : Nat) : Statement (.stop slot idx) := all _
theorem segmentBreak (slot : Nat) (idx : Nat) : Statement (.segmentBreak slot idx) := all _
theorem segmentOpen (slot : Nat) (idx : Nat) : Statement (.segmentOpen slot idx) := all _
theorem install (slot : Nat) (idx : Nat) : Statement (.install slot idx) := all _
theorem registerBank (slot : Nat) (idx : Nat) : Statement (.registerBank slot idx) := all _
theorem march (slot : Nat) (idx : Nat) (x : MarchFails) : Statement (.march slot idx x) := all _
theorem copy (slot : Nat) (run : CopyRun) : Statement (.copy slot run) := all _
theorem taskNop (slot : Nat) (idx : Nat) : Statement (.taskNop slot idx) := all _
theorem breakReached : Statement .breakReached := all _
theorem drainTimeout : Statement .drainTimeout := all _
theorem drainedReached : Statement .drainedReached := all _
theorem relocation (fails : List Nat) (bad : List (Nat × Nat)) : Statement (.relocation fails bad) := all _
theorem loadCfgWrite (v : Nat) : Statement (.loadCfgWrite v) := all _
theorem charQueryWrite (v : Nat) : Statement (.charQueryWrite v) := all _
theorem servoUpdate : Statement .servoUpdate := all _
theorem revertToPrimary : Statement .revertToPrimary := all _
theorem ppsInEdge (sub : Nat) : Statement (.ppsInEdge sub) := all _
theorem time (p : RxBlock) (sym : Nat) (rx : Nat) : Statement (.time p sym rx) := all _
theorem step (p : RxBlock) (sym : Nat) : Statement (.step p sym) := all _
theorem timeSymbolSend (p : Nat) : Statement (.timeSymbolSend p) := all _
theorem stepSymbolSend (p : Nat) : Statement (.stepSymbolSend p) := all _
theorem sourceLoss : Statement .sourceLoss := all _
theorem stepAtReached : Statement .stepAtReached := all _
theorem resync : Statement .resync := all _
theorem timeSet (ns : Nat) : Statement (.timeSet ns) := all _
theorem timeRead : Statement .timeRead := all _
theorem tuCountClear : Statement .tuCountClear := all _
theorem schedWrite (i : Nat) : Statement (.schedWrite i) := all _
theorem schedRead (i : Nat) : Statement (.schedRead i) := all _
theorem schedCancel (i : Nat) : Statement (.schedCancel i) := all _
theorem schedEventPop : Statement .schedEventPop := all _
theorem scheduleFire (i : Nat) : Statement (.scheduleFire i) := all _
theorem trgoutEdge (t : Nat) : Statement (.trgoutEdge t) := all _
theorem tcapEdge (i : Nat) (falling : Bool) (sub : Nat) : Statement (.tcapEdge i falling sub) := all _
theorem tcapPop (i : Nat) : Statement (.tcapPop i) := all _
theorem ppsOutEdge : Statement .ppsOutEdge := all _
theorem frameAssembled (p : Nat) (f : RxFrame) : Statement (.frameAssembled p f) := all _
theorem protoErrDeferred (p : Nat) : Statement (.protoErrDeferred p) := all _
theorem quarantineProtoErr (p : Nat) : Statement (.quarantineProtoErr p) := all _
theorem violationWindowEnd (p : Nat) : Statement (.violationWindowEnd p) := all _
theorem align (p : RxBlock) (lane : Nat) (m : AlignMark) : Statement (.align p lane m) := all _
theorem alignSend (p : Nat) : Statement (.alignSend p) := all _
theorem credit (p : RxBlock) (grant : Nat) : Statement (.credit p grant) := all _
theorem idleEnter (p : RxBlock) : Statement (.idleEnter p) := all _
theorem retrainReq (p : RxBlock) : Statement (.retrainReq p) := all _
theorem retry (p : Nat) (seq : Nat) : Statement (.retry p seq) := all _
theorem portRecordSend (p : Nat) : Statement (.portRecordSend p) := all _
theorem resultFrameSend (p : Nat) : Statement (.resultFrameSend p) := all _
theorem captureSegmentSend (p : Nat) : Statement (.captureSegmentSend p) := all _
theorem creditTimeout (p : Nat) : Statement (.creditTimeout p) := all _
theorem signalDetect (p : Nat) : Statement (.signalDetect p) := all _
theorem train (p : Nat) (w : Nat) : Statement (.train p w) := all _
theorem equaliseDone (p : Nat) (taps : List Nat) : Statement (.equaliseDone p taps) := all _
theorem alignDone (p : Nat) : Statement (.alignDone p) := all _
theorem trainTimeout (p : Nat) : Statement (.trainTimeout p) := all _
theorem darkEnd (p : Nat) : Statement (.darkEnd p) := all _
theorem downRetry (p : Nat) (signal : Bool) : Statement (.downRetry p signal) := all _
theorem linkDrop (p : Nat) (loss : Bool) : Statement (.linkDrop p loss) := all _
theorem idleExit (p : Nat) : Statement (.idleExit p) := all _
theorem idleTimeout (p : Nat) (signal : Bool) : Statement (.idleTimeout p signal) := all _
theorem laserMeasure (k : Nat) (power : Nat) : Statement (.laserMeasure k power) := all _
theorem marginWarn (p : Nat) (bits : List Nat) : Statement (.marginWarn p bits) := all _
theorem retrain (p : Nat) : Statement (.retrain p) := all _
theorem idleReq (p : Nat) (v : Bool) : Statement (.idleReq p v) := all _
theorem logPop (p : Nat) : Statement (.logPop p) := all _
theorem plCountClear (p : Nat) : Statement (.plCountClear p) := all _
theorem testSettingWrite (p : Nat) (lane : Nat) (v : Nat) : Statement (.testSettingWrite p lane v) := all _
theorem slip (p : Nat) (lane : Nat) : Statement (.slip p lane) := all _
theorem injectOne (p : Nat) (lane : Nat) : Statement (.injectOne p lane) := all _
theorem cxlMemRead (addr : Nat) (x : LpRead) : Statement (.cxlMemRead addr x) := all _
theorem cxlMemWrite (addr : Nat) (bytes : List Nat) : Statement (.cxlMemWrite addr bytes) := all _
theorem snoop (addr : Nat) : Statement (.snoop addr) := all _
theorem hdmCommit (bi : Bool) : Statement (.hdmCommit bi) := all _
theorem cxlLinkDown : Statement .cxlLinkDown := all _
theorem cxlLinkUp (m : LinkMode) : Statement (.cxlLinkUp m) := all _
theorem dpStart (v : Nat) : Statement (.dpStart v) := all _
theorem dpAbort : Statement .dpAbort := all _
theorem dpWindowWrite (off : Nat) (bytes : List Nat) : Statement (.dpWindowWrite off bytes) := all _
theorem dpWindowRead (off : Nat) (size : Nat) (x : ServiceRead) : Statement (.dpWindowRead off size x) := all _
theorem dpBurstDone : Statement .dpBurstDone := all _
theorem cqEnable (v : Nat) : Statement (.cqEnable v) := all _
theorem cqHeadWrite (v : Nat) : Statement (.cqHeadWrite v) := all _
theorem cqStatClear : Statement .cqStatClear := all _
theorem cqEntryWrite : Statement .cqEntryWrite := all _
theorem cqInterrupt : Statement .cqInterrupt := all _
theorem getEventRecords (inp : List Nat) : Statement (.getEventRecords inp) := all _
theorem clearEventRecords (inp : List Nat) : Statement (.clearEventRecords inp) := all _
theorem getEventInterruptPolicy (inp : List Nat) : Statement (.getEventInterruptPolicy inp) := all _
theorem setEventInterruptPolicy (inp : List Nat) : Statement (.setEventInterruptPolicy inp) := all _
theorem getFwInfo (inp : List Nat) : Statement (.getFwInfo inp) := all _
theorem transferFw (inp : List Nat) : Statement (.transferFw inp) := all _
theorem activateFw (inp : List Nat) : Statement (.activateFw inp) := all _
theorem fwProgrammingDone (ok : Bool) : Statement (.fwProgrammingDone ok) := all _
theorem getTimestamp (inp : List Nat) : Statement (.getTimestamp inp) := all _
theorem setTimestamp (inp : List Nat) : Statement (.setTimestamp inp) := all _
theorem getSupportedLogs (inp : List Nat) : Statement (.getSupportedLogs inp) := all _
theorem getLog (inp : List Nat) : Statement (.getLog inp) := all _
theorem identifyMemoryDevice (inp : List Nat) : Statement (.identifyMemoryDevice inp) := all _
theorem getHealthInfo (inp : List Nat) : Statement (.getHealthInfo inp) := all _
theorem mailboxUnsupported (opcode : Nat) (inp : List Nat) : Statement (.mailboxUnsupported opcode inp) := all _
theorem getDeviceInfo (inp : List Nat) : Statement (.getDeviceInfo inp) := all _
theorem regionCreate (inp : List Nat) : Statement (.regionCreate inp) := all _
theorem regionFree (inp : List Nat) : Statement (.regionFree inp) := all _
theorem reset (inp : List Nat) : Statement (.reset inp) := all _
theorem logInfo (inp : List Nat) : Statement (.logInfo inp) := all _
theorem getCertificate (inp : List Nat) : Statement (.getCertificate inp) := all _
theorem attest (inp : List Nat) : Statement (.attest inp) := all _
theorem ownerEnrol (inp : List Nat) : Statement (.ownerEnrol inp) := all _
theorem ownerPolicy (inp : List Nat) : Statement (.ownerPolicy inp) := all _
theorem spdmGetVersion (req : List Nat) : Statement (.spdmGetVersion req) := all _
theorem spdmGetCapabilities (req : List Nat) : Statement (.spdmGetCapabilities req) := all _
theorem spdmNegotiateAlgorithms (req : List Nat) : Statement (.spdmNegotiateAlgorithms req) := all _
theorem spdmGetDigests (req : List Nat) : Statement (.spdmGetDigests req) := all _
theorem spdmGetCertificate (req : List Nat) : Statement (.spdmGetCertificate req) := all _
theorem spdmChallenge (req : List Nat) : Statement (.spdmChallenge req) := all _
theorem spdmGetMeasurements (req : List Nat) : Statement (.spdmGetMeasurements req) := all _
theorem spdmKeyExchange (req : List Nat) : Statement (.spdmKeyExchange req) := all _
theorem spdmFinish (req : List Nat) : Statement (.spdmFinish req) := all _
theorem spdmEndSession (req : List Nat) : Statement (.spdmEndSession req) := all _
theorem stallReport (b : Nat) (net : Nat) (i : Nat) : Statement (.stallReport b net i) := all _
theorem probeResult (b : Nat) (net : Nat) (i : Nat) : Statement (.probeResult b net i) := all _
theorem ledgerClear : Statement .ledgerClear := all _
theorem ledgerCountClear : Statement .ledgerCountClear := all _
theorem ledgerSelWrite (i : Nat) : Statement (.ledgerSelWrite i) := all _
theorem esqLedgerWrite (esq : Nat) : Statement (.esqLedgerWrite esq) := all _
theorem take : Statement .take := all _
theorem stallClear : Statement .stallClear := all _
theorem freeze (v : Bool) : Statement (.freeze v) := all _
theorem snapAreaWrite (v : Nat) : Statement (.snapAreaWrite v) := all _
theorem snapshotWritten : Statement .snapshotWritten := all _
theorem snapshot (slot : Nat) (idx : Nat) : Statement (.snapshot slot idx) := all _
theorem scanOut (slot : Nat) (idx : Nat) (bad : List Nat) : Statement (.scanOut slot idx bad) := all _
theorem scanIn (slot : Nat) (idx : Nat) : Statement (.scanIn slot idx) := all _
theorem reqOff (g : Nat) : Statement (.reqOff g) := all _
theorem reqLow (g : Nat) : Statement (.reqLow g) := all _
theorem reqOn (g : Nat) : Statement (.reqOn g) := all _
theorem reqAuto (g : Nat) : Statement (.reqAuto g) := all _
theorem regulatorFault (g : Nat) (cause : Nat) : Statement (.regulatorFault g cause) := all _
theorem avcInterval (d : Nat) : Statement (.avcInterval d) := all _
theorem tempReading (temps : List Nat) : Statement (.tempReading temps) := all _
theorem hotLockWrite : Statement .hotLockWrite := all _
theorem peakClear : Statement .peakClear := all _
theorem mainUndervoltage (mv : Nat) : Statement (.mainUndervoltage mv) := all _
theorem powerDown : Statement .powerDown := all _
theorem coldReset : Statement .coldReset := all _
theorem deviceReset (src : ResetSource) : Statement (.deviceReset src) := all _
theorem bootStart (x : BootInput) : Statement (.bootStart x) := all _
theorem bootReady : Statement .bootReady := all _
theorem smbStatus : Statement .smbStatus := all _
theorem smbTempMax : Statement .smbTempMax := all _
theorem smbPower : Statement .smbPower := all _
theorem smbMainMv : Statement .smbMainMv := all _
theorem smbSerial : Statement .smbSerial := all _
theorem smbId : Statement .smbId := all _
theorem smbLaserPower : Statement .smbLaserPower := all _
theorem smbPortState : Statement .smbPortState := all _
theorem smbQuiesce (key : Nat) : Statement (.smbQuiesce key) := all _
theorem smbAlertResponse : Statement .smbAlertResponse := all _
theorem bypass : Statement .bypass := all _
theorem idcode : Statement .idcode := all _
theorem samplePreload (bits : List Nat) : Statement (.samplePreload bits) := all _
theorem extest : Statement .extest := all _
theorem clamp : Statement .clamp := all _
theorem highz : Statement .highz := all _
theorem acExtestInstruction : Statement .acExtestInstruction := all _
theorem tapReset : Statement .tapReset := all _
theorem rxLock (p : Nat) (lane : Nat) (errs : Nat) : Statement (.rxLock p lane errs) := all _
theorem protoErr (p : RxBlock) : Statement (.protoErr p) := all _
theorem idleBlock (p : RxBlock) : Statement (.idleBlock p) := all _
theorem recordBlock (p : RxBlock) : Statement (.recordBlock p) := all _
theorem invalidBlock (p : Nat) (kind : BadBlock) : Statement (.invalidBlock p kind) := all _
theorem opticalGroupOn (g : Nat) : Statement (.opticalGroupOn g) := all _
theorem retrainReqEnd (p : Nat) : Statement (.retrainReqEnd p) := all _
theorem rceWatchdog : Statement .rceWatchdog := all _
theorem powerAverage (mw : Nat) (da : Nat) (mv : Nat) : Statement (.powerAverage mw da mv) := all _
theorem resetNRise : Statement .resetNRise := all _
theorem cxlCacheEnable : Statement .cxlCacheEnable := all _
theorem ideKeyExchange (req : List Nat) : Statement (.ideKeyExchange req) := all _
theorem smbOtherCode (code : Nat) : Statement (.smbOtherCode code) := all _

end Sys2Proof.Laws.CommandForm
end

