-- ==== Sys2Proof/Laws/Regs.lean ====
section
/-!
SUPPORT. The laws of registers and fields, and what one command can do.
-/

namespace Sys2Proof.Machine

open Sys2Proof

@[simp] theorem Dev.rget_rset_self (d : Dev) (off : Nat) (v : Reg) : (d.rset off v).rget off = v := by
  simp [Dev.rset, Dev.rget]

theorem Dev.rget_rset_ne (d : Dev) {off o : Nat} (h : o ≠ off) (v : Reg) : (d.rset off v).rget o = d.rget o := by
  simp [Dev.rset, Dev.rget, pget_pput_ne h]

theorem Dev.fget_rset_ne (d : Dev) {off : Nat} (f : Fld) (h : f.off ≠ off) (v : Reg) : (d.rset off v).fget f = d.fget f := by
  unfold Dev.fget; rw [d.rget_rset_ne h]

theorem Dev.fget_fset_off (d : Dev) (f g : Fld) (h : g.off ≠ f.off) (v : Nat) : (d.fset f v).fget g = d.fget g :=
  d.fget_rset_ne g h _

theorem testBit_bitsOf (n lsb w i : Nat) : (bitsOf n lsb w).testBit i = (decide (i < w) && n.testBit (lsb + i)) := by
  simp [bitsOf, Nat.testBit_mod_two_pow, Nat.testBit_shiftRight]

theorem testBit_setBits (n lsb w v i : Nat) :
    (setBits n lsb w v).testBit i = if i < lsb then n.testBit i else if i < lsb + w then v.testBit (i - lsb) else n.testBit i := by
  have e : setBits n lsb w v = 2 ^ lsb * (2 ^ w * (n >>> (lsb + w)) + v % 2 ^ w) + n % 2 ^ lsb := by
    unfold setBits; rw [Nat.mul_comm (2 ^ lsb), Nat.mul_comm (2 ^ w), Nat.add_comm (v % 2 ^ w), Nat.add_comm]
  rw [e, Nat.testBit_two_pow_mul_add _ (Nat.mod_lt _ (Nat.two_pow_pos _))]
  split
  · rename_i h; simp [Nat.testBit_mod_two_pow, h]
  · rename_i h
    rw [Nat.testBit_two_pow_mul_add _ (Nat.mod_lt _ (Nat.two_pow_pos _))]
    by_cases h2 : i < lsb + w
    · have : i - lsb < w := by omega
      simp [h2, this, Nat.testBit_mod_two_pow]
    · have : ¬ i - lsb < w := by omega
      simp only [h2, this, if_false, Nat.testBit_shiftRight]
      congr 1; omega

theorem setBits_lt {n lsb w v : Nat} (hn : n < 2 ^ 64) (hw : lsb + w ≤ 64) : setBits n lsb w v < 2 ^ 64 := by
  apply Nat.lt_pow_two_of_testBit
  intro i hi
  rw [testBit_setBits, if_neg (by omega), if_neg (by omega)]
  exact Nat.testBit_lt_two_pow (Nat.lt_of_lt_of_le hn (Nat.pow_le_pow_right (by omega) hi))

@[simp] theorem bitsOf_setBits_self (n lsb w v : Nat) : bitsOf (setBits n lsb w v) lsb w = v % 2 ^ w := by
  apply Nat.eq_of_testBit_eq
  intro i
  rw [testBit_bitsOf, testBit_setBits, Nat.testBit_mod_two_pow]
  by_cases h : i < w
  · rw [if_neg (by omega), if_pos (by omega)]; simp [h]
  · simp [h]

theorem bitsOf_setBits_ne (n lsb w v l k : Nat) (h : l + k ≤ lsb ∨ lsb + w ≤ l) :
    bitsOf (setBits n lsb w v) l k = bitsOf n l k := by
  apply Nat.eq_of_testBit_eq
  intro i
  rw [testBit_bitsOf, testBit_bitsOf, testBit_setBits]
  by_cases hi : i < k
  · simp only [hi, decide_true, Bool.true_and]
    rcases h with h | h
    · rw [if_pos (by omega)]
    · rw [if_neg (by omega), if_neg (by omega)]
  · simp [hi]

theorem toNat_withField (r : Reg) (f : Fld) (v : Nat) (hw : f.lsb + f.width ≤ 64) :
    (withField r f v).toNat = setBits r.toNat f.lsb f.width v := by
  unfold withField
  rw [BitVec.toNat_ofNat, Nat.mod_eq_of_lt (setBits_lt r.isLt hw)]

/-- A field set reads back as the low bits written. -/
theorem Dev.fget_fset_self (d : Dev) (f : Fld) (v : Nat) (hw : f.lsb + f.width ≤ 64) : (d.fset f v).fget f = v % 2 ^ f.width := by
  unfold Dev.fget Dev.fset
  rw [Dev.rget_rset_self, toNat_withField _ _ _ hw, bitsOf_setBits_self]

/-- A field set leaves every other field of the device alone. -/
theorem Dev.fget_fset_ne (d : Dev) (f g : Fld) (v : Nat) (hw : f.lsb + f.width ≤ 64)
    (h : g.off ≠ f.off ∨ g.lsb + g.width ≤ f.lsb ∨ f.lsb + f.width ≤ g.lsb) : (d.fset f v).fget g = d.fget g := by
  by_cases ho : g.off = f.off
  · unfold Dev.fget Dev.fset
    rw [ho, Dev.rget_rset_self, toNat_withField _ _ _ hw]
    exact bitsOf_setBits_ne _ _ _ _ _ _ (by rcases h with h | h; exact absurd ho h; exact h)
  · exact d.fget_fset_off f g ho v

/-- R13: a counter after n events. -/
theorem Dev.fget_bumpBy_self (d : Dev) (f : Fld) (n : Nat) (hw : f.lsb + f.width ≤ 64) :
    (d.bumpBy f n).fget f = min (d.fget f + n) (2 ^ f.width - 1) := by
  have : (d.bumpBy f n).fget f = (d.fset f (satAdd f.width (d.fget f) n)).fget f := rfl
  rw [this, Dev.fget_fset_self _ _ _ hw, satAdd]
  have := Nat.two_pow_pos f.width
  exact Nat.mod_eq_of_lt (by omega)

/-- What a command that reaches the device alone can do. -/
theorem State.onDev_next {s t : State} {wf : Bool} {f : Dev → Dev} :
    s.onDev wf f = .next t ↔ wf = true ∧ t = { s with dev := f s.dev } := by
  unfold State.onDev
  split
  · simp_all [eq_comm]
  · simp_all

/-- What a command that reaches the test access port can do. -/
theorem State.onPort_next {s t : State} {wf : Bool} {f : Dev × Jtag → Dev × Jtag} :
    s.onPort wf f = .next t ↔ wf = true ∧ t = { s with dev := (f (s.dev, s.jtag)).1, jtag := (f (s.dev, s.jtag)).2 } := by
  unfold State.onPort
  split
  · simp_all [eq_comm]
  · simp_all

@[simp] theorem State.onDev_of_wf (s : State) (f : Dev → Dev) : s.onDev true f = .next { s with dev := f s.dev } := rfl

end Sys2Proof.Machine
end

