-- ==== Sys2Proof/Laws/State.lean ====
section
/-!
SUPPORT. What the small updates of the device leave unchanged, one lemma per update and field.
-/

namespace Sys2Proof.Machine

open Sys2Proof

variable (d : Dev)

@[simp] theorem Dev.rset_fresh (off : Nat) (v : Reg) : (d.rset off v).fresh = d.fresh := rfl
@[simp] theorem Dev.rset_mem (off : Nat) (v : Reg) : (d.rset off v).mem = d.mem := rfl
@[simp] theorem Dev.rset_flash (off : Nat) (v : Reg) : (d.rset off v).flash = d.flash := rfl
@[simp] theorem Dev.rset_tick (off : Nat) (v : Reg) : (d.rset off v).tick = d.tick := rfl
@[simp] theorem Dev.rset_time (off : Nat) (v : Reg) : (d.rset off v).time = d.time := rfl
@[simp] theorem Dev.rset_rind (off : Nat) (v : Reg) : (d.rset off v).rind = d.rind := rfl
@[simp] theorem Dev.rset_curd (off : Nat) (v : Reg) : (d.rset off v).curd = d.curd := rfl
@[simp] theorem Dev.rset_ports (off : Nat) (v : Reg) : (d.rset off v).ports = d.ports := rfl
@[simp] theorem Dev.rset_pwr (off : Nat) (v : Reg) : (d.rset off v).pwr = d.pwr := rfl
@[simp] theorem Dev.rset_fab (off : Nat) (v : Reg) : (d.rset off v).fab = d.fab := rfl
@[simp] theorem Dev.rset_led (off : Nat) (v : Reg) : (d.rset off v).led = d.led := rfl
@[simp] theorem Dev.rset_obs (off : Nat) (v : Reg) : (d.rset off v).obs = d.obs := rfl
@[simp] theorem Dev.rset_host (off : Nat) (v : Reg) : (d.rset off v).host = d.host := rfl
@[simp] theorem Dev.rset_rce (off : Nat) (v : Reg) : (d.rset off v).rce = d.rce := rfl
@[simp] theorem Dev.rset_tu (off : Nat) (v : Reg) : (d.rset off v).tu = d.tu := rfl
@[simp] theorem Dev.rset_owner (off : Nat) (v : Reg) : (d.rset off v).owner = d.owner := rfl
@[simp] theorem Dev.rset_boot (off : Nat) (v : Reg) : (d.rset off v).boot = d.boot := rfl
@[simp] theorem Dev.rset_pins (off : Nat) (v : Reg) : (d.rset off v).pins = d.pins := rfl
@[simp] theorem Dev.rset_freeIdx (off : Nat) (v : Reg) : (d.rset off v).freeIdx = d.freeIdx := rfl
@[simp] theorem Dev.rset_out (off : Nat) (v : Reg) : (d.rset off v).out = d.out := rfl
@[simp] theorem Dev.fset_fresh (f : Fld) (v : Nat) : (d.fset f v).fresh = d.fresh := rfl
@[simp] theorem Dev.fset_mem (f : Fld) (v : Nat) : (d.fset f v).mem = d.mem := rfl
@[simp] theorem Dev.fset_flash (f : Fld) (v : Nat) : (d.fset f v).flash = d.flash := rfl
@[simp] theorem Dev.fset_tick (f : Fld) (v : Nat) : (d.fset f v).tick = d.tick := rfl
@[simp] theorem Dev.fset_time (f : Fld) (v : Nat) : (d.fset f v).time = d.time := rfl
@[simp] theorem Dev.fset_rind (f : Fld) (v : Nat) : (d.fset f v).rind = d.rind := rfl
@[simp] theorem Dev.fset_curd (f : Fld) (v : Nat) : (d.fset f v).curd = d.curd := rfl
@[simp] theorem Dev.fset_ports (f : Fld) (v : Nat) : (d.fset f v).ports = d.ports := rfl
@[simp] theorem Dev.fset_pwr (f : Fld) (v : Nat) : (d.fset f v).pwr = d.pwr := rfl
@[simp] theorem Dev.fset_fab (f : Fld) (v : Nat) : (d.fset f v).fab = d.fab := rfl
@[simp] theorem Dev.fset_led (f : Fld) (v : Nat) : (d.fset f v).led = d.led := rfl
@[simp] theorem Dev.fset_obs (f : Fld) (v : Nat) : (d.fset f v).obs = d.obs := rfl
@[simp] theorem Dev.fset_host (f : Fld) (v : Nat) : (d.fset f v).host = d.host := rfl
@[simp] theorem Dev.fset_rce (f : Fld) (v : Nat) : (d.fset f v).rce = d.rce := rfl
@[simp] theorem Dev.fset_tu (f : Fld) (v : Nat) : (d.fset f v).tu = d.tu := rfl
@[simp] theorem Dev.fset_owner (f : Fld) (v : Nat) : (d.fset f v).owner = d.owner := rfl
@[simp] theorem Dev.fset_boot (f : Fld) (v : Nat) : (d.fset f v).boot = d.boot := rfl
@[simp] theorem Dev.fset_pins (f : Fld) (v : Nat) : (d.fset f v).pins = d.pins := rfl
@[simp] theorem Dev.fset_freeIdx (f : Fld) (v : Nat) : (d.fset f v).freeIdx = d.freeIdx := rfl
@[simp] theorem Dev.fset_out (f : Fld) (v : Nat) : (d.fset f v).out = d.out := rfl
@[simp] theorem Dev.fsetInt_fresh (f : Fld) (v : Int) : (d.fsetInt f v).fresh = d.fresh := rfl
@[simp] theorem Dev.fsetInt_mem (f : Fld) (v : Int) : (d.fsetInt f v).mem = d.mem := rfl
@[simp] theorem Dev.fsetInt_flash (f : Fld) (v : Int) : (d.fsetInt f v).flash = d.flash := rfl
@[simp] theorem Dev.fsetInt_tick (f : Fld) (v : Int) : (d.fsetInt f v).tick = d.tick := rfl
@[simp] theorem Dev.fsetInt_time (f : Fld) (v : Int) : (d.fsetInt f v).time = d.time := rfl
@[simp] theorem Dev.fsetInt_rind (f : Fld) (v : Int) : (d.fsetInt f v).rind = d.rind := rfl
@[simp] theorem Dev.fsetInt_curd (f : Fld) (v : Int) : (d.fsetInt f v).curd = d.curd := rfl
@[simp] theorem Dev.fsetInt_ports (f : Fld) (v : Int) : (d.fsetInt f v).ports = d.ports := rfl
@[simp] theorem Dev.fsetInt_pwr (f : Fld) (v : Int) : (d.fsetInt f v).pwr = d.pwr := rfl
@[simp] theorem Dev.fsetInt_fab (f : Fld) (v : Int) : (d.fsetInt f v).fab = d.fab := rfl
@[simp] theorem Dev.fsetInt_led (f : Fld) (v : Int) : (d.fsetInt f v).led = d.led := rfl
@[simp] theorem Dev.fsetInt_obs (f : Fld) (v : Int) : (d.fsetInt f v).obs = d.obs := rfl
@[simp] theorem Dev.fsetInt_host (f : Fld) (v : Int) : (d.fsetInt f v).host = d.host := rfl
@[simp] theorem Dev.fsetInt_rce (f : Fld) (v : Int) : (d.fsetInt f v).rce = d.rce := rfl
@[simp] theorem Dev.fsetInt_tu (f : Fld) (v : Int) : (d.fsetInt f v).tu = d.tu := rfl
@[simp] theorem Dev.fsetInt_owner (f : Fld) (v : Int) : (d.fsetInt f v).owner = d.owner := rfl
@[simp] theorem Dev.fsetInt_boot (f : Fld) (v : Int) : (d.fsetInt f v).boot = d.boot := rfl
@[simp] theorem Dev.fsetInt_pins (f : Fld) (v : Int) : (d.fsetInt f v).pins = d.pins := rfl
@[simp] theorem Dev.fsetInt_freeIdx (f : Fld) (v : Int) : (d.fsetInt f v).freeIdx = d.freeIdx := rfl
@[simp] theorem Dev.fsetInt_out (f : Fld) (v : Int) : (d.fsetInt f v).out = d.out := rfl
@[simp] theorem Dev.bumpBy_mem (f : Fld) (n : Nat) : (d.bumpBy f n).mem = d.mem := rfl
@[simp] theorem Dev.bumpBy_flash (f : Fld) (n : Nat) : (d.bumpBy f n).flash = d.flash := rfl
@[simp] theorem Dev.bumpBy_tick (f : Fld) (n : Nat) : (d.bumpBy f n).tick = d.tick := rfl
@[simp] theorem Dev.bumpBy_time (f : Fld) (n : Nat) : (d.bumpBy f n).time = d.time := rfl
@[simp] theorem Dev.bumpBy_rind (f : Fld) (n : Nat) : (d.bumpBy f n).rind = d.rind := rfl
@[simp] theorem Dev.bumpBy_curd (f : Fld) (n : Nat) : (d.bumpBy f n).curd = d.curd := rfl
@[simp] theorem Dev.bumpBy_ports (f : Fld) (n : Nat) : (d.bumpBy f n).ports = d.ports := rfl
@[simp] theorem Dev.bumpBy_pwr (f : Fld) (n : Nat) : (d.bumpBy f n).pwr = d.pwr := rfl
@[simp] theorem Dev.bumpBy_fab (f : Fld) (n : Nat) : (d.bumpBy f n).fab = d.fab := rfl
@[simp] theorem Dev.bumpBy_led (f : Fld) (n : Nat) : (d.bumpBy f n).led = d.led := rfl
@[simp] theorem Dev.bumpBy_obs (f : Fld) (n : Nat) : (d.bumpBy f n).obs = d.obs := rfl
@[simp] theorem Dev.bumpBy_host (f : Fld) (n : Nat) : (d.bumpBy f n).host = d.host := rfl
@[simp] theorem Dev.bumpBy_rce (f : Fld) (n : Nat) : (d.bumpBy f n).rce = d.rce := rfl
@[simp] theorem Dev.bumpBy_tu (f : Fld) (n : Nat) : (d.bumpBy f n).tu = d.tu := rfl
@[simp] theorem Dev.bumpBy_owner (f : Fld) (n : Nat) : (d.bumpBy f n).owner = d.owner := rfl
@[simp] theorem Dev.bumpBy_boot (f : Fld) (n : Nat) : (d.bumpBy f n).boot = d.boot := rfl
@[simp] theorem Dev.bumpBy_pins (f : Fld) (n : Nat) : (d.bumpBy f n).pins = d.pins := rfl
@[simp] theorem Dev.bumpBy_freeIdx (f : Fld) (n : Nat) : (d.bumpBy f n).freeIdx = d.freeIdx := rfl
@[simp] theorem Dev.bumpBy_out (f : Fld) (n : Nat) : (d.bumpBy f n).out = d.out := rfl
@[simp] theorem Dev.bump_mem (f : Fld) : (d.bump f).mem = d.mem := rfl
@[simp] theorem Dev.bump_flash (f : Fld) : (d.bump f).flash = d.flash := rfl
@[simp] theorem Dev.bump_tick (f : Fld) : (d.bump f).tick = d.tick := rfl
@[simp] theorem Dev.bump_time (f : Fld) : (d.bump f).time = d.time := rfl
@[simp] theorem Dev.bump_rind (f : Fld) : (d.bump f).rind = d.rind := rfl
@[simp] theorem Dev.bump_curd (f : Fld) : (d.bump f).curd = d.curd := rfl
@[simp] theorem Dev.bump_ports (f : Fld) : (d.bump f).ports = d.ports := rfl
@[simp] theorem Dev.bump_pwr (f : Fld) : (d.bump f).pwr = d.pwr := rfl
@[simp] theorem Dev.bump_fab (f : Fld) : (d.bump f).fab = d.fab := rfl
@[simp] theorem Dev.bump_led (f : Fld) : (d.bump f).led = d.led := rfl
@[simp] theorem Dev.bump_obs (f : Fld) : (d.bump f).obs = d.obs := rfl
@[simp] theorem Dev.bump_host (f : Fld) : (d.bump f).host = d.host := rfl
@[simp] theorem Dev.bump_rce (f : Fld) : (d.bump f).rce = d.rce := rfl
@[simp] theorem Dev.bump_tu (f : Fld) : (d.bump f).tu = d.tu := rfl
@[simp] theorem Dev.bump_owner (f : Fld) : (d.bump f).owner = d.owner := rfl
@[simp] theorem Dev.bump_boot (f : Fld) : (d.bump f).boot = d.boot := rfl
@[simp] theorem Dev.bump_pins (f : Fld) : (d.bump f).pins = d.pins := rfl
@[simp] theorem Dev.bump_freeIdx (f : Fld) : (d.bump f).freeIdx = d.freeIdx := rfl
@[simp] theorem Dev.bump_out (f : Fld) : (d.bump f).out = d.out := rfl
@[simp] theorem Dev.event_mem (f : Fld) : (d.event f).mem = d.mem := rfl
@[simp] theorem Dev.event_flash (f : Fld) : (d.event f).flash = d.flash := rfl
@[simp] theorem Dev.event_tick (f : Fld) : (d.event f).tick = d.tick := rfl
@[simp] theorem Dev.event_time (f : Fld) : (d.event f).time = d.time := rfl
@[simp] theorem Dev.event_rind (f : Fld) : (d.event f).rind = d.rind := rfl
@[simp] theorem Dev.event_curd (f : Fld) : (d.event f).curd = d.curd := rfl
@[simp] theorem Dev.event_ports (f : Fld) : (d.event f).ports = d.ports := rfl
@[simp] theorem Dev.event_pwr (f : Fld) : (d.event f).pwr = d.pwr := rfl
@[simp] theorem Dev.event_fab (f : Fld) : (d.event f).fab = d.fab := rfl
@[simp] theorem Dev.event_led (f : Fld) : (d.event f).led = d.led := rfl
@[simp] theorem Dev.event_obs (f : Fld) : (d.event f).obs = d.obs := rfl
@[simp] theorem Dev.event_host (f : Fld) : (d.event f).host = d.host := rfl
@[simp] theorem Dev.event_rce (f : Fld) : (d.event f).rce = d.rce := rfl
@[simp] theorem Dev.event_tu (f : Fld) : (d.event f).tu = d.tu := rfl
@[simp] theorem Dev.event_owner (f : Fld) : (d.event f).owner = d.owner := rfl
@[simp] theorem Dev.event_boot (f : Fld) : (d.event f).boot = d.boot := rfl
@[simp] theorem Dev.event_pins (f : Fld) : (d.event f).pins = d.pins := rfl
@[simp] theorem Dev.event_freeIdx (f : Fld) : (d.event f).freeIdx = d.freeIdx := rfl
@[simp] theorem Dev.event_out (f : Fld) : (d.event f).out = d.out := rfl
@[simp] theorem Dev.clearMask_fresh (off m : Nat) : (d.clearMask off m).fresh = d.fresh := rfl
@[simp] theorem Dev.clearMask_mem (off m : Nat) : (d.clearMask off m).mem = d.mem := rfl
@[simp] theorem Dev.clearMask_flash (off m : Nat) : (d.clearMask off m).flash = d.flash := rfl
@[simp] theorem Dev.clearMask_tick (off m : Nat) : (d.clearMask off m).tick = d.tick := rfl
@[simp] theorem Dev.clearMask_time (off m : Nat) : (d.clearMask off m).time = d.time := rfl
@[simp] theorem Dev.clearMask_rind (off m : Nat) : (d.clearMask off m).rind = d.rind := rfl
@[simp] theorem Dev.clearMask_curd (off m : Nat) : (d.clearMask off m).curd = d.curd := rfl
@[simp] theorem Dev.clearMask_ports (off m : Nat) : (d.clearMask off m).ports = d.ports := rfl
@[simp] theorem Dev.clearMask_pwr (off m : Nat) : (d.clearMask off m).pwr = d.pwr := rfl
@[simp] theorem Dev.clearMask_fab (off m : Nat) : (d.clearMask off m).fab = d.fab := rfl
@[simp] theorem Dev.clearMask_led (off m : Nat) : (d.clearMask off m).led = d.led := rfl
@[simp] theorem Dev.clearMask_obs (off m : Nat) : (d.clearMask off m).obs = d.obs := rfl
@[simp] theorem Dev.clearMask_host (off m : Nat) : (d.clearMask off m).host = d.host := rfl
@[simp] theorem Dev.clearMask_rce (off m : Nat) : (d.clearMask off m).rce = d.rce := rfl
@[simp] theorem Dev.clearMask_tu (off m : Nat) : (d.clearMask off m).tu = d.tu := rfl
@[simp] theorem Dev.clearMask_owner (off m : Nat) : (d.clearMask off m).owner = d.owner := rfl
@[simp] theorem Dev.clearMask_boot (off m : Nat) : (d.clearMask off m).boot = d.boot := rfl
@[simp] theorem Dev.clearMask_pins (off m : Nat) : (d.clearMask off m).pins = d.pins := rfl
@[simp] theorem Dev.clearMask_freeIdx (off m : Nat) : (d.clearMask off m).freeIdx = d.freeIdx := rfl
@[simp] theorem Dev.clearMask_out (off m : Nat) : (d.clearMask off m).out = d.out := rfl
@[simp] theorem Dev.clearFld_fresh (f : Fld) : (d.clearFld f).fresh = d.fresh := rfl
@[simp] theorem Dev.clearFld_mem (f : Fld) : (d.clearFld f).mem = d.mem := rfl
@[simp] theorem Dev.clearFld_flash (f : Fld) : (d.clearFld f).flash = d.flash := rfl
@[simp] theorem Dev.clearFld_tick (f : Fld) : (d.clearFld f).tick = d.tick := rfl
@[simp] theorem Dev.clearFld_time (f : Fld) : (d.clearFld f).time = d.time := rfl
@[simp] theorem Dev.clearFld_rind (f : Fld) : (d.clearFld f).rind = d.rind := rfl
@[simp] theorem Dev.clearFld_curd (f : Fld) : (d.clearFld f).curd = d.curd := rfl
@[simp] theorem Dev.clearFld_ports (f : Fld) : (d.clearFld f).ports = d.ports := rfl
@[simp] theorem Dev.clearFld_pwr (f : Fld) : (d.clearFld f).pwr = d.pwr := rfl
@[simp] theorem Dev.clearFld_fab (f : Fld) : (d.clearFld f).fab = d.fab := rfl
@[simp] theorem Dev.clearFld_led (f : Fld) : (d.clearFld f).led = d.led := rfl
@[simp] theorem Dev.clearFld_obs (f : Fld) : (d.clearFld f).obs = d.obs := rfl
@[simp] theorem Dev.clearFld_host (f : Fld) : (d.clearFld f).host = d.host := rfl
@[simp] theorem Dev.clearFld_rce (f : Fld) : (d.clearFld f).rce = d.rce := rfl
@[simp] theorem Dev.clearFld_tu (f : Fld) : (d.clearFld f).tu = d.tu := rfl
@[simp] theorem Dev.clearFld_owner (f : Fld) : (d.clearFld f).owner = d.owner := rfl
@[simp] theorem Dev.clearFld_boot (f : Fld) : (d.clearFld f).boot = d.boot := rfl
@[simp] theorem Dev.clearFld_pins (f : Fld) : (d.clearFld f).pins = d.pins := rfl
@[simp] theorem Dev.clearFld_freeIdx (f : Fld) : (d.clearFld f).freeIdx = d.freeIdx := rfl
@[simp] theorem Dev.clearFld_out (f : Fld) : (d.clearFld f).out = d.out := rfl
@[simp] theorem Dev.setRun_fresh (v : Nat) : (d.setRun v).fresh = d.fresh := rfl
@[simp] theorem Dev.setRun_mem (v : Nat) : (d.setRun v).mem = d.mem := rfl
@[simp] theorem Dev.setRun_flash (v : Nat) : (d.setRun v).flash = d.flash := rfl
@[simp] theorem Dev.setRun_tick (v : Nat) : (d.setRun v).tick = d.tick := rfl
@[simp] theorem Dev.setRun_time (v : Nat) : (d.setRun v).time = d.time := rfl
@[simp] theorem Dev.setRun_rind (v : Nat) : (d.setRun v).rind = d.rind := rfl
@[simp] theorem Dev.setRun_curd (v : Nat) : (d.setRun v).curd = d.curd := rfl
@[simp] theorem Dev.setRun_ports (v : Nat) : (d.setRun v).ports = d.ports := rfl
@[simp] theorem Dev.setRun_pwr (v : Nat) : (d.setRun v).pwr = d.pwr := rfl
@[simp] theorem Dev.setRun_fab (v : Nat) : (d.setRun v).fab = d.fab := rfl
@[simp] theorem Dev.setRun_led (v : Nat) : (d.setRun v).led = d.led := rfl
@[simp] theorem Dev.setRun_obs (v : Nat) : (d.setRun v).obs = d.obs := rfl
@[simp] theorem Dev.setRun_host (v : Nat) : (d.setRun v).host = d.host := rfl
@[simp] theorem Dev.setRun_rce (v : Nat) : (d.setRun v).rce = d.rce := rfl
@[simp] theorem Dev.setRun_tu (v : Nat) : (d.setRun v).tu = d.tu := rfl
@[simp] theorem Dev.setRun_owner (v : Nat) : (d.setRun v).owner = d.owner := rfl
@[simp] theorem Dev.setRun_boot (v : Nat) : (d.setRun v).boot = d.boot := rfl
@[simp] theorem Dev.setRun_pins (v : Nat) : (d.setRun v).pins = d.pins := rfl
@[simp] theorem Dev.setRun_freeIdx (v : Nat) : (d.setRun v).freeIdx = d.freeIdx := rfl
@[simp] theorem Dev.setRun_out (v : Nat) : (d.setRun v).out = d.out := rfl
@[simp] theorem Dev.emit_regs (e : Emit) : (d.emit e).regs = d.regs := rfl
@[simp] theorem Dev.emit_fresh (e : Emit) : (d.emit e).fresh = d.fresh := rfl
@[simp] theorem Dev.emit_mem (e : Emit) : (d.emit e).mem = d.mem := rfl
@[simp] theorem Dev.emit_flash (e : Emit) : (d.emit e).flash = d.flash := rfl
@[simp] theorem Dev.emit_tick (e : Emit) : (d.emit e).tick = d.tick := rfl
@[simp] theorem Dev.emit_time (e : Emit) : (d.emit e).time = d.time := rfl
@[simp] theorem Dev.emit_rind (e : Emit) : (d.emit e).rind = d.rind := rfl
@[simp] theorem Dev.emit_curd (e : Emit) : (d.emit e).curd = d.curd := rfl
@[simp] theorem Dev.emit_ports (e : Emit) : (d.emit e).ports = d.ports := rfl
@[simp] theorem Dev.emit_pwr (e : Emit) : (d.emit e).pwr = d.pwr := rfl
@[simp] theorem Dev.emit_fab (e : Emit) : (d.emit e).fab = d.fab := rfl
@[simp] theorem Dev.emit_led (e : Emit) : (d.emit e).led = d.led := rfl
@[simp] theorem Dev.emit_obs (e : Emit) : (d.emit e).obs = d.obs := rfl
@[simp] theorem Dev.emit_host (e : Emit) : (d.emit e).host = d.host := rfl
@[simp] theorem Dev.emit_rce (e : Emit) : (d.emit e).rce = d.rce := rfl
@[simp] theorem Dev.emit_tu (e : Emit) : (d.emit e).tu = d.tu := rfl
@[simp] theorem Dev.emit_owner (e : Emit) : (d.emit e).owner = d.owner := rfl
@[simp] theorem Dev.emit_boot (e : Emit) : (d.emit e).boot = d.boot := rfl
@[simp] theorem Dev.emit_pins (e : Emit) : (d.emit e).pins = d.pins := rfl
@[simp] theorem Dev.emit_freeIdx (e : Emit) : (d.emit e).freeIdx = d.freeIdx := rfl
@[simp] theorem Dev.poke_regs (a : Nat) (bs : List Nat) : (d.poke a bs).regs = d.regs := rfl
@[simp] theorem Dev.poke_fresh (a : Nat) (bs : List Nat) : (d.poke a bs).fresh = d.fresh := rfl
@[simp] theorem Dev.poke_flash (a : Nat) (bs : List Nat) : (d.poke a bs).flash = d.flash := rfl
@[simp] theorem Dev.poke_tick (a : Nat) (bs : List Nat) : (d.poke a bs).tick = d.tick := rfl
@[simp] theorem Dev.poke_time (a : Nat) (bs : List Nat) : (d.poke a bs).time = d.time := rfl
@[simp] theorem Dev.poke_rind (a : Nat) (bs : List Nat) : (d.poke a bs).rind = d.rind := rfl
@[simp] theorem Dev.poke_curd (a : Nat) (bs : List Nat) : (d.poke a bs).curd = d.curd := rfl
@[simp] theorem Dev.poke_ports (a : Nat) (bs : List Nat) : (d.poke a bs).ports = d.ports := rfl
@[simp] theorem Dev.poke_pwr (a : Nat) (bs : List Nat) : (d.poke a bs).pwr = d.pwr := rfl
@[simp] theorem Dev.poke_fab (a : Nat) (bs : List Nat) : (d.poke a bs).fab = d.fab := rfl
@[simp] theorem Dev.poke_led (a : Nat) (bs : List Nat) : (d.poke a bs).led = d.led := rfl
@[simp] theorem Dev.poke_obs (a : Nat) (bs : List Nat) : (d.poke a bs).obs = d.obs := rfl
@[simp] theorem Dev.poke_host (a : Nat) (bs : List Nat) : (d.poke a bs).host = d.host := rfl
@[simp] theorem Dev.poke_rce (a : Nat) (bs : List Nat) : (d.poke a bs).rce = d.rce := rfl
@[simp] theorem Dev.poke_tu (a : Nat) (bs : List Nat) : (d.poke a bs).tu = d.tu := rfl
@[simp] theorem Dev.poke_owner (a : Nat) (bs : List Nat) : (d.poke a bs).owner = d.owner := rfl
@[simp] theorem Dev.poke_boot (a : Nat) (bs : List Nat) : (d.poke a bs).boot = d.boot := rfl
@[simp] theorem Dev.poke_pins (a : Nat) (bs : List Nat) : (d.poke a bs).pins = d.pins := rfl
@[simp] theorem Dev.poke_freeIdx (a : Nat) (bs : List Nat) : (d.poke a bs).freeIdx = d.freeIdx := rfl
@[simp] theorem Dev.poke_out (a : Nat) (bs : List Nat) : (d.poke a bs).out = d.out := rfl
@[simp] theorem Dev.zeroSpan_regs (a n : Nat) : (d.zeroSpan a n).regs = d.regs := rfl
@[simp] theorem Dev.zeroSpan_fresh (a n : Nat) : (d.zeroSpan a n).fresh = d.fresh := rfl
@[simp] theorem Dev.zeroSpan_flash (a n : Nat) : (d.zeroSpan a n).flash = d.flash := rfl
@[simp] theorem Dev.zeroSpan_tick (a n : Nat) : (d.zeroSpan a n).tick = d.tick := rfl
@[simp] theorem Dev.zeroSpan_time (a n : Nat) : (d.zeroSpan a n).time = d.time := rfl
@[simp] theorem Dev.zeroSpan_rind (a n : Nat) : (d.zeroSpan a n).rind = d.rind := rfl
@[simp] theorem Dev.zeroSpan_curd (a n : Nat) : (d.zeroSpan a n).curd = d.curd := rfl
@[simp] theorem Dev.zeroSpan_ports (a n : Nat) : (d.zeroSpan a n).ports = d.ports := rfl
@[simp] theorem Dev.zeroSpan_pwr (a n : Nat) : (d.zeroSpan a n).pwr = d.pwr := rfl
@[simp] theorem Dev.zeroSpan_fab (a n : Nat) : (d.zeroSpan a n).fab = d.fab := rfl
@[simp] theorem Dev.zeroSpan_led (a n : Nat) : (d.zeroSpan a n).led = d.led := rfl
@[simp] theorem Dev.zeroSpan_obs (a n : Nat) : (d.zeroSpan a n).obs = d.obs := rfl
@[simp] theorem Dev.zeroSpan_host (a n : Nat) : (d.zeroSpan a n).host = d.host := rfl
@[simp] theorem Dev.zeroSpan_rce (a n : Nat) : (d.zeroSpan a n).rce = d.rce := rfl
@[simp] theorem Dev.zeroSpan_tu (a n : Nat) : (d.zeroSpan a n).tu = d.tu := rfl
@[simp] theorem Dev.zeroSpan_owner (a n : Nat) : (d.zeroSpan a n).owner = d.owner := rfl
@[simp] theorem Dev.zeroSpan_boot (a n : Nat) : (d.zeroSpan a n).boot = d.boot := rfl
@[simp] theorem Dev.zeroSpan_pins (a n : Nat) : (d.zeroSpan a n).pins = d.pins := rfl
@[simp] theorem Dev.zeroSpan_freeIdx (a n : Nat) : (d.zeroSpan a n).freeIdx = d.freeIdx := rfl
@[simp] theorem Dev.zeroSpan_out (a n : Nat) : (d.zeroSpan a n).out = d.out := rfl
@[simp] theorem Dev.setPort_regs (p : Nat) (x : Port) : (d.setPort p x).regs = d.regs := rfl
@[simp] theorem Dev.setPort_fresh (p : Nat) (x : Port) : (d.setPort p x).fresh = d.fresh := rfl
@[simp] theorem Dev.setPort_mem (p : Nat) (x : Port) : (d.setPort p x).mem = d.mem := rfl
@[simp] theorem Dev.setPort_flash (p : Nat) (x : Port) : (d.setPort p x).flash = d.flash := rfl
@[simp] theorem Dev.setPort_tick (p : Nat) (x : Port) : (d.setPort p x).tick = d.tick := rfl
@[simp] theorem Dev.setPort_time (p : Nat) (x : Port) : (d.setPort p x).time = d.time := rfl
@[simp] theorem Dev.setPort_rind (p : Nat) (x : Port) : (d.setPort p x).rind = d.rind := rfl
@[simp] theorem Dev.setPort_curd (p : Nat) (x : Port) : (d.setPort p x).curd = d.curd := rfl
@[simp] theorem Dev.setPort_pwr (p : Nat) (x : Port) : (d.setPort p x).pwr = d.pwr := rfl
@[simp] theorem Dev.setPort_fab (p : Nat) (x : Port) : (d.setPort p x).fab = d.fab := rfl
@[simp] theorem Dev.setPort_led (p : Nat) (x : Port) : (d.setPort p x).led = d.led := rfl
@[simp] theorem Dev.setPort_obs (p : Nat) (x : Port) : (d.setPort p x).obs = d.obs := rfl
@[simp] theorem Dev.setPort_host (p : Nat) (x : Port) : (d.setPort p x).host = d.host := rfl
@[simp] theorem Dev.setPort_rce (p : Nat) (x : Port) : (d.setPort p x).rce = d.rce := rfl
@[simp] theorem Dev.setPort_tu (p : Nat) (x : Port) : (d.setPort p x).tu = d.tu := rfl
@[simp] theorem Dev.setPort_owner (p : Nat) (x : Port) : (d.setPort p x).owner = d.owner := rfl
@[simp] theorem Dev.setPort_boot (p : Nat) (x : Port) : (d.setPort p x).boot = d.boot := rfl
@[simp] theorem Dev.setPort_pins (p : Nat) (x : Port) : (d.setPort p x).pins = d.pins := rfl
@[simp] theorem Dev.setPort_freeIdx (p : Nat) (x : Port) : (d.setPort p x).freeIdx = d.freeIdx := rfl
@[simp] theorem Dev.setPort_out (p : Nat) (x : Port) : (d.setPort p x).out = d.out := rfl
@[simp] theorem Dev.setStamp_regs (e : Nat) (x : Stamp) : (d.setStamp e x).regs = d.regs := rfl
@[simp] theorem Dev.setStamp_fresh (e : Nat) (x : Stamp) : (d.setStamp e x).fresh = d.fresh := rfl
@[simp] theorem Dev.setStamp_mem (e : Nat) (x : Stamp) : (d.setStamp e x).mem = d.mem := rfl
@[simp] theorem Dev.setStamp_flash (e : Nat) (x : Stamp) : (d.setStamp e x).flash = d.flash := rfl
@[simp] theorem Dev.setStamp_tick (e : Nat) (x : Stamp) : (d.setStamp e x).tick = d.tick := rfl
@[simp] theorem Dev.setStamp_time (e : Nat) (x : Stamp) : (d.setStamp e x).time = d.time := rfl
@[simp] theorem Dev.setStamp_curd (e : Nat) (x : Stamp) : (d.setStamp e x).curd = d.curd := rfl
@[simp] theorem Dev.setStamp_ports (e : Nat) (x : Stamp) : (d.setStamp e x).ports = d.ports := rfl
@[simp] theorem Dev.setStamp_pwr (e : Nat) (x : Stamp) : (d.setStamp e x).pwr = d.pwr := rfl
@[simp] theorem Dev.setStamp_fab (e : Nat) (x : Stamp) : (d.setStamp e x).fab = d.fab := rfl
@[simp] theorem Dev.setStamp_led (e : Nat) (x : Stamp) : (d.setStamp e x).led = d.led := rfl
@[simp] theorem Dev.setStamp_obs (e : Nat) (x : Stamp) : (d.setStamp e x).obs = d.obs := rfl
@[simp] theorem Dev.setStamp_host (e : Nat) (x : Stamp) : (d.setStamp e x).host = d.host := rfl
@[simp] theorem Dev.setStamp_rce (e : Nat) (x : Stamp) : (d.setStamp e x).rce = d.rce := rfl
@[simp] theorem Dev.setStamp_tu (e : Nat) (x : Stamp) : (d.setStamp e x).tu = d.tu := rfl
@[simp] theorem Dev.setStamp_owner (e : Nat) (x : Stamp) : (d.setStamp e x).owner = d.owner := rfl
@[simp] theorem Dev.setStamp_boot (e : Nat) (x : Stamp) : (d.setStamp e x).boot = d.boot := rfl
@[simp] theorem Dev.setStamp_pins (e : Nat) (x : Stamp) : (d.setStamp e x).pins = d.pins := rfl
@[simp] theorem Dev.setStamp_freeIdx (e : Nat) (x : Stamp) : (d.setStamp e x).freeIdx = d.freeIdx := rfl
@[simp] theorem Dev.setStamp_out (e : Nat) (x : Stamp) : (d.setStamp e x).out = d.out := rfl
@[simp] theorem Dev.setBad_regs (u : Nat) (l : List (Nat × Nat)) : (d.setBad u l).regs = d.regs := rfl
@[simp] theorem Dev.setBad_fresh (u : Nat) (l : List (Nat × Nat)) : (d.setBad u l).fresh = d.fresh := rfl
@[simp] theorem Dev.setBad_mem (u : Nat) (l : List (Nat × Nat)) : (d.setBad u l).mem = d.mem := rfl
@[simp] theorem Dev.setBad_flash (u : Nat) (l : List (Nat × Nat)) : (d.setBad u l).flash = d.flash := rfl
@[simp] theorem Dev.setBad_tick (u : Nat) (l : List (Nat × Nat)) : (d.setBad u l).tick = d.tick := rfl
@[simp] theorem Dev.setBad_time (u : Nat) (l : List (Nat × Nat)) : (d.setBad u l).time = d.time := rfl
@[simp] theorem Dev.setBad_rind (u : Nat) (l : List (Nat × Nat)) : (d.setBad u l).rind = d.rind := rfl
@[simp] theorem Dev.setBad_curd (u : Nat) (l : List (Nat × Nat)) : (d.setBad u l).curd = d.curd := rfl
@[simp] theorem Dev.setBad_ports (u : Nat) (l : List (Nat × Nat)) : (d.setBad u l).ports = d.ports := rfl
@[simp] theorem Dev.setBad_pwr (u : Nat) (l : List (Nat × Nat)) : (d.setBad u l).pwr = d.pwr := rfl
@[simp] theorem Dev.setBad_led (u : Nat) (l : List (Nat × Nat)) : (d.setBad u l).led = d.led := rfl
@[simp] theorem Dev.setBad_obs (u : Nat) (l : List (Nat × Nat)) : (d.setBad u l).obs = d.obs := rfl
@[simp] theorem Dev.setBad_host (u : Nat) (l : List (Nat × Nat)) : (d.setBad u l).host = d.host := rfl
@[simp] theorem Dev.setBad_rce (u : Nat) (l : List (Nat × Nat)) : (d.setBad u l).rce = d.rce := rfl
@[simp] theorem Dev.setBad_tu (u : Nat) (l : List (Nat × Nat)) : (d.setBad u l).tu = d.tu := rfl
@[simp] theorem Dev.setBad_owner (u : Nat) (l : List (Nat × Nat)) : (d.setBad u l).owner = d.owner := rfl
@[simp] theorem Dev.setBad_boot (u : Nat) (l : List (Nat × Nat)) : (d.setBad u l).boot = d.boot := rfl
@[simp] theorem Dev.setBad_pins (u : Nat) (l : List (Nat × Nat)) : (d.setBad u l).pins = d.pins := rfl
@[simp] theorem Dev.setBad_freeIdx (u : Nat) (l : List (Nat × Nat)) : (d.setBad u l).freeIdx = d.freeIdx := rfl
@[simp] theorem Dev.setBad_out (u : Nat) (l : List (Nat × Nat)) : (d.setBad u l).out = d.out := rfl
@[simp] theorem Dev.await_regs (k i : Nat) (w : WaitFor) : (d.await k i w).regs = d.regs := rfl
@[simp] theorem Dev.await_fresh (k i : Nat) (w : WaitFor) : (d.await k i w).fresh = d.fresh := rfl
@[simp] theorem Dev.await_mem (k i : Nat) (w : WaitFor) : (d.await k i w).mem = d.mem := rfl
@[simp] theorem Dev.await_flash (k i : Nat) (w : WaitFor) : (d.await k i w).flash = d.flash := rfl
@[simp] theorem Dev.await_tick (k i : Nat) (w : WaitFor) : (d.await k i w).tick = d.tick := rfl
@[simp] theorem Dev.await_time (k i : Nat) (w : WaitFor) : (d.await k i w).time = d.time := rfl
@[simp] theorem Dev.await_rind (k i : Nat) (w : WaitFor) : (d.await k i w).rind = d.rind := rfl
@[simp] theorem Dev.await_curd (k i : Nat) (w : WaitFor) : (d.await k i w).curd = d.curd := rfl
@[simp] theorem Dev.await_ports (k i : Nat) (w : WaitFor) : (d.await k i w).ports = d.ports := rfl
@[simp] theorem Dev.await_pwr (k i : Nat) (w : WaitFor) : (d.await k i w).pwr = d.pwr := rfl
@[simp] theorem Dev.await_fab (k i : Nat) (w : WaitFor) : (d.await k i w).fab = d.fab := rfl
@[simp] theorem Dev.await_led (k i : Nat) (w : WaitFor) : (d.await k i w).led = d.led := rfl
@[simp] theorem Dev.await_obs (k i : Nat) (w : WaitFor) : (d.await k i w).obs = d.obs := rfl
@[simp] theorem Dev.await_host (k i : Nat) (w : WaitFor) : (d.await k i w).host = d.host := rfl
@[simp] theorem Dev.await_tu (k i : Nat) (w : WaitFor) : (d.await k i w).tu = d.tu := rfl
@[simp] theorem Dev.await_owner (k i : Nat) (w : WaitFor) : (d.await k i w).owner = d.owner := rfl
@[simp] theorem Dev.await_boot (k i : Nat) (w : WaitFor) : (d.await k i w).boot = d.boot := rfl
@[simp] theorem Dev.await_pins (k i : Nat) (w : WaitFor) : (d.await k i w).pins = d.pins := rfl
@[simp] theorem Dev.await_freeIdx (k i : Nat) (w : WaitFor) : (d.await k i w).freeIdx = d.freeIdx := rfl
@[simp] theorem Dev.await_out (k i : Nat) (w : WaitFor) : (d.await k i w).out = d.out := rfl
@[simp] theorem Dev.setMbox_regs (f : Mailbox → Mailbox) : (d.setMbox f).regs = d.regs := rfl
@[simp] theorem Dev.setMbox_fresh (f : Mailbox → Mailbox) : (d.setMbox f).fresh = d.fresh := rfl
@[simp] theorem Dev.setMbox_mem (f : Mailbox → Mailbox) : (d.setMbox f).mem = d.mem := rfl
@[simp] theorem Dev.setMbox_flash (f : Mailbox → Mailbox) : (d.setMbox f).flash = d.flash := rfl
@[simp] theorem Dev.setMbox_tick (f : Mailbox → Mailbox) : (d.setMbox f).tick = d.tick := rfl
@[simp] theorem Dev.setMbox_time (f : Mailbox → Mailbox) : (d.setMbox f).time = d.time := rfl
@[simp] theorem Dev.setMbox_rind (f : Mailbox → Mailbox) : (d.setMbox f).rind = d.rind := rfl
@[simp] theorem Dev.setMbox_curd (f : Mailbox → Mailbox) : (d.setMbox f).curd = d.curd := rfl
@[simp] theorem Dev.setMbox_ports (f : Mailbox → Mailbox) : (d.setMbox f).ports = d.ports := rfl
@[simp] theorem Dev.setMbox_pwr (f : Mailbox → Mailbox) : (d.setMbox f).pwr = d.pwr := rfl
@[simp] theorem Dev.setMbox_fab (f : Mailbox → Mailbox) : (d.setMbox f).fab = d.fab := rfl
@[simp] theorem Dev.setMbox_led (f : Mailbox → Mailbox) : (d.setMbox f).led = d.led := rfl
@[simp] theorem Dev.setMbox_obs (f : Mailbox → Mailbox) : (d.setMbox f).obs = d.obs := rfl
@[simp] theorem Dev.setMbox_rce (f : Mailbox → Mailbox) : (d.setMbox f).rce = d.rce := rfl
@[simp] theorem Dev.setMbox_tu (f : Mailbox → Mailbox) : (d.setMbox f).tu = d.tu := rfl
@[simp] theorem Dev.setMbox_owner (f : Mailbox → Mailbox) : (d.setMbox f).owner = d.owner := rfl
@[simp] theorem Dev.setMbox_boot (f : Mailbox → Mailbox) : (d.setMbox f).boot = d.boot := rfl
@[simp] theorem Dev.setMbox_pins (f : Mailbox → Mailbox) : (d.setMbox f).pins = d.pins := rfl
@[simp] theorem Dev.setMbox_freeIdx (f : Mailbox → Mailbox) : (d.setMbox f).freeIdx = d.freeIdx := rfl
@[simp] theorem Dev.setMbox_out (f : Mailbox → Mailbox) : (d.setMbox f).out = d.out := rfl
@[simp] theorem Dev.setSpdm_regs (f : Spdm → Spdm) : (d.setSpdm f).regs = d.regs := rfl
@[simp] theorem Dev.setSpdm_fresh (f : Spdm → Spdm) : (d.setSpdm f).fresh = d.fresh := rfl
@[simp] theorem Dev.setSpdm_mem (f : Spdm → Spdm) : (d.setSpdm f).mem = d.mem := rfl
@[simp] theorem Dev.setSpdm_flash (f : Spdm → Spdm) : (d.setSpdm f).flash = d.flash := rfl
@[simp] theorem Dev.setSpdm_tick (f : Spdm → Spdm) : (d.setSpdm f).tick = d.tick := rfl
@[simp] theorem Dev.setSpdm_time (f : Spdm → Spdm) : (d.setSpdm f).time = d.time := rfl
@[simp] theorem Dev.setSpdm_rind (f : Spdm → Spdm) : (d.setSpdm f).rind = d.rind := rfl
@[simp] theorem Dev.setSpdm_curd (f : Spdm → Spdm) : (d.setSpdm f).curd = d.curd := rfl
@[simp] theorem Dev.setSpdm_ports (f : Spdm → Spdm) : (d.setSpdm f).ports = d.ports := rfl
@[simp] theorem Dev.setSpdm_pwr (f : Spdm → Spdm) : (d.setSpdm f).pwr = d.pwr := rfl
@[simp] theorem Dev.setSpdm_fab (f : Spdm → Spdm) : (d.setSpdm f).fab = d.fab := rfl
@[simp] theorem Dev.setSpdm_led (f : Spdm → Spdm) : (d.setSpdm f).led = d.led := rfl
@[simp] theorem Dev.setSpdm_obs (f : Spdm → Spdm) : (d.setSpdm f).obs = d.obs := rfl
@[simp] theorem Dev.setSpdm_rce (f : Spdm → Spdm) : (d.setSpdm f).rce = d.rce := rfl
@[simp] theorem Dev.setSpdm_tu (f : Spdm → Spdm) : (d.setSpdm f).tu = d.tu := rfl
@[simp] theorem Dev.setSpdm_owner (f : Spdm → Spdm) : (d.setSpdm f).owner = d.owner := rfl
@[simp] theorem Dev.setSpdm_boot (f : Spdm → Spdm) : (d.setSpdm f).boot = d.boot := rfl
@[simp] theorem Dev.setSpdm_pins (f : Spdm → Spdm) : (d.setSpdm f).pins = d.pins := rfl
@[simp] theorem Dev.setSpdm_freeIdx (f : Spdm → Spdm) : (d.setSpdm f).freeIdx = d.freeIdx := rfl
@[simp] theorem Dev.setSpdm_out (f : Spdm → Spdm) : (d.setSpdm f).out = d.out := rfl

/-- Setting several fields changes the register file alone. -/
theorem Dev.fsets_frame (l : List (Fld × Nat)) : ∃ m, d.fsets l = { d with regs := m } := by
  induction l generalizing d with
  | nil => exact ⟨d.regs, rfl⟩
  | cons e l ih =>
    obtain ⟨m, h⟩ := ih (d.fset e.1 e.2)
    exact ⟨m, h⟩

@[simp] theorem Dev.fsets_fresh (l : List (Fld × Nat)) : (d.fsets l).fresh = d.fresh := by
  obtain ⟨m, h⟩ := d.fsets_frame l; rw [h]
@[simp] theorem Dev.fsets_mem (l : List (Fld × Nat)) : (d.fsets l).mem = d.mem := by
  obtain ⟨m, h⟩ := d.fsets_frame l; rw [h]
@[simp] theorem Dev.fsets_flash (l : List (Fld × Nat)) : (d.fsets l).flash = d.flash := by
  obtain ⟨m, h⟩ := d.fsets_frame l; rw [h]
@[simp] theorem Dev.fsets_tick (l : List (Fld × Nat)) : (d.fsets l).tick = d.tick := by
  obtain ⟨m, h⟩ := d.fsets_frame l; rw [h]
@[simp] theorem Dev.fsets_time (l : List (Fld × Nat)) : (d.fsets l).time = d.time := by
  obtain ⟨m, h⟩ := d.fsets_frame l; rw [h]
@[simp] theorem Dev.fsets_rind (l : List (Fld × Nat)) : (d.fsets l).rind = d.rind := by
  obtain ⟨m, h⟩ := d.fsets_frame l; rw [h]
@[simp] theorem Dev.fsets_curd (l : List (Fld × Nat)) : (d.fsets l).curd = d.curd := by
  obtain ⟨m, h⟩ := d.fsets_frame l; rw [h]
@[simp] theorem Dev.fsets_ports (l : List (Fld × Nat)) : (d.fsets l).ports = d.ports := by
  obtain ⟨m, h⟩ := d.fsets_frame l; rw [h]
@[simp] theorem Dev.fsets_pwr (l : List (Fld × Nat)) : (d.fsets l).pwr = d.pwr := by
  obtain ⟨m, h⟩ := d.fsets_frame l; rw [h]
@[simp] theorem Dev.fsets_fab (l : List (Fld × Nat)) : (d.fsets l).fab = d.fab := by
  obtain ⟨m, h⟩ := d.fsets_frame l; rw [h]
@[simp] theorem Dev.fsets_led (l : List (Fld × Nat)) : (d.fsets l).led = d.led := by
  obtain ⟨m, h⟩ := d.fsets_frame l; rw [h]
@[simp] theorem Dev.fsets_obs (l : List (Fld × Nat)) : (d.fsets l).obs = d.obs := by
  obtain ⟨m, h⟩ := d.fsets_frame l; rw [h]
@[simp] theorem Dev.fsets_host (l : List (Fld × Nat)) : (d.fsets l).host = d.host := by
  obtain ⟨m, h⟩ := d.fsets_frame l; rw [h]
@[simp] theorem Dev.fsets_rce (l : List (Fld × Nat)) : (d.fsets l).rce = d.rce := by
  obtain ⟨m, h⟩ := d.fsets_frame l; rw [h]
@[simp] theorem Dev.fsets_tu (l : List (Fld × Nat)) : (d.fsets l).tu = d.tu := by
  obtain ⟨m, h⟩ := d.fsets_frame l; rw [h]
@[simp] theorem Dev.fsets_owner (l : List (Fld × Nat)) : (d.fsets l).owner = d.owner := by
  obtain ⟨m, h⟩ := d.fsets_frame l; rw [h]
@[simp] theorem Dev.fsets_boot (l : List (Fld × Nat)) : (d.fsets l).boot = d.boot := by
  obtain ⟨m, h⟩ := d.fsets_frame l; rw [h]
@[simp] theorem Dev.fsets_pins (l : List (Fld × Nat)) : (d.fsets l).pins = d.pins := by
  obtain ⟨m, h⟩ := d.fsets_frame l; rw [h]
@[simp] theorem Dev.fsets_freeIdx (l : List (Fld × Nat)) : (d.fsets l).freeIdx = d.freeIdx := by
  obtain ⟨m, h⟩ := d.fsets_frame l; rw [h]
@[simp] theorem Dev.fsets_out (l : List (Fld × Nat)) : (d.fsets l).out = d.out := by
  obtain ⟨m, h⟩ := d.fsets_frame l; rw [h]

@[simp] theorem Dev.holdOpenings_mem : (d.holdOpenings).mem = d.mem := rfl
@[simp] theorem Dev.holdOpenings_flash : (d.holdOpenings).flash = d.flash := rfl
@[simp] theorem Dev.holdOpenings_tick : (d.holdOpenings).tick = d.tick := rfl
@[simp] theorem Dev.holdOpenings_time : (d.holdOpenings).time = d.time := rfl
@[simp] theorem Dev.holdOpenings_rind : (d.holdOpenings).rind = d.rind := rfl
@[simp] theorem Dev.holdOpenings_curd : (d.holdOpenings).curd = d.curd := rfl
@[simp] theorem Dev.holdOpenings_ports : (d.holdOpenings).ports = d.ports := rfl
@[simp] theorem Dev.holdOpenings_pwr : (d.holdOpenings).pwr = d.pwr := rfl
@[simp] theorem Dev.holdOpenings_fab : (d.holdOpenings).fab = d.fab := rfl
@[simp] theorem Dev.holdOpenings_led : (d.holdOpenings).led = d.led := rfl
@[simp] theorem Dev.holdOpenings_obs : (d.holdOpenings).obs = d.obs := rfl
@[simp] theorem Dev.holdOpenings_host : (d.holdOpenings).host = d.host := rfl
@[simp] theorem Dev.holdOpenings_rce : (d.holdOpenings).rce = d.rce := rfl
@[simp] theorem Dev.holdOpenings_owner : (d.holdOpenings).owner = d.owner := rfl
@[simp] theorem Dev.holdOpenings_boot : (d.holdOpenings).boot = d.boot := rfl
@[simp] theorem Dev.holdOpenings_pins : (d.holdOpenings).pins = d.pins := rfl
@[simp] theorem Dev.holdOpenings_freeIdx : (d.holdOpenings).freeIdx = d.freeIdx := rfl
@[simp] theorem Dev.holdOpenings_out : (d.holdOpenings).out = d.out := rfl
@[simp] theorem Dev.holdOpenings_regs : (d.holdOpenings).regs = d.regs := rfl
@[simp] theorem Dev.holdOpenings_fresh : (d.holdOpenings).fresh = d.fresh := rfl
@[simp] theorem Dev.dropProbes_mem : (d.dropProbes).mem = d.mem := rfl
@[simp] theorem Dev.dropProbes_flash : (d.dropProbes).flash = d.flash := rfl
@[simp] theorem Dev.dropProbes_tick : (d.dropProbes).tick = d.tick := rfl
@[simp] theorem Dev.dropProbes_time : (d.dropProbes).time = d.time := rfl
@[simp] theorem Dev.dropProbes_rind : (d.dropProbes).rind = d.rind := rfl
@[simp] theorem Dev.dropProbes_curd : (d.dropProbes).curd = d.curd := rfl
@[simp] theorem Dev.dropProbes_ports : (d.dropProbes).ports = d.ports := rfl
@[simp] theorem Dev.dropProbes_pwr : (d.dropProbes).pwr = d.pwr := rfl
@[simp] theorem Dev.dropProbes_led : (d.dropProbes).led = d.led := rfl
@[simp] theorem Dev.dropProbes_obs : (d.dropProbes).obs = d.obs := rfl
@[simp] theorem Dev.dropProbes_host : (d.dropProbes).host = d.host := rfl
@[simp] theorem Dev.dropProbes_rce : (d.dropProbes).rce = d.rce := rfl
@[simp] theorem Dev.dropProbes_tu : (d.dropProbes).tu = d.tu := rfl
@[simp] theorem Dev.dropProbes_owner : (d.dropProbes).owner = d.owner := rfl
@[simp] theorem Dev.dropProbes_boot : (d.dropProbes).boot = d.boot := rfl
@[simp] theorem Dev.dropProbes_pins : (d.dropProbes).pins = d.pins := rfl
@[simp] theorem Dev.dropProbes_freeIdx : (d.dropProbes).freeIdx = d.freeIdx := rfl
@[simp] theorem Dev.dropProbes_out : (d.dropProbes).out = d.out := rfl
@[simp] theorem Dev.dropProbes_regs : (d.dropProbes).regs = d.regs := rfl
@[simp] theorem Dev.dropProbes_fresh : (d.dropProbes).fresh = d.fresh := rfl
@[simp] theorem Dev.setSch_mem (i : Nat) (e : SchedEntry) : (d.setSch i e).mem = d.mem := rfl
@[simp] theorem Dev.setSch_flash (i : Nat) (e : SchedEntry) : (d.setSch i e).flash = d.flash := rfl
@[simp] theorem Dev.setSch_tick (i : Nat) (e : SchedEntry) : (d.setSch i e).tick = d.tick := rfl
@[simp] theorem Dev.setSch_time (i : Nat) (e : SchedEntry) : (d.setSch i e).time = d.time := rfl
@[simp] theorem Dev.setSch_rind (i : Nat) (e : SchedEntry) : (d.setSch i e).rind = d.rind := rfl
@[simp] theorem Dev.setSch_curd (i : Nat) (e : SchedEntry) : (d.setSch i e).curd = d.curd := rfl
@[simp] theorem Dev.setSch_ports (i : Nat) (e : SchedEntry) : (d.setSch i e).ports = d.ports := rfl
@[simp] theorem Dev.setSch_pwr (i : Nat) (e : SchedEntry) : (d.setSch i e).pwr = d.pwr := rfl
@[simp] theorem Dev.setSch_fab (i : Nat) (e : SchedEntry) : (d.setSch i e).fab = d.fab := rfl
@[simp] theorem Dev.setSch_led (i : Nat) (e : SchedEntry) : (d.setSch i e).led = d.led := rfl
@[simp] theorem Dev.setSch_obs (i : Nat) (e : SchedEntry) : (d.setSch i e).obs = d.obs := rfl
@[simp] theorem Dev.setSch_host (i : Nat) (e : SchedEntry) : (d.setSch i e).host = d.host := rfl
@[simp] theorem Dev.setSch_rce (i : Nat) (e : SchedEntry) : (d.setSch i e).rce = d.rce := rfl
@[simp] theorem Dev.setSch_owner (i : Nat) (e : SchedEntry) : (d.setSch i e).owner = d.owner := rfl
@[simp] theorem Dev.setSch_boot (i : Nat) (e : SchedEntry) : (d.setSch i e).boot = d.boot := rfl
@[simp] theorem Dev.setSch_pins (i : Nat) (e : SchedEntry) : (d.setSch i e).pins = d.pins := rfl
@[simp] theorem Dev.setSch_freeIdx (i : Nat) (e : SchedEntry) : (d.setSch i e).freeIdx = d.freeIdx := rfl
@[simp] theorem Dev.setSch_out (i : Nat) (e : SchedEntry) : (d.setSch i e).out = d.out := rfl
@[simp] theorem Dev.setSch_regs (i : Nat) (e : SchedEntry) : (d.setSch i e).regs = d.regs := rfl
@[simp] theorem Dev.setSch_fresh (i : Nat) (e : SchedEntry) : (d.setSch i e).fresh = d.fresh := rfl
@[simp] theorem Dev.setAgu_mem (b a : Nat) (x : AguPos) : (d.setAgu b a x).mem = d.mem := rfl
@[simp] theorem Dev.setAgu_flash (b a : Nat) (x : AguPos) : (d.setAgu b a x).flash = d.flash := rfl
@[simp] theorem Dev.setAgu_tick (b a : Nat) (x : AguPos) : (d.setAgu b a x).tick = d.tick := rfl
@[simp] theorem Dev.setAgu_time (b a : Nat) (x : AguPos) : (d.setAgu b a x).time = d.time := rfl
@[simp] theorem Dev.setAgu_rind (b a : Nat) (x : AguPos) : (d.setAgu b a x).rind = d.rind := rfl
@[simp] theorem Dev.setAgu_curd (b a : Nat) (x : AguPos) : (d.setAgu b a x).curd = d.curd := rfl
@[simp] theorem Dev.setAgu_ports (b a : Nat) (x : AguPos) : (d.setAgu b a x).ports = d.ports := rfl
@[simp] theorem Dev.setAgu_pwr (b a : Nat) (x : AguPos) : (d.setAgu b a x).pwr = d.pwr := rfl
@[simp] theorem Dev.setAgu_led (b a : Nat) (x : AguPos) : (d.setAgu b a x).led = d.led := rfl
@[simp] theorem Dev.setAgu_obs (b a : Nat) (x : AguPos) : (d.setAgu b a x).obs = d.obs := rfl
@[simp] theorem Dev.setAgu_host (b a : Nat) (x : AguPos) : (d.setAgu b a x).host = d.host := rfl
@[simp] theorem Dev.setAgu_rce (b a : Nat) (x : AguPos) : (d.setAgu b a x).rce = d.rce := rfl
@[simp] theorem Dev.setAgu_tu (b a : Nat) (x : AguPos) : (d.setAgu b a x).tu = d.tu := rfl
@[simp] theorem Dev.setAgu_owner (b a : Nat) (x : AguPos) : (d.setAgu b a x).owner = d.owner := rfl
@[simp] theorem Dev.setAgu_boot (b a : Nat) (x : AguPos) : (d.setAgu b a x).boot = d.boot := rfl
@[simp] theorem Dev.setAgu_pins (b a : Nat) (x : AguPos) : (d.setAgu b a x).pins = d.pins := rfl
@[simp] theorem Dev.setAgu_freeIdx (b a : Nat) (x : AguPos) : (d.setAgu b a x).freeIdx = d.freeIdx := rfl
@[simp] theorem Dev.setAgu_out (b a : Nat) (x : AguPos) : (d.setAgu b a x).out = d.out := rfl
@[simp] theorem Dev.setAgu_regs (b a : Nat) (x : AguPos) : (d.setAgu b a x).regs = d.regs := rfl
@[simp] theorem Dev.setAgu_fresh (b a : Nat) (x : AguPos) : (d.setAgu b a x).fresh = d.fresh := rfl
@[simp] theorem Dev.setDq_mem (b : Nat) (l : List DqEntry) : (d.setDq b l).mem = d.mem := rfl
@[simp] theorem Dev.setDq_flash (b : Nat) (l : List DqEntry) : (d.setDq b l).flash = d.flash := rfl
@[simp] theorem Dev.setDq_tick (b : Nat) (l : List DqEntry) : (d.setDq b l).tick = d.tick := rfl
@[simp] theorem Dev.setDq_time (b : Nat) (l : List DqEntry) : (d.setDq b l).time = d.time := rfl
@[simp] theorem Dev.setDq_rind (b : Nat) (l : List DqEntry) : (d.setDq b l).rind = d.rind := rfl
@[simp] theorem Dev.setDq_curd (b : Nat) (l : List DqEntry) : (d.setDq b l).curd = d.curd := rfl
@[simp] theorem Dev.setDq_ports (b : Nat) (l : List DqEntry) : (d.setDq b l).ports = d.ports := rfl
@[simp] theorem Dev.setDq_pwr (b : Nat) (l : List DqEntry) : (d.setDq b l).pwr = d.pwr := rfl
@[simp] theorem Dev.setDq_led (b : Nat) (l : List DqEntry) : (d.setDq b l).led = d.led := rfl
@[simp] theorem Dev.setDq_obs (b : Nat) (l : List DqEntry) : (d.setDq b l).obs = d.obs := rfl
@[simp] theorem Dev.setDq_host (b : Nat) (l : List DqEntry) : (d.setDq b l).host = d.host := rfl
@[simp] theorem Dev.setDq_rce (b : Nat) (l : List DqEntry) : (d.setDq b l).rce = d.rce := rfl
@[simp] theorem Dev.setDq_tu (b : Nat) (l : List DqEntry) : (d.setDq b l).tu = d.tu := rfl
@[simp] theorem Dev.setDq_owner (b : Nat) (l : List DqEntry) : (d.setDq b l).owner = d.owner := rfl
@[simp] theorem Dev.setDq_boot (b : Nat) (l : List DqEntry) : (d.setDq b l).boot = d.boot := rfl
@[simp] theorem Dev.setDq_pins (b : Nat) (l : List DqEntry) : (d.setDq b l).pins = d.pins := rfl
@[simp] theorem Dev.setDq_freeIdx (b : Nat) (l : List DqEntry) : (d.setDq b l).freeIdx = d.freeIdx := rfl
@[simp] theorem Dev.setDq_out (b : Nat) (l : List DqEntry) : (d.setDq b l).out = d.out := rfl
@[simp] theorem Dev.setDq_regs (b : Nat) (l : List DqEntry) : (d.setDq b l).regs = d.regs := rfl
@[simp] theorem Dev.setDq_fresh (b : Nat) (l : List DqEntry) : (d.setDq b l).fresh = d.fresh := rfl
@[simp] theorem Dev.setPortTime_mem (p : Nat) (x : PortTime) : (d.setPortTime p x).mem = d.mem := rfl
@[simp] theorem Dev.setPortTime_flash (p : Nat) (x : PortTime) : (d.setPortTime p x).flash = d.flash := rfl
@[simp] theorem Dev.setPortTime_tick (p : Nat) (x : PortTime) : (d.setPortTime p x).tick = d.tick := rfl
@[simp] theorem Dev.setPortTime_time (p : Nat) (x : PortTime) : (d.setPortTime p x).time = d.time := rfl
@[simp] theorem Dev.setPortTime_rind (p : Nat) (x : PortTime) : (d.setPortTime p x).rind = d.rind := rfl
@[simp] theorem Dev.setPortTime_curd (p : Nat) (x : PortTime) : (d.setPortTime p x).curd = d.curd := rfl
@[simp] theorem Dev.setPortTime_ports (p : Nat) (x : PortTime) : (d.setPortTime p x).ports = d.ports := rfl
@[simp] theorem Dev.setPortTime_pwr (p : Nat) (x : PortTime) : (d.setPortTime p x).pwr = d.pwr := rfl
@[simp] theorem Dev.setPortTime_fab (p : Nat) (x : PortTime) : (d.setPortTime p x).fab = d.fab := rfl
@[simp] theorem Dev.setPortTime_led (p : Nat) (x : PortTime) : (d.setPortTime p x).led = d.led := rfl
@[simp] theorem Dev.setPortTime_obs (p : Nat) (x : PortTime) : (d.setPortTime p x).obs = d.obs := rfl
@[simp] theorem Dev.setPortTime_host (p : Nat) (x : PortTime) : (d.setPortTime p x).host = d.host := rfl
@[simp] theorem Dev.setPortTime_rce (p : Nat) (x : PortTime) : (d.setPortTime p x).rce = d.rce := rfl
@[simp] theorem Dev.setPortTime_owner (p : Nat) (x : PortTime) : (d.setPortTime p x).owner = d.owner := rfl
@[simp] theorem Dev.setPortTime_boot (p : Nat) (x : PortTime) : (d.setPortTime p x).boot = d.boot := rfl
@[simp] theorem Dev.setPortTime_pins (p : Nat) (x : PortTime) : (d.setPortTime p x).pins = d.pins := rfl
@[simp] theorem Dev.setPortTime_freeIdx (p : Nat) (x : PortTime) : (d.setPortTime p x).freeIdx = d.freeIdx := rfl
@[simp] theorem Dev.setPortTime_out (p : Nat) (x : PortTime) : (d.setPortTime p x).out = d.out := rfl
@[simp] theorem Dev.setPortTime_regs (p : Nat) (x : PortTime) : (d.setPortTime p x).regs = d.regs := rfl
@[simp] theorem Dev.setPortTime_fresh (p : Nat) (x : PortTime) : (d.setPortTime p x).fresh = d.fresh := rfl
@[simp] theorem Dev.setAlign_mem (p : Nat) (l : List AlignedFrame) : (d.setAlign p l).mem = d.mem := rfl
@[simp] theorem Dev.setAlign_flash (p : Nat) (l : List AlignedFrame) : (d.setAlign p l).flash = d.flash := rfl
@[simp] theorem Dev.setAlign_tick (p : Nat) (l : List AlignedFrame) : (d.setAlign p l).tick = d.tick := rfl
@[simp] theorem Dev.setAlign_time (p : Nat) (l : List AlignedFrame) : (d.setAlign p l).time = d.time := rfl
@[simp] theorem Dev.setAlign_curd (p : Nat) (l : List AlignedFrame) : (d.setAlign p l).curd = d.curd := rfl
@[simp] theorem Dev.setAlign_ports (p : Nat) (l : List AlignedFrame) : (d.setAlign p l).ports = d.ports := rfl
@[simp] theorem Dev.setAlign_pwr (p : Nat) (l : List AlignedFrame) : (d.setAlign p l).pwr = d.pwr := rfl
@[simp] theorem Dev.setAlign_fab (p : Nat) (l : List AlignedFrame) : (d.setAlign p l).fab = d.fab := rfl
@[simp] theorem Dev.setAlign_led (p : Nat) (l : List AlignedFrame) : (d.setAlign p l).led = d.led := rfl
@[simp] theorem Dev.setAlign_obs (p : Nat) (l : List AlignedFrame) : (d.setAlign p l).obs = d.obs := rfl
@[simp] theorem Dev.setAlign_host (p : Nat) (l : List AlignedFrame) : (d.setAlign p l).host = d.host := rfl
@[simp] theorem Dev.setAlign_rce (p : Nat) (l : List AlignedFrame) : (d.setAlign p l).rce = d.rce := rfl
@[simp] theorem Dev.setAlign_tu (p : Nat) (l : List AlignedFrame) : (d.setAlign p l).tu = d.tu := rfl
@[simp] theorem Dev.setAlign_owner (p : Nat) (l : List AlignedFrame) : (d.setAlign p l).owner = d.owner := rfl
@[simp] theorem Dev.setAlign_boot (p : Nat) (l : List AlignedFrame) : (d.setAlign p l).boot = d.boot := rfl
@[simp] theorem Dev.setAlign_pins (p : Nat) (l : List AlignedFrame) : (d.setAlign p l).pins = d.pins := rfl
@[simp] theorem Dev.setAlign_freeIdx (p : Nat) (l : List AlignedFrame) : (d.setAlign p l).freeIdx = d.freeIdx := rfl
@[simp] theorem Dev.setAlign_out (p : Nat) (l : List AlignedFrame) : (d.setAlign p l).out = d.out := rfl
@[simp] theorem Dev.setAlign_regs (p : Nat) (l : List AlignedFrame) : (d.setAlign p l).regs = d.regs := rfl
@[simp] theorem Dev.setAlign_fresh (p : Nat) (l : List AlignedFrame) : (d.setAlign p l).fresh = d.fresh := rfl
@[simp] theorem Dev.addEdge_mem (e : TrgEdge) : (d.addEdge e).mem = d.mem := rfl
@[simp] theorem Dev.addEdge_flash (e : TrgEdge) : (d.addEdge e).flash = d.flash := rfl
@[simp] theorem Dev.addEdge_tick (e : TrgEdge) : (d.addEdge e).tick = d.tick := rfl
@[simp] theorem Dev.addEdge_time (e : TrgEdge) : (d.addEdge e).time = d.time := rfl
@[simp] theorem Dev.addEdge_rind (e : TrgEdge) : (d.addEdge e).rind = d.rind := rfl
@[simp] theorem Dev.addEdge_curd (e : TrgEdge) : (d.addEdge e).curd = d.curd := rfl
@[simp] theorem Dev.addEdge_ports (e : TrgEdge) : (d.addEdge e).ports = d.ports := rfl
@[simp] theorem Dev.addEdge_pwr (e : TrgEdge) : (d.addEdge e).pwr = d.pwr := rfl
@[simp] theorem Dev.addEdge_fab (e : TrgEdge) : (d.addEdge e).fab = d.fab := rfl
@[simp] theorem Dev.addEdge_led (e : TrgEdge) : (d.addEdge e).led = d.led := rfl
@[simp] theorem Dev.addEdge_obs (e : TrgEdge) : (d.addEdge e).obs = d.obs := rfl
@[simp] theorem Dev.addEdge_host (e : TrgEdge) : (d.addEdge e).host = d.host := rfl
@[simp] theorem Dev.addEdge_rce (e : TrgEdge) : (d.addEdge e).rce = d.rce := rfl
@[simp] theorem Dev.addEdge_owner (e : TrgEdge) : (d.addEdge e).owner = d.owner := rfl
@[simp] theorem Dev.addEdge_boot (e : TrgEdge) : (d.addEdge e).boot = d.boot := rfl
@[simp] theorem Dev.addEdge_pins (e : TrgEdge) : (d.addEdge e).pins = d.pins := rfl
@[simp] theorem Dev.addEdge_freeIdx (e : TrgEdge) : (d.addEdge e).freeIdx = d.freeIdx := rfl
@[simp] theorem Dev.addEdge_out (e : TrgEdge) : (d.addEdge e).out = d.out := rfl
@[simp] theorem Dev.addEdge_regs (e : TrgEdge) : (d.addEdge e).regs = d.regs := rfl
@[simp] theorem Dev.addEdge_fresh (e : TrgEdge) : (d.addEdge e).fresh = d.fresh := rfl

end Sys2Proof.Machine
end

