-- ==== Sys2Proof/Machine/Wire.lean ====
section
/-!
DEFINITION. The line code of the Peust ports (R345 to R349, R354): the 68-byte codeword and its BCH code, the content of
control blocks, the blocks and words of what a port sends, their order on the four lanes, and what a received codeword says
to the port.
-/

namespace Sys2Proof.Machine

open Sys2Proof

/-! ## The field GF(2¹⁰) and the generator (R346) -/

/-- R346: an element times α, modulo the primitive polynomial x¹⁰ + x³ + 1. -/
def gfTimesAlpha (a : Nat) : Nat := if bitAt a 9 then (a * 2 % 1024) ^^^ 9 else a * 2

/-- A product in GF(2¹⁰): Horner's rule over the low k bits of b. -/
def gfMulBits : Nat → Nat → Nat → Nat → Nat
  | 0, _, _, acc => acc
  | k + 1, a, b, acc => gfMulBits k a b (gfTimesAlpha acc ^^^ (if bitAt b k then a else 0))

/-- A product in GF(2¹⁰). -/
def gfMul (a b : Nat) : Nat := gfMulBits 10 a b 0
/-- α to the power k. -/
def gfAlpha : Nat → Nat
  | 0 => 1
  | k + 1 => gfTimesAlpha (gfAlpha k)
/-- A square, applied k times. -/
def gfSquares : Nat → Nat → Nat
  | 0, a => a
  | k + 1, a => gfSquares k (gfMul a a)
/-- The inverse of a non-zero element: its power 2¹⁰ − 2, the product of its squares a², a⁴, …, a⁵¹². -/
def gfInv (a : Nat) : Nat := ((upTo 9).map (fun i => gfSquares (i + 1) a)).foldl gfMul 1

/-- A polynomial over GF(2¹⁰), lowest coefficient first, times (x + r). -/
def timesRoot (r : Nat) (p : List Nat) : List Nat :=
  (upTo (p.length + 1)).map (fun i => (if i = 0 then 0 else p.getD (i - 1) 0) ^^^ gfMul r (p.getD i 0))
/-- R346: the minimal polynomial of an element: the product over its ten conjugates. -/
def minPoly (a : Nat) : List Nat := (upTo 10).foldl (fun p i => timesRoot (gfSquares i a) p) [1]
/-- A polynomial with coefficients 0 and 1 as a number, bit i its coefficient of xⁱ. -/
def polyNat (p : List Nat) : Nat := p.foldr (fun c n => c % 2 + 2 * n) 0
/-- A product of polynomials over GF(2), as numbers. -/
def polyMul (a b : Nat) : Nat := (onesOf 32 b).foldl (fun acc i => acc ^^^ (a * 2 ^ i)) 0
/-- R346: the generator, the product of the minimal polynomials of α, α³ and α⁵; of degree 30. -/
def bchGen : Nat :=
  polyMul (polyMul (polyNat (minPoly (gfAlpha 1))) (polyNat (minPoly (gfAlpha 3)))) (polyNat (minPoly (gfAlpha 5)))

/-! ## Codewords (R345, R346) -/

/-- R345: the sync header of a block. -/
inductive SyncHeader where
  | invalid
  | data
  | control
  | frameStart
  deriving DecidableEq, Repr, Inhabited

/-- R345: the two bits of a sync header. -/
def SyncHeader.bits : SyncHeader → Nat
  | .invalid => 0
  | .data => 1
  | .control => 2
  | .frameStart => 3
/-- R345: the sync header two bits spell. -/
def SyncHeader.ofBits (n : Nat) : SyncHeader :=
  if n = 0 then .invalid else if n = 1 then .data else if n = 2 then .control else .frameStart

/-- R345: a block: its 64 content bytes and its sync header. -/
structure Block where
  content : List Nat
  sh : SyncHeader
  deriving DecidableEq, Repr, Inhabited

/-- R346: the 514 message bits, content then SH in sending order, the first bit sent the most significant. -/
def Block.message (b : Block) : Nat := beNat (padTo 64 b.content) * 4 + b.sh.bits
/-- R346: the 30 check bits: the remainder of message · x³⁰ by the generator. -/
def checkBits (message : Nat) : Nat := crcBits 30 (bchGen % 2 ^ 30) 514 message 0
/-- R345, R346: the 544 bits of a codeword, the first bit sent the most significant. -/
def Block.codeword (b : Block) : Nat := b.message * 2 ^ 30 + checkBits b.message
/-- R345: the 68 bytes of a codeword: SH in the top bits of byte 64, check bits [29:24] below it, [23:0] in bytes 65 to 67. -/
def Block.bytes (b : Block) : List Nat := beBytes 68 b.codeword

/-- R345: the codeword bytes that lane l carries, in order: byte b on lane b mod 4. -/
def laneShare {α : Type} (l : Nat) (bs : List α) : List α := (bs.zipIdx.filter (fun e => e.2 % 4 == l)).map Prod.fst
/-- R345: the PAM4 levels of a byte, most significant bits first: two bits a symbol, Gray-coded, the first bit the most significant. -/
def pam4Byte (b : Nat) : List Nat := [6, 4, 2, 0].map (fun i => 2 * bitsOf b (i + 1) 1 + (bitsOf b (i + 1) 1 ^^^ bitsOf b i 1))
/-- R345: the PAM4 symbols of a block on lane l. -/
def Block.symbols (b : Block) (l : Nat) : List Nat := (laneShare l b.bytes).flatMap pam4Byte

/-! ## The decoder (R346) -/

/-- The value of the polynomial of the low k bits of a received word at an element. -/
def evalBits (a : Nat) : Nat → Nat → Nat → Nat
  | 0, _, acc => acc
  | k + 1, n, acc => evalBits a k n (gfMul acc a ^^^ b2n (bitAt n k))
/-- R346: the syndromes of a received word at α, α³ and α⁵. -/
def syndromes (w : Nat) : Nat × Nat × Nat :=
  (evalBits (gfAlpha 1) 544 w 0, evalBits (gfAlpha 3) 544 w 0, evalBits (gfAlpha 5) 544 w 0)
/-- R346: the coefficients (σ₁, σ₂, σ₃) of the locator of at most three errors that the syndromes name. -/
def locator (s : Nat × Nat × Nat) : Nat × Nat × Nat :=
  let cube := gfMul s.1 (gfMul s.1 s.1)
  let det := cube ^^^ s.2.1
  if det = 0 then (s.1, 0, 0)
  else
    let s2 := gfMul (gfMul (gfMul s.1 s.1) s.2.1 ^^^ s.2.2) (gfInv det)
    (s.1, s2, det ^^^ gfMul s.1 s2)
/-- The codeword bits k, …, k + n − 1 whose element, from `x` for bit k on, is a root of z³ + σ₁z² + σ₂z + σ₃. -/
def errorBits (c : Nat × Nat × Nat) : Nat → Nat → Nat → List Nat
  | 0, _, _ => []
  | n + 1, k, x =>
    let rest := errorBits c n (k + 1) (gfTimesAlpha x)
    if gfMul x (gfMul x (x ^^^ c.1) ^^^ c.2.1) ^^^ c.2.2 = 0 then k :: rest else rest
/-- R346: the decoder: the word with at most three bits mended and how many were, or none where the syndromes show more errors. -/
def bchDecode (w : Nat) : Option (Nat × Nat) :=
  let s := syndromes w
  if s = (0, 0, 0) then some (w, 0)
  else
    let bad := errorBits (locator s) 544 0 1
    let v := bad.foldl (fun v i => v ^^^ 2 ^ i) w
    if bad.length ≤ 3 ∧ syndromes v = (0, 0, 0) then some (v, bad.length) else none
/-- The block of a sound codeword. -/
def blockOf (w : Nat) : Block := ⟨beBytes 64 (w / 2 ^ 32), .ofBits (bitsOf w 30 2)⟩

/-! ## The content of control blocks (R347) -/

/-- R347: a control block: CTYPE, the fields from byte 1 on, and the 32 bytes of a symbol or record in bytes 32 to 63. -/
def controlBlock (ctype : Nat) (fields : List Nat) (upper : List Nat := []) : Block :=
  ⟨padTo 32 (ctype :: fields) ++ padTo 32 upper, .control⟩
/-- R347: ALIGN: 0xC0 + (j mod 4) in byte j. -/
def alignBlock : Block := ⟨0x1E :: (upTo 63).map (fun i => 0xC0 + (i + 1) % 4), .control⟩
/-- R347: the fields of PROTO_ERR from byte 1 on. -/
def protoErrFields (code seq stamp more : Nat) : List Nat := code :: leBytes 2 seq ++ leBytes 6 stamp ++ leBytes 2 more
/-- R348: the partner lane that a lane's share of an ALIGN block shows. -/
def alignLane (share : List Nat) : Option Nat :=
  match share with
  | _ :: b :: _ => if 0xC0 ≤ b ∧ b ≤ 0xC3 then some (b - 0xC0) else none
  | _ => none

/-! ## What a port sends, as blocks and as words (R349, R354) -/

/-- Chunks of k bytes, the last filled with zeros. -/
def lineChunks (k : Nat) : Nat → List Nat → List (List Nat)
  | 0, _ => []
  | n + 1, bs => padTo k bs :: lineChunks k n (bs.drop k)

/-- R349: the blocks of a frame: a frame-start block and data blocks, filled with zeros beyond the payload. -/
def frameAsBlocks (bytes : List Nat) : List Block :=
  (lineChunks 64 (ceilDiv bytes.length 64) bytes).zipIdx.map (fun e => ⟨e.1, if e.2 = 0 then .frameStart else .data⟩)

/-- R345 to R349: the blocks of what leaves a port on Peust 2 and 3. -/
def Emit.blocks : Emit → List Block
  | .portRecord _ st r => [controlBlock 0x55 [st % 8] (leBytes 32 r.toNat)]
  | .frame _ bytes => frameAsBlocks bytes
  | .protoErr _ code seq stamp more => [controlBlock 0x33 (protoErrFields code seq stamp more)]
  | .control _ ctype value =>
    if ctype = 0x1E then [alignBlock] else [controlBlock ctype (if ctype = 0x4B ∨ ctype = 0x3C then leBytes 2 value else [])]
  | .timeSymbol _ v => [controlBlock 0x2D [] (leBytes 32 v)]
  | .stepSymbol _ v => [controlBlock 0x2E [] (leBytes 32 v)]
  | _ => []

/-- R354: a Peust 1 word: whether it is a control word, and its eight bytes. -/
structure LinkWord where
  control : Bool
  bytes : List Nat
  deriving DecidableEq, Repr, Inhabited

/-- R354: a control word with its fields from byte 1 on. DEDUCED (log entry 155): fields that pass the word's end go on in a
second word. -/
def controlWords (ctype : Nat) (fields : List Nat) : List LinkWord :=
  (lineChunks 8 (ceilDiv (1 + fields.length) 8) (ctype :: fields)).map (fun c => ⟨true, c⟩)
/-- R354: the words of a frame: START, two header words, the payload's words and TERMINATE. -/
def frameAsWords (bytes : List Nat) : List LinkWord :=
  controlWords 0xF0 [] ++ (lineChunks 8 (ceilDiv bytes.length 8) bytes).map (fun c => ⟨false, c⟩) ++ controlWords 0xFF []

/-- R354, R362: the words of what leaves a port at Peust 1 signalling. A TRAIN word is its 64 bits, CTYPE in byte 0 (DEDUCED, log
entry 155). -/
def Emit.words : Emit → List LinkWord
  | .frame _ bytes => frameAsWords bytes
  | .protoErr _ code seq stamp more => controlWords 0x33 (protoErrFields code seq stamp more)
  | .control _ ctype value =>
    if ctype = 0x99 then [⟨true, beBytes 8 value⟩]
    else controlWords ctype (if ctype = 0x4B ∨ ctype = 0x3C then leBytes 2 value else [])
  | _ => []

/-- R354: the words of lane l: sent round-robin over the four lanes. -/
def laneWords (l : Nat) (ws : List LinkWord) : List LinkWord := laneShare l ws
/-- R354: a lane's words with a marker after every 16,383 others; `n` others have passed since the last. -/
def withMarkers (marker : LinkWord) : Nat → List LinkWord → List LinkWord
  | _, [] => []
  | n, w :: ws => if n = 16382 then w :: marker :: withMarkers marker 0 ws else w :: withMarkers marker (n + 1) ws

/-! ## What a received codeword says (R346, R347, R349) -/

/-- R346, R347, R349: what a codeword says to a port. -/
inductive BlockSays where
  | idle
  | align
  | time (sym : Nat)
  | step (sym : Nat)
  | protoErr
  | credit (grant : Nat)
  | record
  | idleEnter
  | retrainReq
  | retry (seq : Nat)
  | bad (kind : BadBlock)
  | frameStart
  | data
  deriving DecidableEq, Repr, Inhabited

/-- R347: what a control block says. -/
def controlSays (content : List Nat) : BlockSays :=
  let c := content.getD 0 0
  if c = 0x00 then .idle
  else if c = 0x1E then .align
  else if c = 0x2D then .time (leAt content 32 32)
  else if c = 0x2E then .step (leAt content 32 32)
  else if c = 0x33 then .protoErr
  else if c = 0x4B then .credit (leAt content 1 2)
  else if c = 0x55 then .record
  else if c = 0x66 then .idleEnter
  else if c = 0x78 then .retrainReq
  else .bad .reservedType

/-- R346, R347, R349, R366: what a received codeword says, inside or outside a frame, and whether the FEC mended it. -/
def codewordSays (inFrame : Bool) (w : Nat) : BlockSays × Bool :=
  match bchDecode w with
  | none => (if inFrame then .data else .bad .uncorrectable, false)
  | some (v, n) =>
    ((match (blockOf v).sh with
      | .invalid => .bad .badHeader
      | .data => if inFrame then .data else .bad .strayData
      | .frameStart => .frameStart
      | .control => controlSays (blockOf v).content), n != 0)

/-- R347: the effect of a codeword that is no part of a frame: that of the command it stands for. `rx` is when the last ALIGN mark
came, for a time symbol. An ALIGN block counts here as a good block; its lanes' marks are the command ALIGN's. -/
def BlockSays.effect (sort : BlockSays) (x : RxBlock) (rx : Nat) (s : State) : Host.Outcome State Fault Refusal :=
  match sort with
  | .idle | .align => execIdleBlock x s
  | .time sym => execTime x sym rx s
  | .step sym => execStep x sym s
  | .protoErr => execProtoErr x s
  | .credit g => execCredit x g s
  | .record => execRecordBlock x s
  | .idleEnter => execIdleEnter x s
  | .retrainReq => execRetrainReq x s
  | .retry seq => execRetry x.port seq s
  | .bad k => execInvalidBlock x.port k s
  | .frameStart | .data => .next s

/-- R345 to R347: port p receives a codeword outside any frame. -/
def codewordReceived (p rx w : Nat) (s : State) : Host.Outcome State Fault Refusal :=
  let r := codewordSays false w
  r.1.effect ⟨p, r.2⟩ rx s

/-- R350: the frame that received bytes spell: the header's fields, LENGTH payload bytes, and what the FEC did. -/
def frameOf (bytes : List Nat) (corrected : Nat) (flagged : List Nat) (aborted : Bool) : RxFrame :=
  let h := leAt bytes 0 16
  { seq := bitsOf h 112 16, ftype := bitsOf h 104 8, length := bitsOf h 80 24, srcId := bitsOf h 64 16, pcrc := bitsOf h 32 32,
    flags := bitsOf h 16 16, hcrc := bitsOf h 0 16, payload := (bytes.drop 16).take (bitsOf h 80 24), corrected, flagged, aborted }

/-- R346, R349: the frame of its received codewords, from its frame-start block on; `whole` where all of its blocks have come. -/
def receivedFrame (whole : Bool) (ws : List Nat) : RxFrame :=
  let ds := ws.map bchDecode
  frameOf ((ws.zip ds).flatMap (fun e => (blockOf ((e.2.map Prod.fst).getD e.1)).content))
    (ds.filter (fun e => (e.map (fun r => r.2 != 0)).getD false)).length
    ((upTo ds.length).filter (fun i => (ds.getD i none).isNone)) (!whole)

/-- R354: the Peust 1 frame of the words between START and TERMINATE; one with another number of payload words than LENGTH asks is cut
short. -/
def receivedWords (ws : List LinkWord) : RxFrame :=
  let f := frameOf (ws.flatMap (fun w => w.bytes)) 0 [] false
  { f with aborted := ws.length != 2 + ceilDiv f.length 8 || ws.any (fun w => w.control) }

/-- R347, R354: what a Peust 1 control word says: RETRY asks for replay, START and TERMINATE bound a frame, and TIME, STEP and RECORD
are reserved. -/
def wordSays (w : LinkWord) : BlockSays :=
  let c := w.bytes.getD 0 0
  if c = 0x3C then .retry (leAt w.bytes 1 2)
  else if c = 0xF0 then .frameStart
  else if c = 0xFF then .data
  else if c = 0x2D ∨ c = 0x2E ∨ c = 0x55 then .bad .reservedType
  else controlSays w.bytes

end Sys2Proof.Machine
end

