-- ==== Sys2Proof/Tests/Slice0.lean ====
section
/-!
SUPPORT. Tests of the model: ill-formed terms that WellFormed refuses, words of the tile encodings, and for every statement
with hypotheses a state and operands that meet them.
-/

namespace Sys2Proof.Tests

open Sys2Proof Sys2Proof.Machine

set_option Elab.async false

/-- A device after reset with these fields written. -/
def mkd (l : List (Fld × Nat)) : Dev := Dev.reset.fsets l
/-- A state with that device. -/
def st (d : Dev) : State := { dev := d, jtag := {}, pending := [] }
/-- A token. -/
def tk (esq : Nat) (k : TokKind) (v : Nat) : Token := ⟨esq, k, BitVec.ofNat 512 v⟩

/-- A guard that always passes. -/
def g0 : Guard := ⟨false, false, 0⟩
/-- Tile 0 of block 0 issues under that guard, with no parity event. -/
def x0 : Issue := ⟨0, 0, g0, 0, []⟩
/-- Tile 0 of block 0 in a firing of ESQ 7 under descriptor 0, its word at pc. -/
def tileBase (pc w : Nat) : List (Fld × Nat) := [(PWR_DOMAIN_STAT_STATE 0, 2), (BLK_TILE_STATE_FIRING 0 0, 1), (BLK_TILE_STATE_PC 0 0, pc),
  (if pc % 2 = 0 then BLK_TILE_IMEM_EVEN 0 0 (pc / 2) else BLK_TILE_IMEM_ODD 0 0 (pc / 2), w), (BLK_TILE_FIRE_MAX_INSTR 0 0 0, 100), (BLK_TILE_STATE_FIRE_ESQ 0 0, 7),
  (BLK_TILE_CFG_DESC_VALID 0 0, 3), (BLK_TILE_CFG_LOADED 0 0, 1), (BLK_TILE_FIRE_IN_MASK 0 0 0, 0x11), (BLK_TILE_FIRE_IN_MASK 0 0 1, 3)]
/-- A device whose tile 0 of block 0 comes to issue this instruction at pc, with these predicates and further fields. -/
def tileD (i : Instr) (pc preds : Nat) (l : List (Fld × Nat)) : Dev :=
  mkd (tileBase pc ((tileWord i).getD 0) ++ [(BLK_TILE_STATE_PRED 0 0, preds), (BLK_TILE_GREG_VALUE 0 0 2, 5), (BLK_TILE_GREG_VALUE 0 0 3, 0x80000001),
    (cntFld ⟨0, 0⟩ 1, 1), (cntFld ⟨0, 0⟩ 2, 9), (reloadFld ⟨0, 0⟩ 1, 4)] ++ l)

/-- Block 3 of a domain that is ON. -/
def up3 (l : List (Fld × Nat)) : Dev := mkd ((PWR_DOMAIN_STAT_STATE 1, 2) :: (PWR_DOMAIN_STAT_STATE 0, 2) :: l)
/-- Tokens at the heads of sinks. -/
def fill (d : Dev) (l : List (Nat × List Token)) : Dev := l.foldl (fun d e => d.setQueue e.1 e.2) d
/-- Spilled tokens behind them. -/
def spill (d : Dev) (l : List (Nat × List Token)) : Dev := l.foldl (fun d e => d.setSpill e.1 e.2) d
/-- SU 1 of block 3 in a mode, on network `net`, its inputs holding tokens of these ESQs. -/
def suD (mode net take cq q0 q1 : Nat) : Dev :=
  fill (up3 [(BLK_SU_CFG_MODE 3 1, mode), (BLK_SU_CFG_NET 3 1, net), (BLK_SU_CFG_TAKE 3 1, take), (BLK_SU_CFG_INVERT 3 1, 1), (BLK_SU_CFG_DEFAULT 3 1, 1)])
    [(suCondQ 3 1, [tk cq .cond 0, tk 9 .cond 1]), (qnum 3 net (suIn net 1 0), [tk q0 .data 5]), (qnum 3 net (suIn net 1 1), [tk q1 .mark 6, tk 9 .data 1])]
/-- As `suD` in STEER, with FLUSH at the end of two inputs. -/
def suF (ahead : Nat) : Dev := spill (fill (suD 1 0 0 1 1 1) [(suCondQ 3 1, List.replicate ahead (tk 4 .cond 1) ++ [tk 7 .flush 0]), (qnum 3 0 82, [tk 8 .flush 0])]) [(qnum 3 0 82, [tk 1 .data 1])]
/-- A failed tile with a token at an input. -/
def failedD (k : TokKind) (rep : List Nat) : Dev :=
  let d := fill (up3 [(BLK_TILE_CFG_DESC_VALID 3 2, 1), (BLK_TILE_FIRE_IN_MASK 3 2 0, 2)]) [(tileQ 3 2 1, [tk 300 k 5, tk 5 .data 1])]
  { d with fab := { d.fab with failed := [tileId 3 2], reported := pput (tileId 3 2) rep d.fab.reported } }
/-- A device whose sink i of a router has a route from source j, in block b, with its domain ON. -/
def routed (b net i j : Nat) (l : List (Fld × Nat)) : Dev :=
  mkd ([(PWR_DOMAIN_STAT_STATE (domainOf b), 2), (BLK_SW_VALID b net i, 1), (BLK_SW_SRC b net i, j), (BLK_SW_DEPTH b net i, 4)] ++ l)
/-- An offer with good parity. -/
def good : Offer := ⟨false, false, none⟩
/-- A token in a tile's output stage before a tile's sink, in a sink that holds one token. -/
def stageD : Dev := fill ((routed 3 0 20 30 []).putStage 3 0 30 (tk 7 .data 9)) [(qnum 3 0 20, [tk 6 .data 1])]
/-- A DATA, FLUSH or MARK token before the egress point of block 31. -/
def egressD (k : TokKind) : Dev := (routed 31 1 22 8 [(FAB_FLUSH_STATUS_EGRESS_EXPECTED, 3), (FAB_FLUSH_STATUS_EGRESS_FLUSHED, 1)]).putStage 31 1 8 (tk 7 k 9)
/-- As `stageD`, n offers already refused, m zero-forwards in the last 2 µs. -/
def replayD (n m : Nat) : Dev :=
  let d := stageD.setRun stRunning
  { d with fab := { d.fab with replay := pput (qnum 3 0 20) ⟨n, some (3, .mark)⟩ d.fab.replay, zeroed := pput (qnum 3 0 20) (List.replicate m 0) d.fab.zeroed } }
/-- Two virtual channels of a link that ask at once. -/
def linkD : Dev :=
  let d := ((routed 3 0 4 30 [(BLK_SW_VALID 3 0 5, 1), (BLK_SW_SRC 3 0 5, 31), (BLK_SW_DEPTH 3 0 5, 4)]).putStage 3 0 30 (tk 7 .data 9)).putStage 3 0 31 (tk 8 .data 9)
  { d with fab := { d.fab with muxLast := [(muxKey 3 0 4, 3)] } }
/-- A device that answers. -/
def readyD (l : List (Fld × Nat)) : Dev := mkd ((GLB_STATUS_READY, 1) :: l)
/-- A run in progress: P = 1,000 ticks, frame 4 stamped at tick 5,000, an INPUT port 2, stream 0 of egress point 1 and stream 7 of
egress point 5 with L = 300 ticks and a horizon of 200, and a PEER port 9 that takes stream 0's records. -/
def runL : List (Fld × Nat) := [
  (RIND_STATUS_RUN_STATE, stRunning), (RIND_STATUS_SEQ_RUNNING, 1), (RIND_FRAME_PERIOD_PERIOD_TICKS, 1000), (RIND_FRAME_NUMBER_FRAME_NUMBER, 4),
  (PL_CFG_ROLE 2, roleInput), (PL_STATUS_STATE 2, psActive), (PL_CFG_PAYLOAD_BYTES 2, 64), (PL_CFG_ROLE 9, rolePeer), (PL_STATUS_STATE 9, psActive),
  (RIND_STREAM_CFG_ENABLED 0, 1), (RIND_STREAM_CFG_EGRESS_POINT 0, 1), (RIND_STREAM_LAT_L_TICKS 0, 300), (RIND_STREAM_LAT_EFFECTIVE_HORIZON 0, 200),
  (RIND_STREAM_CFG_ENABLED 7, 1), (RIND_STREAM_CFG_EGRESS_POINT 7, 5), (RIND_STREAM_LAT_L_TICKS 7, 300), (RIND_STREAM_LAT_EFFECTIVE_HORIZON 7, 200)]
/-- The device at tick 5,010 in that run. -/
def runDev (l : List (Fld × Nat)) : Dev :=
  let d := ((mkd runL).fsets l).rset (RIND_STREAM_DEST 0) 0x200#64
  { d with tick := 5010, rind := { d.rind with lastBoundary := 5000, anchor := 1250 } }
/-- The stamp of frame 4. -/
def st4 : Stamp := { valid := true, frame := 4, time := 6250, tick := 5000, injected := true }
/-- That run with this stamp for ESQ 4. -/
def stamped (x : Stamp) (d : Dev) : Dev := { d with rind := { d.rind with stamps := pput 4 x d.rind.stamps } }
/-- That run with frames of a port eligible, or waiting for their delay. -/
def aligned (p : Nat) (el wait : List AlignedFrame) (d : Dev) : Dev :=
  { d with rind := { d.rind with align := pput p el d.rind.align, waiting := pput p wait d.rind.waiting } }
/-- A frame of port 2. -/
def frm (n : Nat) : AlignedFrame := ⟨n, List.replicate 64 n, 0, 5005⟩
/-- A result of egress point 1 for ESQ 4 in the guard. -/
def guarded (tick : Nat) (d : Dev) : Dev := { d with rind := { d.rind with guard := [⟨5, 9, 1#512, 1⟩, ⟨1, 4, 0x1234567#512, tick⟩] } }
/-- A notice and a tie report waiting for ESQ 4. -/
def laned (d : Dev) : Dev := { d with fab := { d.fab with lane := [⟨9, 1, 2, 2, 1, 1⟩, ⟨4, 1, 2, 2, 1, 1⟩], ties := [9, 4] } }
/-- VU 0 of block 3. -/
def vu3 : Nat := unitId 1 3 0
/-- A microcode word of fields (lowest bit, value). -/
def uword (l : List (Nat × Nat)) : Nat := (l.map (fun e => e.2 * 2 ^ e.1)).sum
/-- A loaded VU 0 in block 3 whose step 0 is this word, at this position. -/
def vuD (word : Nat) (l : List (Fld × Nat)) (x : VuPos) : Dev :=
  let d := (up3 ([(BLK_VU_CFG_LOADED (vuWindow vu3), 1), (BLK_VU_CFG_IN_USED (vuWindow vu3), 7), (BLK_VU_CFG_OUT_USED (vuWindow vu3), 3),
    (BLK_VU_UCODE_WORD (vuWindow vu3) 0, word)] ++ l))
  { d with fab := { d.fab with vus := pput vu3 x d.fab.vus } }
/-- A row of 64 codes. -/
def row0 : List Nat := (List.range 64).map (fun i => 4 * i)
/-- Its token. -/
def rowTok (esq : Nat) : Token := ⟨esq, .data, BitVec.ofNat 512 (packLanes 8 (row0.map Int.ofNat))⟩
/-- An accumulation in stage 2. -/
def acc2 : VuAcc := { cycle := 1, last := true, step := 0, lanes := (List.range 64).map (fun i : Nat => 1000 * (i : Int) - 30000), bias := List.replicate 64 3, q := 7, e2 := 38, ew := [], done := false, out := [], zero := false }
/-- A loaded MU in block 3 with AGU A in a mode, region of 100 units from unit 5, PTR 98, and stride -3 (as 17 bits). -/
def muD (mode net : Nat) (l : List (Fld × Nat)) (x : AguPos) (ts : List Token) : Dev :=
  let d := up3 ([(BLK_MU_STATUS_LOADED 3, 1), (BLK_MU_AGU_CFG_MODE 3 0, mode), (BLK_MU_AGU_CFG_NET 3 0, net), (BLK_MU_AGU_CFG_WRAP 3 0, 100),
    (BLK_MU_AGU_CFG_STRIDE 3 0, 0x1FFFD), (BLK_MU_AGU_ADDR_BASE 3 0, 5), (BLK_MU_AGU_ADDR_PTR 3 0, 98), (BLK_MU_DQ_SIZE_MIB 3, 1), (BLK_MU_DQ_BASE_MIB 3, 7)] ++ l)
  fill (({ d with fab := { d.fab with agus := pput 6 x d.fab.agus } } : Dev).poke (blkMem 3) ((List.range 64).map (fun i => 3 * i + 1))) [(d.aguSink 3 0, ts)]
/-- A capture of frames 2 to 4 of ports 2 and 5, being copied. -/
def cap0 : CurdCap := { frame := 3, esq := 3, kind := 0, rule := 1, accept := 1, epoch := 2, time := 3, runCtx := 4, tick := 5, first := 2, last := 4, ports := [2, 5], dests := [], toStore := true, started := true, store := true, cur := 0, lost := [], data := [], part := [], partBad := false, ended := false, trunc := false }
/-- A run in which that capture is copied; frames 2 to 4 were stamped, and the rings hold 8 frames. -/
def curdD (coming queue : List CurdCap) (l : List (Fld × Nat)) : Dev :=
  let d := runDev ([(GLB_STATUS_READY, 1), (VAT_RING_SLOT_WORDS 2, 1), (VAT_RING_SLOT_WORDS 5, 2), (VAT_RING_DEPTH_FRAMES 2, 8), (VAT_RING_DEPTH_FRAMES 5, 8),
    (VAT_RING_INPUT 2, 1), (VAT_RING_INPUT 5, 1), (VAT_RING_RING_INDEX 5, 1), (VAT_STATUS_RING_WORDS, 16), (VAT_CURD_AREA_BASE_4K, 3), (VAT_CURD_AREA_SIZE_4K, 1)] ++ l)
  { d with
    curd := ⟨coming, queue⟩
    rind := { d.rind with stamps := [(2, { st4 with frame := 2, tick := 3000 }), (3, { st4 with frame := 3, tick := 4000 }), (4, st4)] } }
/-- The 64 bytes of a descriptor: opcode, flags, predecessors, arguments. -/
def desc (op flags : Nat) (preds args : List Nat) : List Nat :=
  leBytes 2 op ++ leBytes 2 flags ++ leBytes 2 preds.length ++ [0, 0] ++ leBytes 16 ((preds.zipIdx.map (fun e => e.1 * 2 ^ (16 * e.2))).sum) ++
    padTo 40 args
/-- A graph of these tasks and statuses in a slot, at address 0x4000. -/
def graphD (d : Dev) (slot : Nat) (status : List Nat) (ds : List (List Nat)) : Dev :=
  ({ d with rce := { d.rce with graphs := pput slot ⟨0x4000, status.length, 77, false, status, 0⟩ d.rce.graphs } }).poke 0x4000 ds.flatten
/-- A descriptor of a one-task graph that runs in slot 3, and its device. -/
def taskD (d : Dev) (op : Nat) (args : List Nat) : Dev := graphD d 3 [1] [desc op 0 [] args]
/-- R250, R251: a small image: no figures, one INPUT port, period 1,000 ticks, V floor 650 mV. -/
def smallImage : List Nat :=
  [0x47, 0x52, 0x41, 0x45, 0x4D, 0, 0, 0] ++ leBytes 2 0x400 ++ leBytes 2 6 ++ leBytes 4 0 ++ leBytes 8 960 ++ leBytes 8 960 ++
  leBytes 2 1000 ++ leBytes 2 650 ++ leBytes 2 1 ++ leBytes 2 0 ++ List.replicate 88 0 ++
  [(1, 320, 2), (2, 384, 0), (5, 384, 512), (6, 896, 64), (9, 960, 0), (0xC, 960, 0)].flatMap (fun e => leBytes 2 e.1 ++ leBytes 2 0xFFFF ++ leBytes 4 0 ++ leBytes 8 e.2.1 ++ leBytes 8 e.2.2) ++
  List.replicate (320 - 272) 0 ++ List.replicate (384 - 320 + 16) 0 ++ leBytes 8 1 ++ List.replicate (960 - 384 - 24) 0
/-- A LOAD of that image at 0x10000. -/
def loadD : Dev := (taskD (readyD []) 1 (leBytes 8 0x10000 ++ leBytes 8 960 ++ leBytes 2 0)).poke 0x10000 smallImage
/-- What the checks give for it. -/
def smallLoaded : Image := { digest := 0, period := 1000, vfloor := 650, devCount := 1, devIndex := 0, streams := 0, latency := List.replicate 8 0, domains := 0, claims := [], figures := [], ports := (List.range 64).map (fun p => ⟨if p = 2 then 1 else 0, 0, 0, 0⟩), streamCfg := List.replicate 8 ⟨0, 0, 0⟩, schedule := [], slots := [], paths := [], joins := [], steers := [], intervals := [], regions := [], seeds := [], signed := false }
/-- A loaded device. -/
def loadedD (d : Dev) : Dev := { d.setRun stLoaded with rce := { d.rce with image := some smallLoaded } }
/-- A weight bank of two targets at 0x20000: VU 0 of block 3, words 0 and 1 of half 0, then word 1 of half 0; all its data
but the first 16 bytes are zero. -/
def bankBytes : List Nat :=
  [0x57, 0x42, 0x4E, 0x4B, 0, 0, 0, 0] ++ leBytes 8 0x55 ++ leBytes 8 (64 + 16 + 768) ++ leBytes 2 2 ++ List.replicate 38 0 ++
  [3, 0, 0, 0, 0, 2, 0, 0] ++ [3, 0, 0, 0, 1, 1, 0, 0] ++ (List.range 16).map (fun i => i + 1)
/-- A run in a break that has been reached, and an INSTALL of that bank. -/
def installBase : Dev :=
  (taskD ((readyD [(RIND_STATUS_RUN_STATE, stBreak), (RCE_RUN_CTX_RUN_CTX, 7)])) 8 (leBytes 8 9 ++ leBytes 8 0x55 ++ leBytes 4 8)).poke 0x20000 bankBytes
/-- The bank registered for slot 9, its digest given as h; and that device with the bank's own digest, or another. -/
def installIn (d : Dev) (h : Nat) : Dev :=
  { d with rce := { d.rce with broken := true, library := [⟨0x55, 0x20000, 848, h, 4⟩], image := some { smallLoaded with slots := [⟨9, 0x55, 4⟩] } } }
/-- The device ready and in a run state, a task of this opcode running. -/
def runTask (op st : Nat) (args : List Nat) (l : List (Fld × Nat)) : Dev := taskD ((readyD ((RIND_STATUS_RUN_STATE, st) :: l))) op args
/-- A run in a break with a task that waits for it; `ws` names the waiting tasks. -/
def breakD (ws : List (Nat × Nat × WaitFor)) (l : List (Fld × Nat)) : Dev :=
  let d := stamped { st4 with injected := true, released := 0x81 } (runTask 6 stBreak [] ([(FAB_STATUS_FLUSHED, 1)] ++ l))
  { d with rce := { d.rce with waits := ws } }
/-- A drain under way since tick 6,000, a tile firing and a token in a sink. -/
def drainD (st : Nat) (l : List (Fld × Nat)) : Dev :=
  let d := (fill (runTask 5 st [] ((BLK_TILE_STATE_FIRING 3 2, 1) :: l)) [(qnum 3 0 20, [tk 6 .data 1])]).putStage 3 0 30 (tk 7 .data 9)
  { d with
    fab := { d.fab with firings := [(tileId 3 2, {})], ingress := [(2, [tk 7 .data 1])] }
    rce := { d.rce with closedTick := some 6000, waits := [(3, 0, .drained)] }
    rind := { d.rind with segments := [⟨1, 7, 0, 5, [5, 0, 0, 0], 5, 0, 0, false⟩] } }
/-- The bank of `bankBytes` in a bank region of 1 MiB at 0, and a REGISTER_BANK of it with `n` banks in the library. -/
def registerD (a n : Nat) : Dev :=
  let d := (runTask 9 stIdle (leBytes 8 a) [(LPX_REGION_KIND 3, 3), (LPX_REGION_BASE_MIB 3, 0), (LPX_REGION_SIZE_MIB 3, 1)]).poke 0x20000 bankBytes
  { d with rce := { d.rce with library := (List.range n).map (fun k => ⟨k, 0, 0, 0, 0⟩) } }
/-- A COPY. -/
def copyD (a b n : Nat) : Dev := (runTask 11 stIdle (leBytes 8 a ++ leBytes 8 b ++ leBytes 8 n) [(LPX_REGION_KIND 3, 1), (LPX_REGION_BASE_MIB 3, 0), (LPX_REGION_SIZE_MIB 3, 1)]).poke 0x8000 [1, 2, 3, 4, 5]
/-- A MARCH of a unit in a mode. -/
def marchD (u mode st : Nat) (mapped : List Nat) : Dev :=
  let d := (runTask 10 st (leBytes 4 u ++ [mode]) []).poke (vuStore vuA) [7, 7] |>.poke (blkMem 3) [9]
  { d with pwr := { d.pwr with repair := pput u mapped d.pwr.repair, needMarch := [u] } }
where vuA : Nat := unitId 1 3 0
/-- A device with a snapshot area of 1 MiB in a region of its kind, and a SNAPSHOT task. -/
def snapL : List (Fld × Nat) := [(LPX_REGION_KIND 3, 5), (LPX_REGION_BASE_MIB 3, 0), (LPX_REGION_SIZE_MIB 3, 1)]
/-- SCAN_OUT of block 3, whose tile 2 is in use; and SCAN_IN of `bytes` at 0x30000. -/
def scanD (op st : Nat) (broken : Bool) (args bytes : List Nat) : Dev :=
  let d := (runTask op st args [(LPX_REGION_KIND 3, 1), (LPX_REGION_BASE_MIB 3, 0), (LPX_REGION_SIZE_MIB 3, 1), (BLK_TILE_CFG_LOADED 3 2, 1), (PWR_DOMAIN_STAT_STATE 0, 2)]).poke 0x30000 bytes
  { d with rce := { d.rce with broken := broken } }
/-- A figure of one tile, tile 2 of block 3. -/
def oneTile : Figure := { id := 0, t2 := false, home := 0, placements := 1, config := [⟨3, BLK_TILE_CFG 3 2 - blk 3, 1⟩], muData := [], alts := [] }
/-- A reached break that firmware recovery holds, with that figure and these failed units. -/
def movingD (failed : List Nat) (l : List (Fld × Nat)) : Dev :=
  let d := readyD ([(RIND_STATUS_RUN_STATE, stBreak), (PWR_DOMAIN_STAT_STATE 0, 2), (FAB_STATUS_DOMAIN_UP, 1), (BLK_TILE_CFG_LOADED 3 2, 1)] ++ l)
  { d with
    fab := { d.fab with failed := failed }
    rce := { d.rce with broken := true, fwHold := true, image := some { smallLoaded with figures := [oneTile], domains := 1 }, placed := [0] } }
/-- A symbol of these 240 bits with its CRC. -/
def symbol (n : Nat) : Nat := n * 2 ^ 16 + crc16 240 n
/-- A device that answers, at tick 8,000 and 10 µs of epoch 3, with PEER port 4 ACTIVE at version 2 and the source of this kind in force. -/
def timeD (src : Nat) (l : List (Fld × Nat)) : Dev :=
  let d := readyD ([(TU_STATUS_EPOCH, 3), (TU_CTRL_SOURCE, src), (TU_CTRL_SOURCE_PORT, 4), (TU_CTRL_BACKUP_PORT, 5), (PL_CFG_ROLE 4, rolePeer), (PL_STATUS_STATE 4, psActive),
    (PL_STATUS_VERSION 4, 2), (TU_SERVO_KP, 100), (TU_SERVO_KI, 50)] ++ l)
  { d with tick := 8000, time := 10000 * 2 ^ 32, tu := { d.tu with source := src } }
/-- What a port has received. -/
def heard (p : Nat) (x : PortTime) (d : Dev) : Dev := d.setPortTime p x
/-- An opening that is pending. -/
def pending (l : List Opening) (d : Dev) : Dev := { d with tu := { d.tu with openings := l } }
/-- An announced step of 5 µs at 20 µs into epoch 4. -/
def step5 : Opening := ⟨5000, 4, some 20000, true, 99, none, 8000⟩
/-- A device that answers, at tick 8,000, with port 4 of this role, state and version, and this much held for it. -/
def portD (role pst ver : Nat) (l : List (Fld × Nat)) (x : Port) : Dev :=
  let d := readyD ([(PL_CFG_ROLE 4, role), (PL_STATUS_STATE 4, pst), (PL_STATUS_VERSION 4, ver), (TU_STATUS_EPOCH, 3), (PL_CFG_PAYLOAD_BYTES 4, 2),
    (PL_QUAR_CFG_LIMIT 4, 2), (PL_QUAR_CFG_WINDOW_US 4, 10)] ++ l)
  ({ d with tick := 8000, time := 10000 * 2 ^ 32 }).setPort 4 x
/-- A frame of this sequence number, type, payload, right in its header and CRCs. -/
def rxFrame (seq ty : Nat) (bs : List Nat) : RxFrame :=
  ⟨seq, ty, bs.length, 9, pcrcOf bs, 0, crc16 112 (headerTop seq ty bs.length 9 (pcrcOf bs) 0), bs, 1, [], false⟩
/-- A device that answers, LPDDR5X up and MEM_EN set, with bytes at 0x1000. -/
def memD (l : List (Fld × Nat)) : Dev :=
  (readyD ([(GLB_STATUS_MEM_EN, 1), (PWR_DOMAIN_STAT_STATE 28, 2), (LPX_REGION_KIND 3, 1), (LPX_REGION_BASE_MIB 3, 0), (LPX_REGION_SIZE_MIB 3, 1)] ++ l)).poke 0x1000 [1, 2, 3, 4, 5, 6, 7, 8, 9]
/-- Completions held for the queue, of no graph and of this slot's. -/
def heldD (c : List CqEntry) (l : List (Fld × Nat)) : Dev :=
  let d := memD ([(GLB_CQ_CFG_ENTRIES_LOG2, 6), (GLB_CQ_CFG_ENABLE, 1), (GLB_CQ_TAIL_PHASE, 1), (GLB_CQ_BASE_ADDR, 0x100)] ++ l)
  { d with tick := 8000, host := { d.host with hold := c } }
/-- A device whose mailbox answers. -/
def boxD (l : List (Fld × Nat)) (m : Mailbox) : Dev :=
  let d := memD ((SEC_BOOT_BOOT_STEP, 8) :: l)
  { d with tick := 8000, host := { d.host with mbox := m } }
/-- An event record with this handle. -/
def eventRec (h : Nat) : List Nat := List.replicate 20 9 ++ leBytes 2 h ++ List.replicate 106 0
/-- R546: an image of this SVN with a body of one byte. -/
def fwBytes (svn : Nat) : List Nat :=
  [0x4D, 0x4F, 0x4C, 0x57, 0x46, 0x57, 0, 0, 1, 0, 0, 0] ++ leBytes 4 svn ++ leBytes 8 0x1234 ++ leBytes 8 1 ++ List.replicate 5408 0 ++ [9]
/-- R554: an enrolment of this serial number, sequence and flags, with empty signatures. -/
def enrolment (serial sq flags : Nat) : List Nat :=
  [0x45, 0x56, 0x58, 0x45, 1, 0, 0, 0] ++ leBytes 8 serial ++ leBytes 4 sq ++ leBytes 4 flags ++ List.replicate 8 0 ++ List.replicate 64 7 ++ List.replicate 3373 0
/-- R555: a policy with its keys' address. -/
def policyOf (serial sq flags a : Nat) : List Nat :=
  [0x45, 0x56, 0x58, 0x50, 1, 0, 0, 0] ++ leBytes 8 serial ++ leBytes 4 sq ++ leBytes 4 flags ++ leBytes 4 3 ++ List.replicate 3380 0 ++ leBytes 8 a ++ List.replicate 32 2
/-- Two full mesh sinks that wait for each other: sink `i` of block 3 on a network, and what it leads to. -/
def ringD (net i n : Nat) (l : List (Fld × Nat)) : Dev :=
  let q := qnum 3 net i
  let r := (meshNext q).getD 0
  let b := r / 1024
  let j := r % 256
  fill (readyD ([(RIND_STATUS_RUN_STATE, stRunning), (FAB_DL_CFG_ENABLE, 1), (PWR_DOMAIN_STAT_STATE (domainOf 3), 2), (PWR_DOMAIN_STAT_STATE (domainOf b), 2), (BLK_SW_VALID 3 net i, 1), (BLK_SW_SRC 3 net i, i),
    (BLK_SW_DEPTH 3 net i, 2), (BLK_SW_VALID b net j, 1), (BLK_SW_SRC b net j, j), (BLK_SW_DEPTH b net j, 2)] ++ l))
    [(q, List.replicate n (tk 300 .data 5)), (r, List.replicate 3 (tk 301 .data 6))]
/-- A device with a snapshot area of two slots of 64 KiB at 0x10000 in a host region of 1 MiB, and the run log at 1 GiB. -/
def snapD (l : List (Fld × Nat)) : Dev :=
  { readyD ([(LPX_REGION_KIND 3, 1), (LPX_REGION_BASE_MIB 3, 0), (LPX_REGION_SIZE_MIB 3, 1), (FAB_SNAP_AREA_SLOT_64K, 1), (FAB_SNAP_AREA_SLOTS, 2),
    (FAB_SNAP_AREA_BASE_4K, 16), (LPX_REGION_BASE_MIB 0, 1024), (LPX_REGION_SIZE_MIB 0, 1)] ++ l) with tick := 8000, time := 10000 * 2 ^ 32 }
/-- A snapshot latched at tick `t` with one small section. -/
def latch1 (t n : Nat) : Latched := ⟨1, 0, 0, t, List.replicate 52 7, [(0, [0, 0, 0, 0] ++ leBytes 4 (n + 8) ++ List.replicate (n - 1) 0 ++ [5])], []⟩
/-- A powered device that answers: fabric domain 0 claimed with a floor of 620 mV, every domain ON, ports 4 and 5 of group 0. -/
def powerD (l : List (Fld × Nat)) : Dev :=
  let d := (readyD ((List.range 30).map (fun k => (PWR_DOMAIN_STAT_STATE k, 2)) ++ [(PWR_DOMAIN_STAT_CLAIMED 0, 1), (PWR_DOMAIN_STAT_FLOOR_MV 0, 620), (PWR_DOMAIN_STAT_V_MV 0, 700),
    (PL_STATUS_STATE 4, psActive), (PL_STATUS_STATE 12, psDown)] ++ l)).poke (blkMem 1 + 5) [7, 8]
  { d with tick := 8000, time := 10000 * 2 ^ 32, pwr := { d.pwr with up := true } }
/-- A state with this device and test port. -/
def jst (d : Dev) (j : Jtag) : State := { State.reset with dev := d, jtag := j }


/-! ## Well-formed and ill-formed commands -/

/-- A tile issue of a block there is not. -/
def xBad : Issue := ⟨256, 0, g0, 0, []⟩
/-- What boot meets where all goes well. -/
def bootOk : BootInput := ⟨true, true, true, true, true, ⟨false, 64000, 16⟩, [], List.replicate 10 (2 ^ 32 - 1)⟩
/-- One well-formed term of each constructor, its operands at their greatest values, part 0. -/
theorem test_wellFormed0 :
    [      (Instr.registerWrite (2 ^ 26 + 2 ^ 18 - 1) 5 (2 ^ 64 - 1) : Instr), .frameBoundary, .frameEligible 63, .lookbackDelivery 255 1 [] 5,
      .resultArrival 15, .faultNotice 5, .tieReport 5, .deadline 7 4095, .horizon 7 4095, .timeBaseLoss, .holdoverEnd, .rindCountClear, .slackClear,
      .closeInputs true, .stampSelWrite 4095, .streamCfgWrite 7 (2 ^ 64 - 1), .tokenTransfer 255 2 31 good, .turnMonWindow (List.replicate 16 70000),
      .turnMinClear, .tieCountClear, .tileFiringStart 255 16 3 none, .nop x0, .end_ x0, .br x0 127, .loop x0 3 127, .add x0 15 15 15,
      .sub x0 15 15 15, .and_ x0 15 15 15, .or_ x0 15 15 15, .xor_ x0 15 15 15, .shl x0 15 15 15, .shr x0 15 15 15, .sra x0 15 15 15,
      .adds x0 15 15 15, .subs x0 15 15 15, .min_ x0 15 15 15, .max_ x0 15 15 15, .minu x0 15 15 15, .maxu x0 15 15 15, .mul x0 15 15 15,
      .mulu x0 15 15 15, .addi x0 15 15 (2 ^ 14 - 1), .andi x0 15 15 (2 ^ 14 - 1), .ori x0 15 15 (2 ^ 14 - 1), .xori x0 15 15 (2 ^ 14 - 1),
      .shli x0 15 15 31, .shri x0 15 15 31, .srai x0 15 15 31].all Instr.wf = true := by decide +kernel
/-- One well-formed term of each constructor, its operands at their greatest values, part 1. -/
theorem test_wellFormed1 :
    [      (Instr.movi x0 15 (2 ^ 18 - 1) : Instr), .movhi x0 15 (2 ^ 16 - 1), .extu x0 15 15 31 1, .exts x0 15 15 0 32, .ins x0 15 15 31 1,
      .popc x0 15 15, .clz x0 15 15, .sel x0 15 15 15 3, .rget x0 15 15, .rput x0 15 15, .lut x0 15 15, .luts x0 15 15, .lutw x0 15 15,
      .cmpCc x0 .geu 3 15 15, .cmpiCc x0 .geu 3 15 (2 ^ 14 - 1), .plog x0 3 3 3 15, .pget_ x0 15, .pput_ x0 15, .cldi x0 3 (2 ^ 16 - 1),
      .cld x0 3 15, .cget x0 15 3, .cstep x0 3 3, .recv x0 15 4 true 3, .send x0 4 15, .sendM x0 4 15, .sendc x0 3, .tileFlush 255 16,
      .failedUnitConsume (2 ^ 24 - 1) 5, .steer 255 3, .mergeBoth 255 3, .mergeSelected 255 3, .join 255 3, .suFlush 255 3,
      .vuCycleStart (2 ^ 24 - 1) noBad, .vuRowIntake (2 ^ 24 - 1) noBad, .endOfAccumulation (2 ^ 24 - 1) noBad, .vuTransform (2 ^ 24 - 1) noBad,
      .vuOutput (2 ^ 24 - 1) noBad, .vuFlush (2 ^ 24 - 1), .aguRead 255 1 cleanAccess, .aguWrite 255 1 cleanAccess, .aguWindow 255 1 cleanAccess,
      .requestRead 255 1 cleanAccess, .requestWrite 255 1 cleanAccess, .requestAdd 255 1 cleanAccess, .fetch 255, .fetchComplete 255 5 ⟨true, 9⟩,
      .wait 255].all Instr.wf = true := by decide +kernel
/-- One well-formed term of each constructor, its operands at their greatest values, part 2. -/
theorem test_wellFormed2 :
    [      (Instr.post 255 : Instr), .muFlush 255, .curdRecord, .curdSlotRead [] 5, .curdCaptureComplete, .curdEnableWrite true, .curdCountClear,
      .curdAreaWrite (2 ^ 64 - 1), .curdRdWrite (2 ^ 64 - 1), .curdRuleWrite 15 (2 ^ 64 - 1), .memoryWake 19, .graphSubmit (2 ^ 16 - 1) 5,
      .taskDispatch 15 4095, .graphAbort 15, .load 15 4095, .unload 15 4095, .arm 15 4095, .start 15 4095, .stop 15 4095, .segmentBreak 15 4095,
      .segmentOpen 15 4095, .install 15 4095, .registerBank 15 4095, .march 15 4095 ⟨[9], [9]⟩, .copy 15 ⟨4095, 9, [9]⟩, .taskNop 15 4095,
      .breakReached, .drainTimeout, .drainedReached, .relocation [] [], .loadCfgWrite (2 ^ 64 - 1), .charQueryWrite (2 ^ 64 - 1), .servoUpdate,
      .revertToPrimary, .ppsInEdge 1249, .time ⟨63, true⟩ (2 ^ 256 - 1) (2 ^ 20 - 1), .step ⟨63, true⟩ (2 ^ 256 - 1), .timeSymbolSend 63,
      .stepSymbolSend 63, .sourceLoss, .stepAtReached, .resync, .timeSet 5, .timeRead, .tuCountClear, .schedWrite 255, .schedRead 255,
      .schedCancel 255].all Instr.wf = true := by decide +kernel
/-- One well-formed term of each constructor, its operands at their greatest values, part 3. -/
theorem test_wellFormed3 :
    [      (Instr.schedEventPop : Instr), .scheduleFire 255, .trgoutEdge 31, .tcapEdge 7 true 1249, .tcapPop 7, .ppsOutEdge,
      .frameAssembled 63 (rxFrame 1 3 [1]), .protoErrDeferred 63, .quarantineProtoErr 63, .violationWindowEnd 63, .align ⟨63, true⟩ 3 ⟨3, true, 0⟩,
      .alignSend 63, .credit ⟨63, true⟩ 5, .idleEnter ⟨63, true⟩, .retrainReq ⟨63, true⟩, .retry 63 5, .portRecordSend 63, .resultFrameSend 63,
      .captureSegmentSend 63, .creditTimeout 63, .signalDetect 63, .train 63 (2 ^ 64 - 1), .equaliseDone 63 (List.replicate 52 7), .alignDone 63,
      .trainTimeout 63, .darkEnd 63, .downRetry 63 true, .linkDrop 63 true, .idleExit 63, .idleTimeout 63 true, .laserMeasure 15 5,
      .marginWarn 63 [1, 2, 3, 4], .retrain 63, .idleReq 63 true, .logPop 63, .plCountClear 63, .testSettingWrite 63 4 (2 ^ 64 - 1), .slip 63 3,
      .injectOne 63 3, .cxlMemRead 0x13FFFFFFC0 ⟨true, 9⟩, .cxlMemWrite 0x13FFFFFFFF [255], .snoop 5, .hdmCommit true, .cxlLinkDown,
      .cxlLinkUp ⟨false, 64000, 16⟩, .dpStart (2 ^ 64 - 1), .dpAbort, .dpWindowWrite 4095 []].all Instr.wf = true := by decide +kernel
/-- One well-formed term of each constructor, its operands at their greatest values, part 4. -/
theorem test_wellFormed4 :
    [      (Instr.dpWindowRead 4095 5 ⟨⟨true, 9⟩, 9, [9]⟩ : Instr), .dpBurstDone, .cqEnable (2 ^ 64 - 1), .cqHeadWrite (2 ^ 64 - 1), .cqStatClear,
      .cqEntryWrite, .cqInterrupt, .getEventRecords [], .clearEventRecords [], .getEventInterruptPolicy [], .setEventInterruptPolicy [],
      .getFwInfo [], .transferFw [], .activateFw [], .fwProgrammingDone true, .getTimestamp [], .setTimestamp [], .getSupportedLogs [], .getLog [],
      .identifyMemoryDevice [], .getHealthInfo [], .mailboxUnsupported 0xFFFF [], .getDeviceInfo [], .regionCreate [], .regionFree [], .reset [],
      .logInfo [], .getCertificate [], .attest [], .ownerEnrol [], .ownerPolicy [], .spdmGetVersion [], .spdmGetCapabilities [],
      .spdmNegotiateAlgorithms [], .spdmGetDigests [], .spdmGetCertificate [], .spdmChallenge [], .spdmGetMeasurements [], .spdmKeyExchange [],
      .spdmFinish [], .spdmEndSession [], .stallReport 255 2 31, .probeResult 255 2 31, .ledgerClear, .ledgerCountClear, .ledgerSelWrite 1023,
      .esqLedgerWrite 4095, .take].all Instr.wf = true := by decide +kernel
/-- One well-formed term of each constructor, its operands at their greatest values, part 5. -/
theorem test_wellFormed5 :
    [      (Instr.stallClear : Instr), .freeze true, .snapAreaWrite (2 ^ 64 - 1), .snapshotWritten, .snapshot 15 4095, .scanOut 15 4095 [],
      .scanIn 15 4095, .reqOff 29, .reqLow 29, .reqOn 29, .reqAuto 29, .regulatorFault 30 3, .avcInterval 15, .tempReading (List.replicate 31 65535),
      .hotLockWrite, .peakClear, .mainUndervoltage (2 ^ 16 - 1), .powerDown, .coldReset, .deviceReset .resetN, .bootStart bootOk, .bootReady,
      .smbStatus, .smbTempMax, .smbPower, .smbMainMv, .smbSerial, .smbId, .smbLaserPower, .smbPortState, .smbQuiesce 255, .smbAlertResponse, .bypass,
      .idcode, .samplePreload [0, 1], .extest, .clamp, .highz, .acExtestInstruction, .tapReset, .rxLock 63 3 5, .protoErr ⟨63, true⟩,
      .idleBlock ⟨63, true⟩, .recordBlock ⟨63, true⟩, .invalidBlock 63 .strayData, .opticalGroupOn 7, .retrainReqEnd 63,
      .rceWatchdog].all Instr.wf = true := by decide +kernel
/-- One well-formed term of each constructor, its operands at their greatest values, part 6. -/
theorem test_wellFormed6 :
    [      (Instr.powerAverage (2 ^ 32 - 1) (2 ^ 16 - 1) (2 ^ 16 - 1) : Instr), .resetNRise, .cxlCacheEnable, .ideKeyExchange [],
      .smbOtherCode 255].all Instr.wf = true := by decide +kernel
/-- Terms that break one check each, part 0. -/
theorem test_illFormed0 :
    [      (Instr.registerWrite (2 ^ 26 + 2 ^ 18 - 1) 5 (2 ^ 64) : Instr), .registerWrite (2 ^ 26 + 2 ^ 18) 5 (2 ^ 64 - 1), .frameEligible 64,
      .lookbackDelivery 256 1 [] 5, .lookbackDelivery 255 2 [] 5, .resultArrival 16, .deadline 8 4095, .deadline 7 4096, .horizon 8 4095,
      .horizon 7 4096, .stampSelWrite 4096, .streamCfgWrite 8 (2 ^ 64 - 1), .streamCfgWrite 7 (2 ^ 64), .tokenTransfer 256 2 31 good,
      .tokenTransfer 255 3 0 good, .tokenTransfer 255 0 92 good, .tokenTransfer 255 1 23 good, .tokenTransfer 255 2 32 good, .turnMonWindow [],
      .tileFiringStart 256 16 3 none, .tileFiringStart 255 17 3 none, .tileFiringStart 255 16 4 none, .nop xBad, .end_ xBad, .br x0 128,
      .br xBad 127, .loop x0 4 127, .loop x0 3 128, .loop xBad 3 127, .add x0 16 15 15, .add x0 15 16 15, .add x0 15 15 16, .add xBad 15 15 15,
      .sub x0 16 15 15, .sub x0 15 16 15, .sub x0 15 15 16, .sub xBad 15 15 15, .and_ x0 16 15 15, .and_ x0 15 16 15, .and_ x0 15 15 16,
      .and_ xBad 15 15 15, .or_ x0 16 15 15, .or_ x0 15 16 15, .or_ x0 15 15 16, .or_ xBad 15 15 15, .xor_ x0 16 15 15, .xor_ x0 15 16 15,
      .xor_ x0 15 15 16, .xor_ xBad 15 15 15, .shl x0 16 15 15, .shl x0 15 16 15, .shl x0 15 15 16, .shl xBad 15 15 15, .shr x0 16 15 15,
      .shr x0 15 16 15, .shr x0 15 15 16, .shr xBad 15 15 15, .sra x0 16 15 15, .sra x0 15 16 15,
      .sra x0 15 15 16].all (fun i => !i.wf) = true := by decide +kernel
/-- Terms that break one check each, part 1. -/
theorem test_illFormed1 :
    [      (Instr.sra xBad 15 15 15 : Instr), .adds x0 16 15 15, .adds x0 15 16 15, .adds x0 15 15 16, .adds xBad 15 15 15, .subs x0 16 15 15,
      .subs x0 15 16 15, .subs x0 15 15 16, .subs xBad 15 15 15, .min_ x0 16 15 15, .min_ x0 15 16 15, .min_ x0 15 15 16, .min_ xBad 15 15 15,
      .max_ x0 16 15 15, .max_ x0 15 16 15, .max_ x0 15 15 16, .max_ xBad 15 15 15, .minu x0 16 15 15, .minu x0 15 16 15, .minu x0 15 15 16,
      .minu xBad 15 15 15, .maxu x0 16 15 15, .maxu x0 15 16 15, .maxu x0 15 15 16, .maxu xBad 15 15 15, .mul x0 16 15 15, .mul x0 15 16 15,
      .mul x0 15 15 16, .mul xBad 15 15 15, .mulu x0 16 15 15, .mulu x0 15 16 15, .mulu x0 15 15 16, .mulu xBad 15 15 15,
      .addi x0 16 15 (2 ^ 14 - 1), .addi x0 15 16 (2 ^ 14 - 1), .addi x0 15 15 (2 ^ 14), .addi xBad 15 15 (2 ^ 14 - 1), .andi x0 16 15 (2 ^ 14 - 1),
      .andi x0 15 16 (2 ^ 14 - 1), .andi x0 15 15 (2 ^ 14), .andi xBad 15 15 (2 ^ 14 - 1), .ori x0 16 15 (2 ^ 14 - 1), .ori x0 15 16 (2 ^ 14 - 1),
      .ori x0 15 15 (2 ^ 14), .ori xBad 15 15 (2 ^ 14 - 1), .xori x0 16 15 (2 ^ 14 - 1), .xori x0 15 16 (2 ^ 14 - 1), .xori x0 15 15 (2 ^ 14),
      .xori xBad 15 15 (2 ^ 14 - 1), .shli x0 16 15 31, .shli x0 15 16 31, .shli x0 15 15 32, .shli xBad 15 15 31, .shri x0 16 15 31,
      .shri x0 15 16 31, .shri x0 15 15 32, .shri xBad 15 15 31, .srai x0 16 15 31, .srai x0 15 16 31,
      .srai x0 15 15 32].all (fun i => !i.wf) = true := by decide +kernel
/-- Terms that break one check each, part 2. -/
theorem test_illFormed2 :
    [      (Instr.srai xBad 15 15 31 : Instr), .movi x0 16 (2 ^ 18 - 1), .movi x0 15 (2 ^ 18), .movi xBad 15 (2 ^ 18 - 1), .movhi x0 16 (2 ^ 16 - 1),
      .movhi x0 15 (2 ^ 16), .movhi xBad 15 (2 ^ 16 - 1), .extu x0 16 15 31 1, .extu x0 15 16 31 1, .extu x0 15 15 32 1, .extu xBad 15 15 31 1,
      .extu x0 15 15 31 0, .extu x0 15 15 1 32, .exts x0 16 15 0 32, .exts x0 15 16 0 32, .exts x0 15 15 32 32, .exts xBad 15 15 0 32,
      .exts x0 15 15 0 0, .exts x0 15 15 1 32, .ins x0 16 15 31 1, .ins x0 15 16 31 1, .ins x0 15 15 32 1, .ins xBad 15 15 31 1, .ins x0 15 15 31 0,
      .ins x0 15 15 1 32, .popc x0 16 15, .popc x0 15 16, .popc xBad 15 15, .clz x0 16 15, .clz x0 15 16, .clz xBad 15 15, .sel x0 16 15 15 3,
      .sel x0 15 16 15 3, .sel x0 15 15 16 3, .sel x0 15 15 15 4, .sel xBad 15 15 15 3, .rget x0 16 15, .rget x0 15 16, .rget xBad 15 15,
      .rput x0 16 15, .rput x0 15 16, .rput xBad 15 15, .lut x0 16 15, .lut x0 15 16, .lut xBad 15 15, .luts x0 16 15, .luts x0 15 16,
      .luts xBad 15 15, .lutw x0 16 15, .lutw x0 15 16, .lutw xBad 15 15, .cmpCc x0 .geu 4 15 15, .cmpCc x0 .geu 3 16 15, .cmpCc x0 .geu 3 15 16,
      .cmpCc xBad .geu 3 15 15, .cmpiCc x0 .geu 4 15 (2 ^ 14 - 1), .cmpiCc x0 .geu 3 16 (2 ^ 14 - 1), .cmpiCc x0 .geu 3 15 (2 ^ 14),
      .cmpiCc xBad .geu 3 15 (2 ^ 14 - 1), .plog x0 4 3 3 15].all (fun i => !i.wf) = true := by decide +kernel
/-- Terms that break one check each, part 3. -/
theorem test_illFormed3 :
    [      (Instr.plog x0 3 4 3 15 : Instr), .plog x0 3 3 4 15, .plog x0 3 3 3 16, .plog xBad 3 3 3 15, .pget_ x0 16, .pget_ xBad 15, .pput_ x0 16,
      .pput_ xBad 15, .cldi x0 4 (2 ^ 16 - 1), .cldi x0 3 (2 ^ 16), .cldi xBad 3 (2 ^ 16 - 1), .cld x0 4 15, .cld x0 3 16, .cld xBad 3 15,
      .cget x0 16 3, .cget x0 15 4, .cget xBad 15 3, .cstep x0 4 3, .cstep x0 3 4, .cstep xBad 3 3, .recv x0 16 4 true 3, .recv x0 15 5 true 3,
      .recv x0 15 4 true 4, .recv xBad 15 4 true 3, .send x0 5 15, .send x0 4 16, .send xBad 4 15, .sendM x0 5 15, .sendM x0 4 16, .sendM xBad 4 15,
      .sendc x0 4, .sendc xBad 3, .tileFlush 256 16, .tileFlush 255 17, .failedUnitConsume (2 ^ 24) 5, .steer 256 3, .steer 255 4, .mergeBoth 256 3,
      .mergeBoth 255 4, .mergeSelected 256 3, .mergeSelected 255 4, .join 256 3, .join 255 4, .suFlush 256 3, .suFlush 255 4,
      .vuCycleStart (2 ^ 24) noBad, .vuCycleStart (2 ^ 24 - 1) ⟨[4], [], [], [], [5], false⟩, .vuRowIntake (2 ^ 24) noBad,
      .vuRowIntake (2 ^ 24 - 1) ⟨[4], [], [], [], [5], false⟩, .endOfAccumulation (2 ^ 24) noBad,
      .endOfAccumulation (2 ^ 24 - 1) ⟨[4], [], [], [], [5], false⟩, .vuTransform (2 ^ 24) noBad,
      .vuTransform (2 ^ 24 - 1) ⟨[4], [], [], [], [5], false⟩, .vuOutput (2 ^ 24) noBad, .vuOutput (2 ^ 24 - 1) ⟨[4], [], [], [], [5], false⟩,
      .vuFlush (2 ^ 24), .aguRead 256 1 cleanAccess, .aguRead 255 2 cleanAccess, .aguRead 255 1 ⟨5, none⟩,
      .aguWrite 256 1 cleanAccess].all (fun i => !i.wf) = true := by decide +kernel
/-- Terms that break one check each, part 4. -/
theorem test_illFormed4 :
    [      (Instr.aguWrite 255 2 cleanAccess : Instr), .aguWrite 255 1 ⟨5, none⟩, .aguWindow 256 1 cleanAccess, .aguWindow 255 2 cleanAccess,
      .aguWindow 255 1 ⟨5, none⟩, .requestRead 256 1 cleanAccess, .requestRead 255 2 cleanAccess, .requestRead 255 1 ⟨5, none⟩,
      .requestWrite 256 1 cleanAccess, .requestWrite 255 2 cleanAccess, .requestWrite 255 1 ⟨5, none⟩, .requestAdd 256 1 cleanAccess,
      .requestAdd 255 2 cleanAccess, .requestAdd 255 1 ⟨5, none⟩, .fetch 256, .fetchComplete 256 5 ⟨true, 9⟩, .wait 256, .post 256, .muFlush 256,
      .curdAreaWrite (2 ^ 64), .curdRdWrite (2 ^ 64), .curdRuleWrite 16 (2 ^ 64 - 1), .curdRuleWrite 15 (2 ^ 64), .memoryWake 20,
      .graphSubmit (2 ^ 16) 5, .taskDispatch 16 4095, .taskDispatch 15 4096, .graphAbort 16, .load 16 4095, .load 15 4096, .unload 16 4095,
      .unload 15 4096, .arm 16 4095, .arm 15 4096, .start 16 4095, .start 15 4096, .stop 16 4095, .stop 15 4096, .segmentBreak 16 4095,
      .segmentBreak 15 4096, .segmentOpen 16 4095, .segmentOpen 15 4096, .install 16 4095, .install 15 4096, .registerBank 16 4095,
      .registerBank 15 4096, .march 16 4095 ⟨[9], [9]⟩, .march 15 4096 ⟨[9], [9]⟩, .copy 16 ⟨4095, 9, [9]⟩, .copy 15 ⟨4096, 0, []⟩, .taskNop 16 4095,
      .taskNop 15 4096, .loadCfgWrite (2 ^ 64), .charQueryWrite (2 ^ 64), .ppsInEdge 1250, .time ⟨63, true⟩ (2 ^ 256) (2 ^ 20 - 1),
      .time ⟨63, true⟩ (2 ^ 256 - 1) (2 ^ 20), .time ⟨64, false⟩ (2 ^ 256 - 1) (2 ^ 20 - 1), .step ⟨63, true⟩ (2 ^ 256),
      .step ⟨64, false⟩ (2 ^ 256 - 1)].all (fun i => !i.wf) = true := by decide +kernel
/-- Terms that break one check each, part 5. -/
theorem test_illFormed5 :
    [      (Instr.timeSymbolSend 64 : Instr), .stepSymbolSend 64, .schedWrite 256, .schedRead 256, .schedCancel 256, .scheduleFire 256, .trgoutEdge 32,
      .tcapEdge 8 true 1249, .tcapEdge 7 true 1250, .tcapPop 8, .frameAssembled 64 (rxFrame 1 3 [1]),
      .frameAssembled 63 { rxFrame 1 3 [1] with seq := 65536 }, .frameAssembled 63 (rxFrame 1 3 [256]), .protoErrDeferred 64, .quarantineProtoErr 64,
      .violationWindowEnd 64, .align ⟨63, true⟩ 4 ⟨3, true, 0⟩, .align ⟨64, false⟩ 3 ⟨3, true, 0⟩, .align ⟨63, true⟩ 3 ⟨4, true, 0⟩, .alignSend 64,
      .credit ⟨64, false⟩ 5, .idleEnter ⟨64, false⟩, .retrainReq ⟨64, false⟩, .retry 64 5, .portRecordSend 64, .resultFrameSend 64,
      .captureSegmentSend 64, .creditTimeout 64, .signalDetect 64, .train 64 (2 ^ 64 - 1), .train 63 (2 ^ 64),
      .equaliseDone 64 (List.replicate 52 7), .equaliseDone 63 [], .alignDone 64, .trainTimeout 64, .darkEnd 64, .downRetry 64 true,
      .linkDrop 64 true, .idleExit 64, .idleTimeout 64 true, .laserMeasure 16 5, .marginWarn 64 [1, 2, 3, 4], .marginWarn 63 [1, 2, 3], .retrain 64,
      .idleReq 64 true, .logPop 64, .plCountClear 64, .testSettingWrite 64 4 (2 ^ 64 - 1), .testSettingWrite 63 5 (2 ^ 64 - 1),
      .testSettingWrite 63 4 (2 ^ 64), .slip 64 3, .slip 63 4, .injectOne 64 3, .injectOne 63 4, .cxlMemRead 0x1400000000 ⟨true, 9⟩,
      .cxlMemRead 32 ⟨true, 9⟩, .cxlMemWrite 0x13FFFFFFFF [256], .cxlMemWrite 0x1400000000 [255], .cxlMemWrite 63 [1, 2],
      .cxlMemWrite 0x13FFFFFFFF []].all (fun i => !i.wf) = true := by decide +kernel
/-- Terms that break one check each, part 6. -/
theorem test_illFormed6 :
    [      (Instr.cxlLinkUp ⟨false, 32001, 16⟩ : Instr), .cxlLinkUp ⟨true, 64000, 16⟩, .cxlLinkUp ⟨true, 2500, 3⟩, .dpStart (2 ^ 64),
      .dpWindowWrite 4096 [], .dpWindowWrite 4095 [256], .dpWindowRead 4096 5 ⟨⟨true, 9⟩, 9, [9]⟩, .cqEnable (2 ^ 64), .cqHeadWrite (2 ^ 64),
      .getEventRecords [256], .clearEventRecords [256], .getEventInterruptPolicy [256], .setEventInterruptPolicy [256], .getFwInfo [256],
      .transferFw [256], .activateFw [256], .getTimestamp [256], .setTimestamp [256], .getSupportedLogs [256], .getLog [256],
      .identifyMemoryDevice [256], .getHealthInfo [256], .mailboxUnsupported 0xFFFF [256], .mailboxUnsupported 0x10000 [],
      .mailboxUnsupported 0x0100 [], .getDeviceInfo [256], .regionCreate [256], .regionFree [256], .reset [256], .logInfo [256],
      .getCertificate [256], .attest [256], .ownerEnrol [256], .ownerPolicy [256], .spdmGetVersion [256], .spdmGetCapabilities [256],
      .spdmNegotiateAlgorithms [256], .spdmGetDigests [256], .spdmGetCertificate [256], .spdmChallenge [256], .spdmGetMeasurements [256],
      .spdmKeyExchange [256], .spdmFinish [256], .spdmEndSession [256], .stallReport 256 2 31, .stallReport 255 3 0, .stallReport 255 0 92,
      .stallReport 255 1 23, .stallReport 255 2 32, .probeResult 256 2 31, .probeResult 255 3 0, .probeResult 255 0 92, .probeResult 255 1 23,
      .probeResult 255 2 32, .ledgerSelWrite 1024, .esqLedgerWrite 4096, .snapAreaWrite (2 ^ 64), .snapshot 16 4095, .snapshot 15 4096,
      .scanOut 16 4095 []].all (fun i => !i.wf) = true := by decide +kernel
/-- Terms that break one check each, part 7. -/
theorem test_illFormed7 :
    [      (Instr.scanOut 15 4096 [] : Instr), .scanIn 16 4095, .scanIn 15 4096, .reqOff 30, .reqLow 30, .reqOn 30, .reqAuto 30, .regulatorFault 31 3,
      .regulatorFault 30 0, .regulatorFault 30 4, .avcInterval 16, .tempReading [], .tempReading (List.replicate 31 65536),
      .mainUndervoltage (2 ^ 16), .bootStart { bootOk with link := ⟨true, 64000, 16⟩ }, .bootStart { bootOk with ends := [] },
      .bootStart { bootOk with ends := List.replicate 10 (2 ^ 32) }, .smbQuiesce 256, .samplePreload [2], .rxLock 64 3 5, .rxLock 63 4 5,
      .protoErr ⟨64, false⟩, .idleBlock ⟨64, false⟩, .recordBlock ⟨64, false⟩, .invalidBlock 64 .strayData, .opticalGroupOn 8, .retrainReqEnd 64,
      .powerAverage (2 ^ 32) (2 ^ 16 - 1) (2 ^ 16 - 1), .powerAverage (2 ^ 32 - 1) (2 ^ 16) (2 ^ 16 - 1),
      .powerAverage (2 ^ 32 - 1) (2 ^ 16 - 1) (2 ^ 16), .ideKeyExchange [256], .smbOtherCode 7, .smbOtherCode 256,
      .smbOtherCode 0x20].all (fun i => !i.wf) = true := by decide +kernel
/-- The checks of an issue: the block, the tile, the guard's predicate, a guard not in force, and the locations of upsets. -/
theorem test_illFormed_issue : [⟨256, 0, g0, 0, []⟩, ⟨0, 17, g0, 0, []⟩, ⟨0, 0, ⟨true, false, 4⟩, 0, []⟩, ⟨0, 0, ⟨false, true, 0⟩, 0, []⟩,
    ⟨0, 0, ⟨false, false, 1⟩, 0, []⟩, ⟨0, 0, g0, 0, [16]⟩, ⟨0, 0, g0, 0, [288]⟩].all (fun x => !(Instr.nop x).wf) = true := by decide

/-! ## Tile instruction words (R107 to R109), written out from the encoding table -/

/-- Format R: ADD g1, g2, g3. -/
theorem test_word_add : tileDecode (0x04 <<< 22 ||| 1 <<< 18 ||| 2 <<< 14 ||| 3 <<< 10) = some (.add x0 1 2 3) := by decide +kernel
/-- Format R with PS: SEL g15, g0, g14, p3. -/
theorem test_word_sel : tileDecode (0x22 <<< 22 ||| 15 <<< 18 ||| 14 <<< 10 ||| 3 <<< 8) = some (.sel x0 15 0 14 3) := by decide +kernel
/-- Format I under the guard of p2 being 0: ADDI g4, g5, −1. -/
theorem test_word_addi : tileDecode (0xE <<< 28 ||| 0x14 <<< 22 ||| 4 <<< 18 ||| 5 <<< 14 ||| 0x3FFF) =
    some (.addi ⟨0, 0, ⟨true, true, 2⟩, 0, []⟩ 4 5 0x3FFF) := by decide +kernel
/-- Format M: MOVI g9, 0x20001. -/
theorem test_word_movi : tileDecode (0x1B <<< 22 ||| 9 <<< 18 ||| 0x20001) = some (.movi x0 9 0x20001) := by decide +kernel
/-- Format F: EXTU g1, g2 from bit 7, LENM1 = 3. -/
theorem test_word_extu : tileDecode (0x1D <<< 22 ||| 1 <<< 18 ||| 2 <<< 14 ||| 7 <<< 9 ||| 3 <<< 4) = some (.extu x0 1 2 7 4) := by decide +kernel
/-- Format C: CMP.LTU p3, g1, g2, and CMPI.GE p1, g4, 0x2000. -/
theorem test_word_cmp : tileDecode (0x2C <<< 22 ||| 3 <<< 18 ||| 1 <<< 14 ||| 2 <<< 10) = some (.cmpCc x0 .ltu 3 1 2) ∧
    tileDecode (0x31 <<< 22 ||| 1 <<< 18 ||| 4 <<< 14 ||| 0x2000) = some (.cmpiCc x0 .ge 1 4 0x2000) := by decide +kernel
/-- Format P: PLOG p1, p2, p3 with FN = 6. -/
theorem test_word_plog : tileDecode (0x34 <<< 22 ||| 1 <<< 18 ||| 2 <<< 16 ||| 3 <<< 14 ||| 6) = some (.plog x0 1 2 3 6) := by decide +kernel
/-- Format K: LOOP c3, 127; CLDI c2, 0x8001; CLD c1, g7; CGET g6, c3; CSTEP c2, p1. -/
theorem test_word_counters : tileDecode (0x03 <<< 22 ||| 3 <<< 20 ||| 127) = some (.loop x0 3 127) ∧
    tileDecode (0x37 <<< 22 ||| 2 <<< 20 ||| 0x8001) = some (.cldi x0 2 0x8001) ∧
    tileDecode (0x38 <<< 22 ||| 1 <<< 20 ||| 7 <<< 14) = some (.cld x0 1 7) ∧
    tileDecode (0x39 <<< 22 ||| 6 <<< 18 ||| 3 <<< 12) = some (.cget x0 6 3) ∧
    tileDecode (0x3A <<< 22 ||| 2 <<< 20 ||| 1 <<< 18) = some (.cstep x0 2 1) := by decide +kernel
/-- Format X: RECV g3, ctl-in, p1; SEND out2, g5; SEND.M out3, g1; SENDC p2. -/
theorem test_word_ports : tileDecode (0x3B <<< 22 ||| 3 <<< 18 ||| 4 <<< 15 ||| 1 <<< 14 ||| 1 <<< 12) = some (.recv x0 3 4 true 1) ∧
    tileDecode (0x3C <<< 22 ||| 5 <<< 14 ||| 2 <<< 11) = some (.send x0 2 5) ∧
    tileDecode (0x3C <<< 22 ||| 1 <<< 14 ||| 3 <<< 11 ||| 1 <<< 10) = some (.sendM x0 3 1) ∧
    tileDecode (0x3D <<< 22 ||| 4 <<< 11 ||| 2 <<< 8) = some (.sendc x0 2) := by decide +kernel
/-- The all-zero word is NOP, and END, BR 5, PGET g2, PPUT g3 and MOVHI. -/
theorem test_word_control : tileDecode 0 = some (.nop x0) ∧ tileDecode (0x01 <<< 22) = some (.end_ x0) ∧
    tileDecode (0x02 <<< 22 ||| 5) = some (.br x0 5) ∧ tileDecode (0x35 <<< 22 ||| 2 <<< 18) = some (.pget_ x0 2) ∧
    tileDecode (0x36 <<< 22 ||| 3 <<< 14) = some (.pput_ x0 3) ∧
    tileDecode (0x1C <<< 22 ||| 1 <<< 18 ||| 0xFFFF) = some (.movhi x0 1 0xFFFF) := by decide +kernel
/-- R108: words the loader refuses: reserved opcodes and guards, a non-zero bit in a field listed as zero, a PORT of 5, a bit
field past bit 31. -/
theorem test_word_illegal : ([0x3E <<< 22, 0x3F <<< 22, 1 <<< 28, 8 <<< 28, 0x04 <<< 22 ||| 1, 0x18 <<< 22 ||| 32, 0x1C <<< 22 ||| 1 <<< 16,
    0x3B <<< 22 ||| 5 <<< 15, 0x1D <<< 22 ||| 20 <<< 9 ||| 15 <<< 4, 0x3D <<< 22 ||| 3 <<< 11, 0x20 <<< 22 ||| 1 <<< 10, 0x24 <<< 22 ||| 1 <<< 18].all
      (fun w => (tileDecode w).isNone)) = true := by decide +kernel
/-- A block has no command words. -/
theorem test_no_command_words : decodeTableWord 32 0x04000000 = none := by decide

/-! ## Witnesses: lattice tiles -/

/-- `Issues` and the word's well-formedness, as a test. -/
def issuesB (d : Dev) (x : Issue) (i : Instr) : Bool :=
  i.wf && (tileWord i).any (fun w => (d.logTile x.block x.tile).isSome && d.powered x.block && d.flag (BLK_TILE_STATE_FIRING x.block x.tile) &&
    !d.flag (BLK_TILE_STATE_FAILED x.block x.tile) && d.imem (tc x) (tilePc d x) == w && decide (x.fetchBad < 4) &&
    decide ((d.firing (tc x)).issued < d.fget (BLK_TILE_FIRE_MAX_INSTR x.block x.tile (d.firing (tc x)).desc)))
/-- `TileClean`, as a test. -/
def cleanB (d : Dev) (x : Issue) : Bool := (d.badLocs (tileId x.block x.tile)).isEmpty && x.upsets.isEmpty
/-- `Runs`, as a test. -/
def runsB (d : Dev) (x : Issue) (i : Instr) : Bool := issuesB d x i && guardOk d (tc x) x.guard && cleanB d x

theorem issues_of_issuesB {d : Dev} {x : Issue} {i : Instr} (h : issuesB d x i = true) :
    i.wf = true ∧ ∃ w, tileWord i = some w ∧ Issues d x w := by
  simp only [issuesB, Bool.and_eq_true, Option.any_eq_true, beq_iff_eq, decide_eq_true_eq, Bool.not_eq_true'] at h
  obtain ⟨h1, w, h2, ⟨⟨⟨⟨⟨a, b⟩, c⟩, e⟩, f⟩, g⟩, k⟩ := h
  exact ⟨h1, w, h2, ⟨a, b, c, e, f, g, k⟩⟩

theorem clean_of_cleanB {d : Dev} {x : Issue} (h : cleanB d x = true) : TileClean d x := by
  simpa [cleanB, TileClean] using h

theorem runs_of_runsB {d : Dev} {x : Issue} {i : Instr} (h : runsB d x i = true) : Runs d x i := by
  simp only [runsB, Bool.and_eq_true] at h
  exact ⟨(issues_of_issuesB h.1.1).1, (issues_of_issuesB h.1.1).2, h.1.2, clean_of_cleanB h.2⟩

/-- Every tile instruction but END, RECV and the sends, at its highest operands. -/
def tileOps : List Instr := [.nop x0, .br x0 127, .add x0 15 2 3, .sub x0 15 2 3, .and_ x0 15 2 3, .or_ x0 15 2 3, .xor_ x0 15 2 3, .shl x0 15 2 3,
  .shr x0 15 2 3, .sra x0 15 2 3, .adds x0 15 2 3, .subs x0 15 2 3, .min_ x0 15 2 3, .max_ x0 15 2 3, .minu x0 15 2 3, .maxu x0 15 2 3,
  .mul x0 15 2 3, .mulu x0 15 2 3, .addi x0 15 2 0x3FFF, .andi x0 15 2 0x3FFF, .ori x0 15 2 0x3FFF, .xori x0 15 2 0x3FFF, .shli x0 15 3 31,
  .shri x0 15 3 31, .srai x0 15 3 31, .movi x0 15 0x3FFFF, .movhi x0 15 0xFFFF, .extu x0 15 3 31 1, .exts x0 15 3 0 32, .ins x0 15 3 31 1,
  .popc x0 15 3, .clz x0 15 3, .sel x0 15 2 3 3, .rget x0 15 3, .rput x0 3 2, .lut x0 15 3, .luts x0 15 3, .lutw x0 3 2] ++
  ([.eq, .ne, .lt, .ge, .ltu, .geu].flatMap (fun cc => [.cmpCc x0 cc 3 2 3, .cmpiCc x0 cc 3 2 0x3FFF])) ++
  [.plog x0 3 2 1 15, .pget_ x0 15, .pput_ x0 3, .cldi x0 3 0xFFFF, .cld x0 3 3, .cget x0 15 2, .cstep x0 1 3, .cstep x0 2 3]

/-- Each of them runs, at word 4, in the state `tileD` makes for it (O1 to O4). -/
theorem wit_tileOps : ∀ i ∈ tileOps, Runs (st (tileD i 4 5 [])).dev x0 i := by
  have h : tileOps.all (fun i => runsB (tileD i 4 5 []) x0 i) = true := by decide +kernel
  exact fun i hi => runs_of_runsB (List.all_eq_true.mp h i hi)
/-- O2: SEL sees its predicate as 1 and as 0. O3: CSTEP meets a counter at 1 and at 9. -/
theorem wit_tileOps_values : (tileD (.nop x0) 4 8 []).p (tc x0) 3 = true ∧ (tileD (.nop x0) 4 5 []).p (tc x0) 3 = false ∧
    (tileD (.nop x0) 4 5 []).fget (cntFld (tc x0) 1) = 1 ∧ (tileD (.nop x0) 4 5 []).fget (cntFld (tc x0) 2) = 9 := by decide +kernel

/-- O4: LOOP at 0 and at 9. -/
theorem wit_loop : (let d := (st (tileD (.loop x0 0 127) 4 5 [])).dev
    Runs d x0 (.loop x0 0 127) ∧ d.fget (cntFld (tc x0) 0) = 0) ∧
    (let d := (st (tileD (.loop x0 2 127) 4 5 [])).dev
    Runs d x0 (.loop x0 2 127) ∧ d.fget (cntFld (tc x0) 2) ≠ 0) :=
  ⟨⟨runs_of_runsB (by decide +kernel), by decide +kernel⟩, ⟨runs_of_runsB (by decide +kernel), by decide +kernel⟩⟩

/-- A firing whose trigger tokens wait at ports 0 and 4, of these two ESQs. -/
def headsD (i : Instr) (pc : Nat) (q0 q4 : Nat) (l : List (Fld × Nat)) : Dev :=
  fill (tileD i pc 5 l) [(tileQ 0 0 0, [tk q0 .data 70000]), (tileQ 0 0 4, [tk q4 .data 70000])]
/-- O4: END with two trigger tokens not received. -/
theorem wit_end : let d := (st (headsD (.end_ x0) 4 7 7 [])).dev
    Runs d x0 (.end_ x0) ∧ d.logTile x0.block x0.tile = some 0 ∧ (∀ k < 5, unreceived d x0 k = true → d.queue (tileQ x0.block 0 k) ≠ []) ∧
      unreceived d x0 4 = true :=
  ⟨runs_of_runsB (by decide +kernel), by decide +kernel⟩
/-- O5: a firing at its limit of instructions. -/
theorem wit_overrun : let i := Instr.add x0 1 2 3
    let d := (st (headsD i 4 7 7 [(BLK_TILE_FIRE_MAX_INSTR 0 0 0, 0)])).dev
    i.wf = true ∧ i.issue = some x0 ∧ tileWord i = some (d.imem (tc x0) (tilePc d x0)) ∧ d.logTile x0.block x0.tile = some 0 ∧
    d.powered x0.block = true ∧ d.flag (BLK_TILE_STATE_FIRING x0.block x0.tile) = true ∧ d.flag (BLK_TILE_STATE_FAILED x0.block x0.tile) = false ∧
    x0.fetchBad < 4 ∧ (∀ k < 5, unreceived d x0 k = true → d.queue (tileQ x0.block 0 k) ≠ []) ∧
    d.fget (BLK_TILE_FIRE_MAX_INSTR x0.block x0.tile (d.firing (tc x0)).desc) ≤ (d.firing (tc x0)).issued := by decide +kernel
/-- Tile 0 under a guard that does not pass. -/
def xGuarded : Issue := ⟨0, 0, ⟨true, false, 3⟩, 0, []⟩
/-- O5, O6: at word 127 an instruction that goes on, and one whose guard fails; and one whose guard fails at word 4. -/
theorem wit_last_word : (let i := Instr.add x0 1 2 3
    let d := (st (tileD i 127 5 [])).dev
    i.wf = true ∧ i.issue = some x0 ∧ (∃ w, tileWord i = some w ∧ Issues d x0 w) ∧ TileClean d x0 ∧ tilePc d x0 = 127 ∧ i.movesOn = true) ∧
    (∀ pc ∈ [4, 127], let i := Instr.br xGuarded 5
      let d := (st (tileD i pc 5 [])).dev
      i.wf = true ∧ i.issue = some xGuarded ∧ (∃ w, tileWord i = some w ∧ Issues d xGuarded w) ∧ TileClean d xGuarded ∧ tilePc d xGuarded = pc ∧
        guardOk d (tc xGuarded) xGuarded.guard = false) := by
  refine ⟨⟨by decide, by decide, (issues_of_issuesB (by decide +kernel)).2, clean_of_cleanB (by decide +kernel), by decide +kernel⟩, ?_⟩
  intro pc h
  simp only [List.mem_cons, List.not_mem_nil, or_false] at h
  obtain rfl | rfl := h
  all_goals exact ⟨by decide, by decide, (issues_of_issuesB (by decide +kernel)).2, clean_of_cleanB (by decide +kernel), by decide +kernel⟩
/-- Tile 0 whose word fails its read and three re-reads. -/
def xBadWord : Issue := ⟨0, 0, g0, 4, []⟩
/-- O7: a bad word. -/
theorem wit_bad_word : let i := Instr.add xBadWord 1 2 3
    let d := (st (tileD i 4 5 [(RIND_STATUS_RUN_STATE, stRunning)])).dev
    i.wf = true ∧ i.issue = some xBadWord ∧ tileWord i = some (d.imem (tc xBadWord) (tilePc d xBadWord)) ∧ (d.logTile 0 0).isSome = true ∧
    d.powered 0 = true ∧ d.flag (BLK_TILE_STATE_FIRING 0 0) = true ∧ d.flag (BLK_TILE_STATE_FAILED 0 0) = false ∧ xBadWord.fetchBad = 4 ∧
    d.rce.dead = false ∧ d.runState = stRunning := by decide +kernel
/-- ADDI rd, g2, −1 with g2 read with wrong parity n times before. -/
def badRegD (rd n : Nat) : Dev :=
  let d := tileD (.addi x0 rd 2 0x3FFF) 4 5 []
  { d with fab := { d.fab with badLocs := pput (tileId 0 0) [(2, n)] d.fab.badLocs } }
/-- O7: a bad register, read for the first and for the third time, written and not written. -/
theorem wit_bad_register : ∀ rd ∈ [2, 3], ∀ n ∈ [0, 2], let i := Instr.addi x0 rd 2 0x3FFF
    let d := (st (badRegD rd n)).dev
    i.wf = true ∧ (∃ w, tileWord i = some w ∧ Issues d x0 w) ∧ guardOk d (tc x0) x0.guard = true ∧ x0.upsets = [] ∧
      d.badLocs (tileId x0.block x0.tile) = [(2, n)] ∧ d.rce.dead = false ∧ tilePc d x0 ≠ 127 := by
  have h : ∀ rd ∈ [2, 3], ∀ n ∈ [0, 2], issuesB (badRegD rd n) x0 (.addi x0 rd 2 0x3FFF) = true ∧ guardOk (badRegD rd n) (tc x0) x0.guard = true ∧
      x0.upsets = [] ∧ (badRegD rd n).badLocs (tileId x0.block x0.tile) = [(2, n)] ∧ (badRegD rd n).rce.dead = false ∧ tilePc (badRegD rd n) x0 ≠ 127 := by
    decide +kernel
  exact fun rd hr n hn => ⟨(issues_of_issuesB (h rd hr n hn).1).1, (issues_of_issuesB (h rd hr n hn).1).2, (h rd hr n hn).2⟩
/-- O8: RECV at the control port with nothing there, with a token of its own or another ESQ, and with FLUSH. -/
theorem wit_recv : let i := Instr.recv x0 15 4 true 3
    (Runs (st (tileD i 4 5 [])).dev x0 i ∧ (tileD i 4 5 []).logTile 0 0 = some 0 ∧ (tileD i 4 5 []).headOf (tileQ 0 0 4) = none) ∧
    (∀ t ∈ [tk 7 .data 70000, tk 8 .mark 1, tk 7 .flush 0], let d := (st (fill (tileD i 4 5 []) [(tileQ 0 0 4, [t])])).dev
      Runs d x0 i ∧ d.logTile 0 0 = some 0 ∧ d.headOf (tileQ 0 0 4) = some t) := by
  refine ⟨⟨runs_of_runsB (by decide +kernel), by decide +kernel⟩, ?_⟩
  have h : ∀ t ∈ [tk 7 .data 70000, tk 8 .mark 1, tk 7 .flush 0], let d := (st (fill (tileD (.recv x0 15 4 true 3) 4 5 []) [(tileQ 0 0 4, [t])])).dev
      runsB d x0 (.recv x0 15 4 true 3) = true ∧ d.logTile 0 0 = some 0 ∧ d.headOf (tileQ 0 0 4) = some t := by decide +kernel
  exact fun t ht => ⟨runs_of_runsB (h t ht).1, (h t ht).2⟩
/-- O9: the sends with their stage empty and full. -/
theorem wit_send : ∀ i ∈ [Instr.send x0 0 3, .send x0 4 3, .sendM x0 3 3, .sendc x0 2], ∀ full ∈ [false, true],
    let d := (st (if full then (tileD i 4 5 []).putStage 0 0 16 (tk 1 .data 1) |>.putStage 0 0 19 (tk 1 .data 1) |>.putStage 0 2 12 (tk 1 .data 1)
      else tileD i 4 5 [])).dev
    Runs d x0 i ∧ d.logTile x0.block x0.tile = some 0 ∧ ∀ port ∈ [0, 3, 4], (d.stageOf (qnum x0.block (tileOut 0 port).1 (tileOut 0 port).2) = none ↔ full = false) := by
  have h : ∀ i ∈ [Instr.send x0 0 3, .send x0 4 3, .sendM x0 3 3, .sendc x0 2], ∀ full ∈ [false, true],
      let d := (st (if full then (tileD i 4 5 []).putStage 0 0 16 (tk 1 .data 1) |>.putStage 0 0 19 (tk 1 .data 1) |>.putStage 0 2 12 (tk 1 .data 1)
        else tileD i 4 5 [])).dev
      runsB d x0 i = true ∧ d.logTile x0.block x0.tile = some 0 ∧ ∀ port ∈ [0, 3, 4], (d.stageOf (qnum x0.block (tileOut 0 port).1 (tileOut 0 port).2) = none ↔ full = false) := by
    decide +kernel
  exact fun i hi full hf => ⟨runs_of_runsB (h i hi full hf).1, (h i hi full hf).2⟩

/-- Tile 0 of block 0 at rest, its descriptor 0 naming ports 0 and 4, which hold these tokens. -/
def restD (q0 q4 : List Token) (l : List (Fld × Nat)) : Dev :=
  fill (mkd (tileBase 0 0 ++ [(BLK_TILE_STATE_FIRING 0 0, 0), (BLK_TILE_FIRE_START 0 0 0, 127), (BLK_TILE_CFG_OUT_USED 0 0, 0x11)] ++ l))
    [(tileQ 0 0 0, q0), (tileQ 0 0 4, q4)]
/-- The hypotheses that the clauses of O10 share. -/
def startsB (d : Dev) (f : Nat) : Bool :=
  decide (d.logTile 0 0 = some 0 ∧ d.powered 0 = true ∧ d.flag (BLK_TILE_CFG_LOADED 0 0) = true ∧ d.flag (BLK_TILE_STATE_FAILED 0 0) = false ∧
    d.flag (BLK_TILE_STATE_FIRING 0 0) = false ∧ d.flag (BLK_TILE_STATE_FLUSHING 0 0) = false ∧
    (∀ k ∈ d.tileInputs ⟨0, 0⟩, ∀ x ∈ d.headOf (tileQ 0 0 k), x.kind ≠ .flush) ∧ (d.fget (BLK_TILE_CFG_DESC_VALID 0 0)).testBit f = true)
/-- Descriptor g has the turn. -/
def turnB (d : Dev) (g : Nat) (gap : Option Nat) : Bool :=
  decide (d.flag (BLK_TILE_CFG_READY_ORDER 0 0) = false ∧ d.fget (BLK_TILE_STATE_NEXT_DESC 0 0) = g ∨
    d.flag (BLK_TILE_CFG_READY_ORDER 0 0) = true ∧ gap = none ∧ (d.readyNow ⟨0, 0⟩ 0).head? = some g)
/-- O10: a port empty; another descriptor's turn; both present, of one ESQ and of two; in ready order. -/
theorem wit_firing_start : (∀ l ∈ [[], [(BLK_TILE_CFG_READY_ORDER 0 0, 1)]],
      startsB (restD [tk 7 .data 1] [tk 7 .data 1] l) 1 = true ∧ turnB (restD [tk 7 .data 1] [tk 7 .data 1] l) 0 none = true) ∧
    (startsB (restD [tk 7 .data 1] [] []) 0 = true ∧
      ∃ k < 5, ((restD [tk 7 .data 1] [] []).descMask ⟨0, 0⟩ 0).testBit k = true ∧ (restD [tk 7 .data 1] [] []).headOf (tileQ 0 0 k) = none) ∧
    (∀ q ∈ [7, 4095], ∀ l ∈ [[], [(BLK_TILE_CFG_READY_ORDER 0 0, 1)]], startsB (restD [tk 7 .data 1] [tk q .data 1] l) 0 = true ∧
      turnB (restD [tk 7 .data 1] [tk q .data 1] l) 0 none = true ∧ ∀ k < 5, ((restD [tk 7 .data 1] [tk q .data 1] l).descMask ⟨0, 0⟩ 0).testBit k = true →
        (restD [tk 7 .data 1] [tk q .data 1] l).headOf (tileQ 0 0 k) ≠ none) := by decide +kernel
/-- O11: FLUSH at every used input with the outputs empty, and FLUSH at one input behind which another has none. -/
theorem wit_tile_flush :
    (let d := (st (restD [tk 7 .flush 0] [tk 8 .data 1] [])).dev
      let qs := (d.tileInputs ⟨0, 0⟩).map (tileQ 0 0)
      d.logTile 0 0 = some 0 ∧ d.powered 0 = true ∧ d.flag (BLK_TILE_STATE_FIRING 0 0) = false ∧ (∀ q ∈ qs, d.queue q = [] → d.spill q = []) ∧
        (∃ q ∈ qs, ∃ x ∈ d.headOf q, x.kind = .flush) ∧ d.flag (BLK_TILE_STATE_FAILED 0 0) = false ∧ (∃ q ∈ qs, ∀ x ∈ d.tokens q, x.kind ≠ .flush)) ∧
    (let d := (st (restD [tk 7 .flush 0] [tk 7 .flush 0] [(BLK_TILE_FIRE_IN_MASK 0 0 1, 0)])).dev
      let qs := (d.tileInputs ⟨0, 0⟩).map (tileQ 0 0)
      let outs := (onesOf 5 (d.fget (BLK_TILE_CFG_OUT_USED 0 0))).map (fun k => qnum 0 (tileOut 0 k).1 (tileOut 0 k).2)
      d.logTile 0 0 = some 0 ∧ d.powered 0 = true ∧ d.flag (BLK_TILE_STATE_FIRING 0 0) = false ∧ (∀ q ∈ qs, d.queue q = [] → d.spill q = []) ∧
        (∀ q ∈ qs, ∃ x ∈ d.headOf q, x.kind = .flush) ∧ outs.length = 2 ∧ ∀ o ∈ outs, d.stageOf o = none) := by decide +kernel

/-! ## Witnesses: steering units, the fabric, the rind -/

/-- O12: STEER to a free output, with equal and with differing ESQs, and to a full output with DISCARD. -/
theorem wit_steer : ∀ q ∈ [1, 2], ∀ dis ∈ [0, 1], let d := (st ((suD 1 0 0 1 q 1).fset (BLK_SU_CFG_DISCARD1 3 1) dis)).dev;
    d.powered 3 = true ∧ d.fget (BLK_SU_CFG_MODE 3 1) = 1 ∧ Ready d (suCondQ 3 1) (tk 1 .cond 0) ∧ Ready d (d.suQ 3 1 0) (tk q .data 5) ∧
      suRoute d 3 1 (tk 1 .cond 0) [tk q .data 5] = 1 ∧
      (d.suDrops 3 1 1 = true ∨ d.stageOf (qnum 3 (d.suNet 3 1) (suOut (d.suNet 3 1) 1 1)) = none) := by
  unfold Ready; decide +kernel
/-- O12: MERGE, taking both and taking the selected one, on each network. -/
theorem wit_merge : ∀ net ∈ [0, 1], (let d := (st (suD 2 net 0 1 1 1)).dev;
      d.powered 3 = true ∧ d.fget (BLK_SU_CFG_MODE 3 1) = 2 ∧ d.flag (BLK_SU_CFG_TAKE 3 1) = false ∧ Ready d (suCondQ 3 1) (tk 1 .cond 0) ∧
        Ready d (d.suQ 3 1 0) (tk 1 .data 5) ∧ Ready d (d.suQ 3 1 1) (tk 1 .mark 6) ∧
        d.stageOf (qnum 3 (d.suNet 3 1) (suOut (d.suNet 3 1) 1 0)) = none) ∧
    (let d := (st (suD 2 net 1 1 1 1)).dev;
      d.powered 3 = true ∧ d.fget (BLK_SU_CFG_MODE 3 1) = 2 ∧ d.flag (BLK_SU_CFG_TAKE 3 1) = true ∧ d.suFlushing 3 1 = false ∧
        Ready d (suCondQ 3 1) (tk 1 .cond 0) ∧ Ready d (d.suQ 3 1 (d.suChoice 3 1 (tk 1 .cond 0))) (tk 1 .mark 6) ∧
        d.stageOf (qnum 3 (d.suNet 3 1) (suOut (d.suNet 3 1) 1 0)) = none) := by
  unfold Ready; decide +kernel
/-- O12: JOIN. -/
theorem wit_join : let d := (st (suD 3 0 0 1 1 2)).dev;
    d.powered 3 = true ∧ d.fget (BLK_SU_CFG_MODE 3 1) = 3 ∧ Ready d (d.suQ 3 1 0) (tk 1 .data 5) ∧ Ready d (d.suQ 3 1 1) (tk 2 .mark 6) ∧
      ∀ j < 2, d.stageOf (qnum 3 (d.suNet 3 1) (suOut (d.suNet 3 1) 1 j)) = none := by
  unfold Ready; decide +kernel
/-- O12: FLUSH at every used input of an SU, and with tokens at one input but no FLUSH. -/
theorem wit_su_flush : (let d := (st (suF 0)).dev;
      let qs := d.suInputs 3 1
      d.powered 3 = true ∧ (∀ q ∈ qs, NoGap d q) ∧ (∀ q ∈ qs, ∃ t ∈ d.headOf q, t.kind = .flush) ∧
        ∀ o ∈ ((d.suOutputs 3 1).filter (fun j => !d.suDrops 3 1 j)).map (fun j => qnum 3 (d.suNet 3 1) (suOut (d.suNet 3 1) 1 j)), d.stageOf o = none) ∧
    (let d := (st (fill (suF 1) [(suCondQ 3 1, [tk 1 .data 3])])).dev;
      let qs := d.suInputs 3 1
      d.powered 3 = true ∧ (∀ q ∈ qs, NoGap d q) ∧ (∃ q ∈ qs, ∃ t ∈ d.headOf q, t.kind = .flush) ∧ ∃ q ∈ qs, ∀ x ∈ d.tokens q, x.kind ≠ .flush) := by
  unfold NoGap; decide +kernel
/-- O12: a failed tile with FLUSH, and with DATA of an ESQ reported and not reported. -/
theorem wit_failed_unit : ∀ k ∈ [TokKind.flush, .data], ∀ r ∈ [[], [300]], let d := (st (failedD k r)).dev;
    tileId 3 2 ∈ d.fab.failed ∧ (d.unitIns (tileId 3 2))[0]? = some (false, tileQ 3 2 1) ∧ d.headOf (tileQ 3 2 1) = some (tk 300 k 5) ∧
      pgetD d.fab.reported (tileId 3 2) [] = r := by decide +kernel

/-- `Offered`, as a test. -/
def offeredB (d : Dev) (b net i : Nat) (o : Offer) (t : Token) : Bool :=
  (Instr.tokenTransfer b net i o).wf && d.powered b &&
    d.flag (BLK_SW_VALID b net i) && d.srcHead b net (d.fget (BLK_SW_SRC b net i)) == some t &&
    !(d.takenBy b net (d.fget (BLK_SW_SRC b net i))).contains i && d.sinkRoom b net i && d.muxGrants b net i o
theorem offered_of_offeredB {d : Dev} {b net i : Nat} {o : Offer} {t : Token} (h : offeredB d b net i o t = true) : Offered d b net i o t := by
  simp only [offeredB, Bool.and_eq_true, beq_iff_eq, Bool.not_eq_true', List.contains_eq_mem, decide_eq_false_iff_not] at h
  obtain ⟨⟨⟨⟨⟨⟨h1, h2⟩, h3⟩, h4⟩, h5⟩, h6⟩, h7⟩ := h
  exact ⟨h1, h2, h3, h4, h5, h6, h7⟩
/-- O13: a token with good parity before a tile's sink, and DATA, FLUSH and MARK before an egress point. -/
theorem wit_transfer : Offered stageD 3 0 20 good (tk 7 .data 9) ∧
    ∀ k ∈ [TokKind.data, .flush, .mark], Offered (st (egressD k)).dev 31 1 22 good (tk 7 k 9) ∧ (k = .cond → (1 : Nat) = 2) := by
  have h : offeredB stageD 3 0 20 good (tk 7 .data 9) = true ∧ ∀ k ∈ [TokKind.data, .flush, .mark], offeredB (egressD k) 31 1 22 good (tk 7 k 9) = true ∧ (k = .cond → (1 : Nat) = 2) := by
    decide +kernel
  exact ⟨offered_of_offeredB h.1, fun k hk => ⟨offered_of_offeredB (h.2 k hk).1, (h.2 k hk).2⟩⟩
/-- An offer whose header, or whose payload, arrives with bad parity. -/
def badHdr : Offer := ⟨true, false, none⟩
/-- See `badHdr`. -/
def badPay : Offer := ⟨false, true, none⟩
/-- O13: the third offer refused; the fourth, with two and with three zero-forwards within 2 µs; bad headers, bad payloads. -/
theorem wit_replay : ∀ o ∈ [badHdr, badPay], ∀ n ∈ [2, 3], ∀ m ∈ [1, 2], let d := (st (replayD n m)).dev;
    Offered d 3 0 20 o (tk 7 .data 9) ∧ o.gap = none ∧ (o.hdrBad = true ∨ o.payBad = true) ∧ d.rce.dead = false ∧
      ((pget d.fab.replay (qnum 3 0 20)).getD {}).fails = n ∧ (d.zeroTicks (qnum 3 0 20)).length = m + 1 := by
  have h : ∀ o ∈ [badHdr, badPay], ∀ n ∈ [2, 3], ∀ m ∈ [1, 2], let d := (st (replayD n m)).dev;
      offeredB d 3 0 20 o (tk 7 .data 9) = true ∧ o.gap = none ∧ (o.hdrBad = true ∨ o.payBad = true) ∧ d.rce.dead = false ∧
      ((pget d.fab.replay (qnum 3 0 20)).getD {}).fails = n ∧ (d.zeroTicks (qnum 3 0 20)).length = m + 1 := by decide +kernel
  exact fun o ho n hn m hm => ⟨offered_of_offeredB (h o ho n hn m hm).1, (h o ho n hn m hm).2⟩
/-- O14: two requests of one mesh link 9 and 41 ps apart. -/
theorem wit_tie : ∀ g ∈ [9, 41], Offered (st linkD).dev 3 0 4 ⟨false, false, some g⟩ (tk 7 .data 9) ∧ isMesh 0 4 = true ∧
    2 ≤ ((st linkD).dev.requesting 3 0 4).length := by
  have h : ∀ g ∈ [9, 41], offeredB (st linkD).dev 3 0 4 ⟨false, false, some g⟩ (tk 7 .data 9) = true ∧ isMesh 0 4 = true ∧
      2 ≤ ((st linkD).dev.requesting 3 0 4).length := by decide +kernel
  exact fun g hg => ⟨offered_of_offeredB (h g hg).1, (h g hg).2⟩
/-- O14: a device that answers. -/
theorem wit_ready : (st (readyD [])).dev.ready = true ∧ (Instr.turnMonWindow ((List.range 16).map (fun k => k * 70000))).wf = true := by decide +kernel

/-- The run of `runDev` with an image in which INPUT port 2 sends one token per window. -/
def injecting (d : Dev) : Dev :=
  { d with rce := { d.rce with image := some { (default : Image) with ports := List.replicate 64 { (default : PortEntry) with winCount := 1 } } } }
/-- O15: a boundary that injects, one with inputs closed, one with a full ingress buffer, and frame 4,095 before ESQ 0. -/
theorem wit_boundary :
    let free := st (injecting (aligned 2 [frm 7] [] (runDev [])))
    let closed := st (injecting (runDev [(RIND_CTRL_CLOSE_INPUTS, 1), (RIND_FRAME_NUMBER_FRAME_NUMBER, 4095)]))
    let full := st (let d := injecting (runDev []); { d with fab := { d.fab with ingress := pput 2 (List.replicate 512 (tk 1 .data 1)) [] } })
    (∀ s ∈ [free, closed, full], let d := s.dev;
      d.flag RIND_STATUS_SEQ_RUNNING = true ∧ d.rind.lost = false ∧ d.tu.openings = [] ∧ d.tu.acts = [] ∧ d.runState = stRunning ∧
        d.fget RIND_FRAME_NUMBER_FRAME_NUMBER + 1 < 2 ^ 63) ∧
    (let at_ (s : State) := Dev.takePorts (s.dev.advTo (s.dev.boundaryTick (s.dev.fget RIND_FRAME_NUMBER_FRAME_NUMBER + 1))).inputPorts
        (s.dev.advTo (s.dev.boundaryTick (s.dev.fget RIND_FRAME_NUMBER_FRAME_NUMBER + 1)));
      (at_ free).2.inputsClosed = false ∧ (at_ free).2.canInject = true ∧ (∃ z ∈ (at_ free).1, (free.dev.injection z.1).2 ≠ 0) ∧
        (at_ closed).2.inputsClosed = true ∧ (at_ full).2.inputsClosed = false ∧ (at_ full).2.canInject = false) := by decide +kernel
/-- O16: one and two frames eligible when a third comes; a frame of the number expected, 65,535; a port that contributes nothing;
a look-back window that is due. -/
theorem wit_eligible : (∀ l ∈ [[frm 1], [frm 0, frm 1]], pgetD (st (aligned 2 l [frm 2, frm 3] (runDev []))).dev.rind.waiting 2 [] = [frm 2, frm 3] ∧
      pgetD (st (aligned 2 l [frm 2, frm 3] (runDev []))).dev.rind.align 2 [] = l) ∧
    (let d := (st (aligned 2 [frm 65535] [] (runDev [(PL_SEQ_SEQ_VALID 2, 1), (PL_SEQ_NEXT 2, 65535)]))).dev;
      d.pstate 2 = psActive ∧ d.flag (PL_STATUS_PAYLOAD_TOO_LONG 2) = false ∧ (frm 65535).seq < 65536 ∧ pgetD d.rind.align 2 [] = [frm 65535] ∧
        d.flag (PL_SEQ_SEQ_VALID 2) = true ∧ d.fget (PL_SEQ_NEXT 2) = (frm 65535).seq) ∧
    (let d := (st (runDev [(PL_SEQ_SEQ_VALID 2, 1)])).dev;
      d.pstate 2 = psActive ∧ d.flag (PL_STATUS_PAYLOAD_TOO_LONG 2) = false ∧ pgetD d.rind.align 2 [] = [] ∧ d.flag (PL_SEQ_SEQ_VALID 2) = true) ∧
    ((let d := runDev [(BLK_MU_AGU_LB_COUNT 3 1, 2), (BLK_MU_AGU_LB_PORT 3 1, 2)]
      (st { d with fab := { d.fab with lbDue := [(5, 1, 1, 0), (7, 3, 9, 0)] } }).dev.fab.lbDue.find? (fun x => x.1 == 2 * 3 + 1)) = some (2 * 3 + 1, 3, 9, 0)) := by
  decide +kernel
/-- The run of `runDev`, frame 4 having this stamp, under a policy of stream 0. -/
def released (policy : Nat) (x : Stamp) : Dev := stamped x (runDev [(RIND_STREAM_CFG_POLICY 0, policy)])
/-- O17: a deadline of each kind of record, of none, and with an EPOCH_MARK due; a horizon. -/
theorem wit_deadline : (∀ z ∈ [(0, { st4 with injected := false }, some (3, 0, 0)), (0, { st4 with voided := true }, some (2, 0, 0)),
      (0, { st4 with dups := 1 }, some (2, 0, 0)), (0, { st4 with results := [(0, 0xABCDEF#512)] }, some (0, 0xCDEF, 0xAB)), (2, st4, some (1, 0, 0)),
      (1, { st4 with mark := some (3, 4) }, none)], let d := (st (released z.1 z.2.1)).dev;
      d.flag (RIND_STREAM_CFG_ENABLED 0) = true ∧ d.rind.stopped = false ∧ (d.stamp 4).valid = true ∧ bitAt (d.stamp 4).released 0 = false ∧
        bitAt (d.stamp 4).passed 0 = false ∧ deadlineKind d 0 (d.stamp 4) = z.2.2) ∧
    (let d := (st (released 0 { st4 with passed := 1 })).dev;
      let x := d.stamp 4
      d.flag (RIND_STREAM_CFG_ENABLED 0) = true ∧ d.rind.stopped = false ∧ x.valid = true ∧ x.injected = true ∧ x.voided = false ∧ bitAt x.seen 0 = false ∧
        bitAt x.passed 0 = true ∧ bitAt x.released 0 = false ∧ x.mark = none ∧ d.runState = stRunning) := by decide +kernel
/-- O18: a result without a frame; one at slack 0; one a tick late under two policies; a second one; a notice of a frame past
its deadline, and of one released; a tie report. -/
theorem wit_results : (∀ z ∈ [(0, 5009, {}), (0, 5284, st4), (0, 5285, { st4 with passed := 1 }), (1, 5285, { st4 with passed := 1 }),
      (0, 5009, { st4 with results := [(0, 5#512)] })], let d := (st (guarded z.2.1 (released z.1 z.2.2))).dev;
      d.rind.guard.find? (fun x => x.egress == 1) = some ⟨1, 4, 0x1234567#512, z.2.1⟩ ∧ d.rind.stopped = false ∧
        d.enabledStreams.find? (fun j => d.fget (RIND_STREAM_CFG_EGRESS_POINT j) == 1) = some 0 ∧ d.tick ≤ z.2.1 + 16 ∧
        d.stamp 4 = z.2.2 ∧ d.fget (RIND_STREAM_LAT_L_TICKS 0) = 300) ∧
    (∀ z ∈ [{ st4 with passed := 1 }, { st4 with released := 0x80 }], let d := (st (laned (released 0 z))).dev;
      d.fab.lane[1]? = some ⟨4, 1, 2, 2, 1, 1⟩ ∧ d.stamp 4 = z ∧ d.flag (RIND_STREAM_CFG_ENABLED 0) = true ∧ d.rind.stopped = false) ∧
    (st (laned (released 0 st4))).dev.fab.ties[1]? = some 4 := by decide +kernel
/-- O19: a frame not released when the time base is lost. -/
theorem wit_holdover : let d := (st (let d := released 0 st4; { d with rind := { d.rind with lost := true } })).dev;
    d.rind.lost = true ∧ d.rind.stopped = false ∧ (4, st4) ∈ d.rind.stamps ∧ rising d.rind.stamps = true ∧ st4.valid = true ∧
      0 ∈ d.enabledStreams := by decide +kernel
/-- O20: a device that answers and one that does not; a run state of 2 and one above it. -/
theorem wit_rind_registers : (st (runDev [])).dev.ready = false ∧ (st (runDev [(GLB_STATUS_READY, 1)])).dev.ready = true ∧
    2 < (st (runDev [(GLB_STATUS_READY, 1)])).dev.runState ∧
    (st (runDev [(GLB_STATUS_READY, 1), (RIND_STATUS_RUN_STATE, 2)])).dev.ready = true ∧
    (st (runDev [(GLB_STATUS_READY, 1), (RIND_STATUS_RUN_STATE, 2)])).dev.runState = 2 := by decide +kernel

/-! ## Witnesses: vector units, quantised arithmetic, memory units, the curd -/

/-- A VU in a cycle. -/
def running : VuPos := { running := true, cycle := 4 }
/-- Four chain tokens. -/
def chain4 : List Token := [1, 2, 3, 4].map (fun k => tk 7 .data (0xFFFFFFFE12345678 * k))
/-- The loaded VU of `vuD`, a row and a scale token waiting, and the first n chain tokens. -/
def rowsD (word : Nat) (x : VuPos) (n : Nat) : Dev :=
  fill (vuD word [] x) [(vuQ 3 0 0, [rowTok 7, rowTok 4]), (vuQ 3 0 2, [tk 7 .data 0x2605]), (vuQ 3 0 1, chain4.take n)]
/-- O21: at rest before a cycle. -/
theorem wit_vu_start : let d := (st (vuD 0 [] {})).dev;
    d.vuWorks vu3 = some (3, 0) ∧ d.vuFlushing vu3 3 0 = false ∧ (d.vu vu3).running = false ∧ (d.vu vu3).evidence = [] := by decide +kernel
/-- O21: a new row with and without a scale token (the last step or not, the last repetition or not), and the row held. -/
theorem wit_vu_row : (∀ f ∈ [[(59, 1)], [(59, 1), (58, 1)], [(59, 1), (40, 1), (63, 1)], [(59, 1), (42, 1), (8, 3)]], let d := (st (rowsD (uword f) running 4)).dev;
      let st := d.vuStepAt (vuWindow vu3) (d.vu vu3).step;
      d.vuWorks vu3 = some (3, 0) ∧ d.vuFlushing vu3 3 0 = false ∧ (d.vu vu3).running = true ∧ (d.vu vu3).macDone = false ∧ (d.vu vu3).s1 = none ∧
        (d.vu vu3).rowGot = false ∧ (d.vu vu3).scaleGot = false ∧ row0.length = 64 ∧ st.rowIn = 1 ∧ Ready d (vuQ 3 0 0) (rowTok 7) ∧
        row0 = unpackLanes 8 64 (rowTok 7).payload.toNat ∧ (st.scaleIn = true → Ready d (vuQ 3 0 2) (tk 7 .data 0x2605))) ∧
    (let d := (st (rowsD (uword [(59, 2)]) { running with held := some row0 } 0)).dev;
      let st := d.vuStepAt (vuWindow vu3) (d.vu vu3).step;
      (d.vu vu3).running = true ∧ st.rowIn = 2 ∧ (d.vu vu3).held = some row0 ∧ (d.vu vu3).loopWait = 0) := by
  unfold Ready; decide +kernel
/-- O21: the end of an accumulation, with and without chain tokens. -/
theorem wit_vu_end : ∀ c ∈ [0, 1], let d := (st (rowsD (uword [(59, 1), (51, c)]) { running with macDone := true, accOpen := true } 4)).dev;
    d.vuWorks vu3 = some (3, 0) ∧ d.vuFlushing vu3 3 0 = false ∧ (d.vu vu3).running = true ∧ (d.vu vu3).macDone = true ∧ (d.vu vu3).s1 = none ∧
      (d.vu vu3).s2 = none ∧ (d.vu vu3).chain = [] ∧ chain4.length = 4 ∧ (d.queue (vuQ 3 0 1)).take 4 = chain4 ∧
      ∀ t ∈ chain4, t.kind ≠ .flush := by decide +kernel
/-- The accumulation of `acc2` transformed. -/
def done2 : VuAcc := { acc2 with done := true, out := (List.range 64).map (fun i : Nat => (i : Int) * 900 - 30000) }
/-- O22: a transform without and with an elementwise operand and a rotation; an output of each format. -/
theorem wit_vu_output : (∀ f ∈ [[], [(38, 1)], [(38, 2), (37, 1)]], let d := (st (fill (vuD (uword f) [] { s2 := some acc2 }) [(vuQ 3 0 1, chain4.take 2)])).dev;
      d.vuWorks vu3 = some (3, 0) ∧ (d.vu vu3).s2 = some acc2 ∧ acc2.done = false ∧ acc2.ew = [] ∧ (chain4.take 2).length = 2 ∧
        (d.queue (vuQ 3 0 1)).take 2 = chain4.take 2 ∧ ∀ t ∈ chain4.take 2, t.kind ≠ .flush) ∧
    (∀ f ∈ [1, 2, 3, 4, 5], let d := (st (vuD (uword [(29, f), (27, 1)]) [] { s2 := some done2 })).dev;
      d.vuWorks vu3 = some (3, 0) ∧ (d.vu vu3).send = [] ∧ (d.vu vu3).s2 = some done2 ∧ done2.done = true ∧ done2.zero = false ∧
        (d.vu vu3).running = false ∧ done2.out.length = 64 ∧ done2.lanes.length = 64 ∧ (d.vuStepAt (vuWindow vu3) done2.step).outFmt = f ∧
        d.stageOf (qnum 3 0 90) = none ∧ d.stageOf (qnum 3 1 8) = none) := by decide +kernel
/-- O22: FLUSH at every used input of a VU at rest; and tokens at an input without FLUSH. -/
theorem wit_vu_flush : let f := tk 5 .flush 0;
    ∀ l ∈ [[f], [tk 7 .data 1]], let d := (st (fill (vuD 0 [] {}) [(vuQ 3 0 0, [f]), (vuQ 3 0 1, l), (vuQ 3 0 2, [f, tk 7 .data 1])])).dev;
      d.vuWorks vu3 = some (3, 0) ∧ (∀ q ∈ d.vuUsed vu3 3 0, NoGap d q) ∧ (∃ q ∈ d.vuUsed vu3 3 0, ∃ t ∈ d.headOf q, t.kind = .flush) ∧
        (d.vu vu3).running = false ∧ (d.vu vu3).s1 = none ∧ (d.vu vu3).s2 = none ∧ (d.vu vu3).send = [] ∧ (d.vu vu3).evidence = [] ∧
        (l = [f] → (∀ q ∈ d.vuUsed vu3 3 0, ∃ t ∈ d.headOf q, t.kind = .flush) ∧ d.stageOf (qnum 3 1 8) = none ∧ d.stageOf (qnum 3 0 90) = none) ∧
        (l ≠ [f] → ∃ q ∈ d.vuUsed vu3 3 0, ∀ t ∈ d.tokens q, t.kind ≠ .flush) := by
  unfold NoGap; decide +kernel
/-- O23: codes without a flag, saturated and flat; slots at and below the ends of the scale's range and of DOWN_AFTER. -/
theorem wit_quantised : (quantCode false 0 128 (40 * 1024) 1000).2 = fNone ∧ (quantCode false 0 255 (63 * 1024) 32768).2 = fSat ∧
    (quantCode false 0 128 0 0).2 = fFlat ∧
    (let d (e2 mx mn run : Nat) := mkd [(BLK_VU_S2_S2 5 3, e2 * 1024 + 9), (BLK_VU_S2_LIM_E2_MAX 5 3, mx), (BLK_VU_S2_LIM_E2_MIN 5 3, mn),
        (BLK_VU_S2_LIM_FLOOR_RUN 5 3, run), (BLK_VU_S2_LIM_DOWN_AFTER 5 3, 4)];
      (s2Exp ((d 40 41 39 0).fget (BLK_VU_S2_S2 5 3)) < (d 40 41 39 0).fget (BLK_VU_S2_LIM_E2_MAX 5 3)) ∧
      ((d 40 40 39 0).fget (BLK_VU_S2_LIM_E2_MAX 5 3) ≤ s2Exp ((d 40 40 39 0).fget (BLK_VU_S2_S2 5 3))) ∧
      ((d 40 40 39 3).fget (BLK_VU_S2_LIM_FLOOR_RUN 5 3) < (d 40 40 39 3).fget (BLK_VU_S2_LIM_DOWN_AFTER 5 3)) ∧
      ((d 40 40 39 4).fget (BLK_VU_S2_LIM_DOWN_AFTER 5 3) ≤ (d 40 40 39 4).fget (BLK_VU_S2_LIM_FLOOR_RUN 5 3)) ∧
      ((d 40 40 39 4).fget (BLK_VU_S2_LIM_E2_MIN 5 3) < s2Exp ((d 40 40 39 4).fget (BLK_VU_S2_S2 5 3)))) := by decide +kernel

/-- A trigger or data token of index 9. -/
def t9 : Token := tk 7 .data 9
/-- The hypotheses that the clauses of O24 share, for AGU A of block 3. -/
def bankB (d : Dev) : Bool :=
  d.muWorks 3 && !d.muFlushing 3 && (d.badLocs (muId 3)).isEmpty && decide (0 < d.fget (BLK_MU_AGU_CFG_WRAP 3 0))
/-- O24: reads on a trigger and in hand, of 4 and of 64 bytes, the last unit and not; writes; windows. -/
theorem wit_agu : ∀ net ∈ [0, 1], ∀ cnt ∈ [0, 2], ∀ adv ∈ [0, 1],
    let l := [(BLK_MU_AGU_CFG_COUNT 3 0, cnt), (BLK_MU_AGU_CFG_ADVANCE 3 0, adv), (BLK_MU_AGU_CFG_INDEXED 3 0, 1)];
    let hand : AguPos := { op := 1, esq := 8, index := 4, elem := 2 };
    (∀ g ∈ [{}, hand], ∀ mode ∈ [1, 3], let d := (st (muD mode net l g [t9])).dev;
      bankB d = true ∧ d.fget (BLK_MU_AGU_CFG_MODE 3 0) = mode ∧ d.aguFree 3 0 = true ∧ d.agu 3 0 = g ∧ Ready d (d.aguSink 3 0) t9) ∧
    (∀ g ∈ [{}, { group := 2 }], let d := (st (muD 2 net l g [t9])).dev;
      bankB d = true ∧ d.fget (BLK_MU_AGU_CFG_MODE 3 0) = 2 ∧ d.agu 3 0 = g ∧ Ready d (d.aguSink 3 0) t9) := by
  unfold Ready; decide +kernel
/-- A request of operation `op` at the highest index. -/
def reqTok (op : Nat) : Token := tk 7 .data (op * 2 ^ 30 + 8191 * 2 ^ 17 + 131071)
/-- O24: the four requests, a write with its data token. -/
theorem wit_request : ∀ op ∈ [0, 1, 2, 3], let d := (st (muD 4 0 [] {} ([reqTok op] ++ if op = 1 then [t9] else []))).dev;
    bankB d = true ∧ d.fget (BLK_MU_AGU_CFG_MODE 3 0) = 4 ∧ (d.agu 3 0).op = 0 ∧ Ready d (d.aguSink 3 0) (reqTok op) ∧
      (reqTok op).payload.toNat / 2 ^ 30 % 4 = op ∧ d.aguFree 3 0 = true ∧ NoGap d (d.aguSink 3 0) ∧
      (op = 1 → (d.tokens (d.aguSink 3 0)).tail.head? = some t9 ∧ t9.kind ≠ .flush ∧ t9.esq = (reqTok op).esq) ∧
      (op = 3 → (d.tokens (d.aguSink 3 0)).tail.head? = none) := by
  unfold Ready NoGap; decide +kernel
/-- A DQ request of this operation, tag and offset. -/
def dqTok (op tag off : Nat) : Token := tk 7 .data (op * 2 ^ 28 + tag * 2 ^ 24 + off)
/-- The MU of `muD` in DQ at AGU A, with these words fetched, a request, and a data token. -/
def dqD (l : List DqEntry) (t : Token) : Dev :=
  let d := muD 6 0 [] {} [t]
  fill { d with fab := { d.fab with dq := pput 3 l d.fab.dq } } [(qnum 3 1 12, [t9])]
/-- O25: FETCH of the last word inside and the first outside the window, WAIT for a word that is there, POST; the arrival of a
word; FLUSH. -/
theorem wit_dq : (∀ z ∈ [([], dqTok 0 15 16383), ([], dqTok 0 15 16384), ([⟨15, 64, 77#512, true⟩], dqTok 1 15 0), ([], dqTok 2 0 16383)],
      let d := (st (dqD z.1 z.2)).dev;
      d.muWorks 3 = true ∧ d.muFlushing 3 = false ∧ d.aguMode 3 0 = 6 ∧ d.aguMode 3 1 ≠ 6 ∧ (d.agu 3 0).op = 0 ∧ Ready d (qnum 3 0 88) z.2 ∧
        d.aguFree 3 0 = true ∧ d.dq 3 = z.1 ∧ Ready d (qnum 3 1 12) t9 ∧ t9.esq = z.2.esq ∧ d.fget (BLK_MU_DQ_SIZE_MIB 3) * 2 ^ 20 = 64 * 16384) ∧
    (let d := (st (dqD [⟨15, 64, 77#512, false⟩] (dqTok 1 15 0))).dev;
      d.powered 3 = true ∧ d.dq 3 = [⟨15, 64, 77#512, false⟩] ∧ ∀ k < 2, (d.agu 3 k).op ≠ 4) ∧
    (let d := (st (muD 1 1 [] {} [tk 5 .flush 0])).dev;
      let qs := (d.muIns 3).map Prod.snd;
      d.powered 3 = true ∧ d.flag (BLK_MU_STATUS_LOADED 3) = true ∧ d.flag (BLK_MU_STATUS_FAILED 3) = false ∧ qs ≠ [] ∧ (∀ i ∈ d.muIns 3, i.1 = false) ∧
        (∀ k < 2, (d.agu 3 k).op = 0) ∧ (∀ q ∈ qs, ∃ t ∈ d.headOf q, t.kind = .flush) ∧
        ∀ o ∈ ((List.range 2).filter (fun k => [1, 3, 4, 5, 6].contains (d.aguMode 3 k))).map (fun k => qnum 3 (d.aguSource 3 k).1 (d.aguSource 3 k).2),
          d.stageOf o = none) := by
  unfold Ready; decide +kernel

/-- O26: a record's capture with 1,023 and with 1,024 in the queue. -/
theorem wit_curd_record : ∀ n ∈ [1023, 1024], (st (curdD [cap0] (List.replicate n cap0) [])).dev.curd.coming = [cap0] ∧
    (st (curdD [cap0] (List.replicate n cap0) [])).dev.curd.queue.length = n := by decide +kernel
/-- O26: a slot of the first and of the last port of a frame, in time and about to be overwritten. -/
theorem wit_curd_slot : ∀ c ∈ [0, 1], ∀ dep ∈ [8, 2], let x := { cap0 with cur := c };
    let d := (st (curdD [] [x] [(VAT_RING_DEPTH_FRAMES 5, dep), (VAT_RING_DEPTH_FRAMES 2, dep)])).dev;
    let m := x.first + x.cur / x.ports.length;
    let p := x.ports.getD (x.cur % x.ports.length) 0;
    d.curd.queue = [x] ∧ x.started = true ∧ x.cur < x.slots ∧ x.partBad = false ∧ (d.stamp (m % 4096)).valid = true ∧ (d.stamp (m % 4096)).frame = m ∧
      m ≤ d.fget RIND_FRAME_NUMBER_FRAME_NUMBER ∧ d.staged x (64 * d.fget (VAT_RING_SLOT_WORDS p)) = true ∧ (d.slotLate m p = decide (dep = 2)) := by
  decide +kernel
/-- O26: a capture with every slot read, with and without a store copy. -/
theorem wit_curd_complete : ∀ b ∈ [true, false], let x := { cap0 with cur := 6, store := b, data := [[1, 2, 3]] };
    let d := (st (curdD [] [x] [])).dev;
    let out := d.capHeader x ++ x.data.flatten ++ x.bitmap;
    d.curd.queue = [x] ∧ x.started = true ∧ x.slots ≤ x.cur ∧ x.last ≤ d.fget RIND_FRAME_NUMBER_FRAME_NUMBER ∧ x.ended = false ∧ x.dests = [] ∧
      64 * d.fget VAT_CURD_PTR_WR + out.length < 64 * d.storeUnits ∧ ∀ v ∈ out, v < 256 := by decide +kernel
/-- O27: a device that does not answer; one that does, without and with a curd region, and with the engine enabled; RD within
and beyond WR; a domain that is ON and one that is not. -/
theorem wit_curd_registers : (st (curdD [] [] [(GLB_STATUS_READY, 0)])).dev.ready = false ∧
    (let d := (st (curdD [] [] [(VAT_CURD_PTR_WR, 10), (VAT_CURD_PTR_RD, 4)])).dev;
      let n := 64 * d.fget VAT_CURD_AREA_SIZE_4K;
      d.ready = true ∧ d.storeOk = false ∧ d.flag VAT_CURD_CTRL_ENABLE = false ∧ n = 64 ∧ (10 + n - 4) % n ≤ (d.fget VAT_CURD_PTR_WR + n - 4) % n ∧
        (d.fget VAT_CURD_PTR_WR + n - 4) % n < (11 + n - 4) % n) ∧
    (let d := (st (curdD [] [] [(LPX_REGION_KIND 3, 2), (LPX_REGION_BASE_MIB 3, 0), (LPX_REGION_SIZE_MIB 3, 1), (VAT_CURD_CTRL_ENABLE, 1)])).dev;
      d.ready = true ∧ d.storeOk = true ∧ d.flag VAT_CURD_CTRL_ENABLE = true) ∧
    (∀ m ∈ [0, 15, 16, 19], (st (curdD [] [] [(PWR_DOMAIN_STAT_STATE m, 2)])).dev.dom m = dsOn ∧ (st (curdD [] [] [(PWR_DOMAIN_STAT_STATE m, 2)])).dev.arming = false ∧
      (st (curdD [] [] [(PWR_DOMAIN_STAT_STATE m, 1)])).dev.dom m ≠ dsOn) := by decide +kernel

/-! ## Witnesses: the run-control engine -/

/-- Three descriptors: a NOP, a NOP that waits for it, and a START that waits for both. -/
def three : List (List Nat) := [desc 12 0 [] [], desc 12 1 [0] [], desc 4 0 [0, 1] [1, 2, 3]]
/-- A device that answers, RCE_SUBMIT_ADDR naming these descriptors at 0x4000, n graphs in flight. -/
def submitD (a n : Nat) (ds : List (List Nat)) : Dev :=
  let d := (readyD [(RCE_SUBMIT_ADDR_ADDR, a)]).poke 0x4000 ds.flatten
  { d with rce := { d.rce with graphs := (List.range n).map (fun k => (k, ⟨0x8000, 1, 1, false, [0], k⟩)) } }
/-- O28: a device that does not answer; 0 and 4,097 tasks; a table past the end of LPDDR5X; 15 graphs in flight; descriptors that
are not well formed; 1 and 3 tasks with the first and the last slot free. -/
theorem wit_submit : (st (mkd [])).dev.ready = false ∧ (st (submitD 0x100 0 three)).dev.ready = true ∧
    lpSize < 64 * (st (submitD 0x4FFFFFFF 0 three)).dev.fget RCE_SUBMIT_ADDR_ADDR + 64 * 3 ∧ 64 * 0x100 + 64 * 4096 ≤ lpSize ∧
    (∀ k < 15, (st (submitD 0x100 15 three)).dev.graph k ≠ none) ∧
    (st (submitD 0x100 14 three)).dev.graph 14 = none ∧ (∀ k < 14, (st (submitD 0x100 14 three)).dev.graph k ≠ none) ∧
    descriptorOk ((st (submitD 0x100 0 [desc 13 0 [] []])).dev.bytes 0x4000 64) 0 = false ∧
    (∀ k < 3, descriptorOk ((st (submitD 0x100 0 three)).dev.bytes (0x4000 + 64 * k) 64) k = true) := by decide +kernel
/-- O28: predecessors not final; failed; done; done but for one that failed, under CONTINUE; a task that may not run yet. -/
theorem wit_dispatch : (let d := (st (graphD (readyD []) 3 [1, 0, 0] three)).dev;
      d.rce.dead = false ∧ d.taskStatus 3 1 = 0 ∧ ∃ k ∈ d.taskPreds 3 1, d.taskStatus 3 k < 2) ∧
    (let d := (st (graphD (readyD []) 3 [2, 3, 0] three)).dev;
      d.taskStatus 3 2 = 0 ∧ (∀ k ∈ d.taskPreds 3 2, 2 ≤ d.taskStatus 3 k) ∧ d.taskContinues 3 2 = false ∧ ∃ k ∈ d.taskPreds 3 2, d.taskStatus 3 k ≠ 2) ∧
    (let d := (st (graphD (readyD []) 3 [3, 0, 0] three)).dev;
      d.taskStatus 3 1 = 0 ∧ (∀ k ∈ d.taskPreds 3 1, 2 ≤ d.taskStatus 3 k) ∧ d.taskContinues 3 1 = true ∧ d.mayRun 3 1 = true) ∧
    (let d := (st (graphD (readyD []) 15 [0, 2, 2] three)).dev;
      d.taskStatus 15 0 = 0 ∧ (∀ k ∈ d.taskPreds 15 0, d.taskStatus 15 k = 2) ∧ d.mayRun 15 0 = true) ∧
    (let d := (st (let d := graphD (readyD []) 3 [2, 2, 0] three
        let y : Graph := ⟨0x4080, 1, 5, false, [1], 1⟩
        { d with rce := { d.rce with graphs := d.rce.graphs ++ [(5, y), (6, y), (7, y), (8, y)] } })).dev;
      d.taskStatus 3 2 = 0 ∧ (∀ k ∈ d.taskPreds 3 2, d.taskStatus 3 k = 2) ∧ d.mayRun 3 2 = false) := by decide +kernel
/-- O28: a no-operation; a graph with one task running, aborted. -/
theorem wit_nop_abort : (st (graphD (readyD []) 3 [1, 0, 0] three)).dev.taskBegins 3 0 12 = true ∧
    (let d := (st (graphD (readyD []) 3 [1, 0, 0] three)).dev;
      d.ready = true ∧ (d.graph 3).any (fun g => g.status.length == g.tasks && g.status.contains 1) = true) := by decide +kernel

/-- What `loadCheck` answers is an accepted image. -/
def accepted (x : Checked) : Bool := match x with
  | .good .. => true
  | _ => false
/-- O29: a LOAD that is accepted, and each run task in a state it may not run in. -/
theorem wit_load : (let d := (st loadD).dev;
      d.taskBegins 3 0 1 = true ∧ d.runState = stIdle ∧ d.taskArg 3 0 0 8 + d.taskArg 3 0 8 8 ≤ lpSize ∧
        accepted (d.loadCheck (d.bytes (d.taskArg 3 0 0 8) (d.taskArg 3 0 8 8)) (d.taskArg 3 0 0x10 2)) = true) ∧
    (∀ z ∈ [(1, stLoaded), (2, stIdle), (2, stArmed), (3, stIdle), (4, stLoaded), (5, stLoaded), (5, stDrained)],
      (st (runTask z.1 z.2 [] [])).dev.taskBegins 3 0 z.1 = true ∧ (st (runTask z.1 z.2 [] [])).dev.runState = z.2) := by decide +kernel
/-- O29: UNLOAD of a loaded and of a drained run. -/
theorem wit_unload : ∀ s ∈ [stLoaded, stDrained], let d := (st ((loadedD (runTask 2 s [] [])).setRun s)).dev;
    d.taskBegins 3 0 2 = true ∧ d.runState = s := by decide +kernel
/-- An ARM under RUN_CTX 9, the dies of the vat ON, and awake or not. -/
def armD (s awake : Nat) (l : List (Fld × Nat)) : Dev :=
  (loadedD (runTask 3 s (leBytes 4 9) ([(PL_CFG_ROLE 2, 1), (PL_CFG_PAYLOAD_BYTES 2, 100), (RIND_FRAME_PERIOD_PERIOD_TICKS, 1000), (PL_STATUS_STATE 2, psActive),
    (PL_STATUS_VERSION 2, 2), (PWR_DOMAIN_STAT_STATE 16, 2), (PWR_DOMAIN_STAT_STATE 17, 2), (PWR_DOMAIN_STAT_STATE 18, 2), (PWR_DOMAIN_STAT_STATE 19, 2),
    (VAT_STATUS_DIE_AWAKE, awake)] ++ l))).setRun s
/-- O29: ARM under HOT_LOCK; with memories awake and not. -/
theorem wit_arm : (st (armD stLoaded 15 [(PWR_STATUS_HOT_LOCK, 1)])).dev.flag PWR_STATUS_HOT_LOCK = true ∧
    (∀ s ∈ [stLoaded, stDrained], ∀ z ∈ [(15, true), (0, false)], let d := (st (armD s z.1 [])).dev;
      d.taskBegins 3 0 3 = true ∧ d.runState = s ∧ d.flag PWR_STATUS_HOT_LOCK = false ∧ d.tableOk (d.taskArg 3 0 8 8) = true ∧
        d.tableOk (d.taskArg 3 0 0x10 8) = true ∧ d.rce.image = some smallLoaded ∧ d.armErr smallLoaded = none ∧ d.rce.waits = [] ∧
        (let w := (d.await 3 0 .awake).domainsFollow;
          w.allAwake = z.2 ∧ (z.2 = true → (w.armSteps smallLoaded (w.taskArg 3 0 0 4) (w.taskArg 3 0 8 8) (w.taskArg 3 0 0x10 8)).2 = none))) := by
  decide +kernel
/-- A START at an anchor ahead, with REL entries and others in the schedule. -/
def startD (anchor : Nat) : Dev :=
  let d := runTask 4 stArmed (leBytes 8 anchor ++ leBytes 2 3 ++ [1]) [(TU_STATUS_TIME_VALID, 1), (TU_STATUS_EPOCH, 3)]
  { d with tu := { d.tu with sched := [(3, { rel := true, enable := true, off := 50 }), (4, { rel := true, off := 60 }), (5, { enable := true, time := 9 })] } }
/-- O29: START. -/
theorem wit_start : let d := (st (startD 1000)).dev;
    d.taskBegins 3 0 4 = true ∧ d.runState = stArmed ∧ d.taskArg 3 0 10 1 ≤ 1 ∧ d.flag TU_STATUS_TIME_VALID = true ∧ epochDiff (d.taskArg 3 0 8 2) d.epoch = 0 ∧
      stampDiff (d.ns % 2 ^ 48) (d.taskArg 3 0 0 8 % 2 ^ 48) ≤ 0 ∧ (d.sch 3).rel = true ∧ (d.sch 3).enable = true ∧
      stampDiff (d.ns % 2 ^ 48) ((d.taskArg 3 0 0 8 + (d.sch 3).off) % 2 ^ 48) ≤ 0 ∧ (d.sch 4).enable = false ∧ (d.sch 5).rel = false ∧
      rising d.tu.sched = true := by decide +kernel
/-- O29: STOP of a run, of one in a break, and of one that is armed. -/
theorem wit_stop : ∀ s ∈ [stArmed, stRunning, stBreak], (st (runTask 5 s [] [])).dev.taskBegins 3 0 5 = true ∧
    (st (runTask 5 s [] [])).dev.runState = s ∧ (st (runTask 5 s [] [])).dev.rce.waits = [] := by decide +kernel

/-- O30: SEGMENT_BREAK in a run, in a break and in a reached break; SEGMENT_OPEN with and without a weight store that is unset; each
in a state it may not run in. -/
theorem wit_segments : (∀ s ∈ [stArmed, stRunning, stBreak], ∀ br ∈ [true, false], let d := (st (let d := runTask 6 s [] []; { d with rce := { d.rce with broken := br } })).dev;
      d.taskBegins 3 0 6 = true ∧ d.runState = s ∧ d.rce.broken = br) ∧
    (∀ s ∈ [stRunning, stBreak], ∀ u ∈ [[], [3]], let d := (st (let d := runTask 7 s [] []; { d with fab := { d.fab with unset := u } })).dev;
      d.taskBegins 3 0 7 = true ∧ d.runState = s ∧ d.fab.unset = u) := by decide +kernel
/-- O30: an INSTALL of a bank, whatever digest the library holds for it. -/
theorem wit_install : let d := (st (installIn installBase 0)).dev;
    d.taskBegins 3 0 8 = true ∧ d.runState = stBreak ∧ d.rce.broken = true ∧ d.taskArg 3 0 0x10 4 ≠ d.fget RCE_RUN_CTX_RUN_CTX ∧
      (∃ im ∈ d.rce.image, d.installable im (d.taskArg 3 0 0 2) (d.taskArg 3 0 8 8) = some ⟨0x55, 0x20000, 848, 0, 4⟩) ∧
      d.bankTargets 0x20000 = some [⟨3, 0, 0, 0, 2⟩, ⟨3, 0, 0, 1, 1⟩] ∧ inLpddr 0x20000 848 = true ∧ d.bankOk 0x20000 = true ∧ 848 = d.bankLength 0x20000 := by
  decide +kernel
/-- O30: what the library holds does not change the bank's digest, so it can hold that digest or another. -/
theorem wit_install_digest (d : Dev) (h : Nat) : (installIn d h).bankDigest 0x20000 848 = d.bankDigest 0x20000 848 := rfl
/-- O30: a break about to be reached, with and without a task that waits; a fabric not flushed; a drain under way and timed out. -/
theorem wit_break : (∀ w ∈ [[], [(3, 0, WaitFor.breakReached)]], let d := (st (breakD w [])).dev;
      d.runState = stBreak ∧ d.rce.broken = false ∧ d.flag FAB_STATUS_FLUSHED = true ∧ d.injectedOut = true ∧ d.graph 3 ≠ none ∧
        d.waiters .breakReached = w.map (fun x => (x.1, x.2.1))) ∧
    (st (breakD [] [(FAB_STATUS_FLUSHED, 0)])).dev.flag FAB_STATUS_FLUSHED = false ∧
    (∀ s ∈ [stBreak, stQuiescing], let d := (st (drainD s [])).dev;
      d.rce.closedTick = some 6000 ∧ d.runState = s ∧ d.flag FAB_STATUS_FLUSHED = false ∧ d.rce.resetDone = false) ∧
    (let d := (st (drainD stQuiescing [(FAB_STATUS_FLUSHED, 1)])).dev;
      d.runState = stQuiescing ∧ d.flag FAB_STATUS_FLUSHED = true ∧ d.stampedOut = true) := by decide +kernel

/-- A library of n banks, none of them 0x55. -/
def libraryOf (n : Nat) : List BankEntry := (List.range n).map (fun k => ⟨k + 0x100, 0, 0, 0, 0⟩)
/-- O31: REGISTER_BANK of a bank that is well formed, and of one that is not; 1,023 and 1,024 banks in the library, none of its number. -/
theorem wit_register_bank : (let d := (st (registerD 0x20000 3)).dev;
      d.taskBegins 3 0 9 = true ∧ d.taskArg 3 0 0 8 = 0x20000 ∧ d.inRegion [3] 0x20000 64 = true ∧ d.bankOk 0x20000 = true ∧
        d.inRegion [3] 0x20000 (d.bankLength 0x20000) = true ∧ d.leMem (0x20000 + 8) 8 = 0x55) ∧
    (st (registerD 0x20008 3)).dev.bankOk 0x20008 = false := by decide +kernel
/-- O31: the library full, and with one place left. -/
theorem wit_library : ∀ n ∈ [1023, 1024], (libraryOf n).length = n ∧ ∀ x ∈ libraryOf n, x.bank ≠ 0x55 := by
  intro n _
  simp only [libraryOf, List.length_map, List.length_range, List.mem_map, true_and]
  rintro x ⟨k, _, rfl⟩ h
  simp only at h
  omega
/-- O31: a COPY that overlaps itself, and one whose destination runs past its region. -/
theorem wit_copy : (let d := (st (copyD 0x8000 0x8002 5)).dev;
      d.taskBegins 3 0 11 = true ∧ d.rangeOk false (d.taskArg 3 0 0 8) (d.taskArg 3 0 0x10 8) = true ∧
        d.rangeOk true (d.taskArg 3 0 8 8) (d.taskArg 3 0 0x10 8) = true ∧ Memory.wf d.mem = true) ∧
    (let d := (st (copyD 0x8000 0x13FFFFFFFE 5)).dev;
      d.taskBegins 3 0 11 = true ∧ d.rangeOk true (d.taskArg 3 0 8 8) (d.taskArg 3 0 0x10 8) = false) := by decide +kernel
/-- O31: a march of a tile, a VU, an MU and a spare in each mode; one not allowed; a repair map of 16 and of 17 rows. -/
theorem wit_march : (∀ u ∈ [tileId 3 2, unitId 1 3 0, unitId 2 3 0, unitId 7 0 1], ∀ mode ∈ [0, 1], let d := (st (marchD u mode stIdle (List.range 16))).dev;
      d.taskBegins 3 0 10 = true ∧ d.taskArg 3 0 0 4 = u ∧ d.taskArg 3 0 4 1 = mode ∧ u < 2 ^ 24 ∧ marchable u = true ∧ mode ≤ 1 ∧ d.marchAllowed u mode = true) ∧
    (st (marchD (unitId 2 3 0) 1 stRunning [])).dev.marchAllowed (unitId 2 3 0) 1 = false ∧
    (let d := (st (marchD (unitId 2 3 0) 0 stIdle (List.range 16))).dev;
      (d.repairMap (unitId 2 3 0)).length = 16 ∧ 16 < (d.repairMap (unitId 2 3 0) ++ [16].filter (fun r => !(d.repairMap (unitId 2 3 0)).contains r)).length ∧
        d.flag (BLK_MU_STATUS_SPARES_EXHAUSTED (unitWhere (unitId 2 3 0))) = false ∧ d.badLocs (unitId 2 3 0) = []) := by decide +kernel
/-- O31: a SNAPSHOT of each section, and one of none. -/
theorem wit_snapshot_task : (∀ sel ∈ [1, 31], let d := (st (runTask 0x110 stIdle [sel] ([(LPX_REGION_KIND 3, 4), (LPX_REGION_BASE_MIB 3, 0), (LPX_REGION_SIZE_MIB 3, 1),
        (FAB_SNAP_AREA_SLOT_64K, 4), (FAB_SNAP_AREA_SLOTS, 2)]))).dev;
      d.taskBegins 3 0 0x110 = true ∧ d.taskArg 3 0 0 1 = sel ∧ d.snapArea = true ∧ d.snapAreaOk = true ∧ d.obs.latched = none) ∧
    (st (runTask 0x110 stIdle [32] [])).dev.taskArg 3 0 0 1 = 32 := by decide +kernel
/-- A SCAN_OUT of block 3 in a run state. -/
def scanOutD (s : Nat) (broken : Bool) : Dev := scanD 0x111 s broken (leBytes 8 0x40000 ++ leBytes 8 696 ++ leBytes 8 0x30000 ++ [0]) (leBytes 32 8)
/-- O31: SCAN_OUT in LOADED, in a reached break, in a break not reached, and in IDLE. -/
theorem wit_scan_out : (∀ z ∈ [(stLoaded, false), (stBreak, true)], let d := (st (scanOutD z.1 z.2)).dev;
      d.scanBegins 3 0 0x111 = true ∧ d.runState = z.1 ∧ d.rce.broken = z.2 ∧ (d.blockRecords (bitAt (d.taskArg 3 0 0x18 1) 0) [] 0 (d.scanBlocks (d.taskArg 3 0 0x10 8))).1.length = 696 ∧
        d.taskArg 3 0 8 8 = 696 ∧ d.inRegion [1] (d.taskArg 3 0 0 8) 696 = true ∧ d.taskArg 3 0 0x10 8 + 32 ≤ lpSize) ∧
    (let d := (st (scanOutD stBreak false)).dev; d.scanBegins 3 0 0x111 = true ∧ d.rce.broken = false ∧ (3, 0, .scan) ∉ d.rce.waits) ∧
    (st (scanOutD stIdle false)).dev.scanBegins 3 0 0x111 = true := by decide +kernel
/-- The records that a SCAN_OUT of block 3 writes. -/
def scanRecs : List Nat := ((scanOutD stLoaded false).blockRecords false [] 0 [3]).1
/-- A SCAN_IN of those records. -/
def scanInD (s : Nat) (broken : Bool) : Dev := scanD 0x112 s broken (leBytes 8 0x30000 ++ leBytes 8 scanRecs.length) scanRecs
/-- O31: SCAN_IN in a reached break and in one not reached; unit classes of a tile, an MU, a VU and a spare. -/
theorem wit_scan_in : (∀ br ∈ [true, false], let d := (st (scanInD stBreak br)).dev;
      d.scanBegins 3 0 0x112 = true ∧ d.runState = stBreak ∧ d.rce.broken = br ∧ (3, 0, .scan) ∉ d.rce.waits ∧
        d.taskArg 3 0 0 8 + d.taskArg 3 0 8 8 ≤ lpSize ∧ (d.parseScan (d.taskArg 3 0 8 8 / 32) (d.bytes (d.taskArg 3 0 0 8) (d.taskArg 3 0 8 8))).isSome = true) ∧
    (st (scanInD stArmed false)).dev.scanBegins 3 0 0x112 = true ∧
    unitClass (tileId 255 16) = 0 ∧ unitClass (unitId 2 255 0) = 2 ∧ unitClass (unitId 1 255 1) = 1 ∧ unitClass (unitId 7 15 1) = 7 := by decide +kernel

/-- O32: a break that no recovery holds; a recovery that moves nothing, moves a tile, and finds no place. -/
theorem wit_relocation : (st (readyD [])).dev.runState ≠ stBreak ∧
    (∀ z ∈ [([], true), ([tileId 3 2], false), (tileId 3 2 :: (List.range 17).map (tileId 3), false)], let d := (st (movingD z.1 [])).dev;
      let im : Image := { smallLoaded with figures := [oneTile], domains := 1 };
      d.runState = stBreak ∧ d.rce.broken = true ∧ d.rce.fwHold = true ∧ d.rce.image = some im ∧ (d.listed im).isEmpty = z.2) ∧
    (let im : Image := { smallLoaded with figures := [oneTile], domains := 1 };
      (Dev.findPlaces im [] 1 (st (movingD [tileId 3 2] [])).dev).2.isRight = true ∧
      (Dev.findPlaces im [] 1 (st (movingD [tileId 3 2, tileId 3 16] [])).dev).2.isLeft = true) := by decide +kernel
/-- O32: what moves; and a device that answers and one that does not. -/
theorem wit_moves : unitClass (tileId 3 2) = 0 ∧ unitClass (tileId 3 16) = 0 ∧ isVu (unitId 1 3 0) = true ∧ isVu (unitId 7 3 1) = true ∧
    [256 + 3].contains (256 + 3) = true ∧ [1].contains (256 + 3) = false ∧ (st (mkd [])).dev.ready = false ∧ (st (readyD [])).dev.ready = true := by
  decide +kernel

/-! ## Witnesses: the time unit, the schedule and the trigger signals -/

/-- The time is valid. -/
def tv : Fld × Nat := (TU_STATUS_TIME_VALID, 1)
/-- What the source's port has received: two offsets of -3,000 ps in sum. -/
def ptm : PortTime := { ({} : PortTime) with tick := 7000, epoch := 3, sum := -3000, count := 2, last := -50000 }
/-- A device on its backup source whose primary has been heard since tick 800, at tick 799,993,700. -/
def backupD (x : PortTime) : Dev :=
  { heard 4 { x with since := 800, tick := 799994400 } (timeD 2 [tv, (TU_STATUS_ON_BACKUP, 1), (TU_CTRL_REVERT, 1)]) with tick := 799993700 }
/-- A device disciplined by PPS, its last edge accepted 20 ns after tick 0. -/
def ppsD (tick : Nat) : Dev := let d := timeD 1 [tv]; { d with tick := tick, tu := { d.tu with ppsLast := some 20000 } }
/-- O33: TIME_SET before and after the time is valid, and where it is ignored; TIME_READ. -/
theorem wit_time_set : (st (mkd [])).dev.ready = false ∧ (st (timeD 2 [])).dev.selSource = 2 ∧
    (st (timeD 1 [(TU_STATUS_BASE_LOST, 1)])).dev.flag TU_STATUS_BASE_LOST = true ∧
    (∀ z ∈ [0, 1], let d := (st (pending [step5] (timeD 1 [(TU_STATUS_TIME_VALID, z)]))).dev;
      d.ready = true ∧ d.selSource ≠ 2 ∧ d.flag TU_STATUS_BASE_LOST = false ∧ d.flag TU_STATUS_TIME_VALID = (z == 1) ∧
        ∀ x ∈ d.tu.sched, x.2.st ≠ 4) := by decide +kernel
/-- O33: an update from PEER; a PPS edge that is accepted, at both ends of the tolerance, and one that is not. -/
theorem wit_servo : (let d := (st (heard 4 ptm (timeD 2 [tv]))).dev;
      d.flag TU_STATUS_BASE_LOST = false ∧ d.tu.source = 2 ∧ d.selSource = 2 ∧ d.flag TU_STATUS_TIME_VALID = true ∧ d.flag TU_CTRL_BACKUP_EN = false ∧
        d.flag TU_STATUS_ON_BACKUP = false ∧ d.portGood (d.fget TU_CTRL_SOURCE_PORT) = true ∧ (d.portTime (d.fget TU_CTRL_SOURCE_PORT)).count ≠ 0) ∧
    (∀ z ∈ [(800000016, 0, true), (799200016, 0, true), (800800016, 0, true), (800800016, 1249, false), (799200015, 0, false), (700000000, 0, false)],
      let d := (st (ppsD z.1)).dev;
      z.2.1 < 1250 ∧ d.flag TU_STATUS_BASE_LOST = false ∧ d.tu.source = 1 ∧ d.selSource = 1 ∧ d.ppsAccepted (1250 * d.tick + z.2.1) = z.2.2) := by
  decide +kernel
/-- O33: the source falls silent; the primary comes back in its epoch, far off, and in another epoch. -/
theorem wit_source : (let d := (st (heard 4 ptm (timeD 2 [tv]))).dev; d.tu.source = 2 ∧ pget d.tu.symbols d.sourcePort = some ptm) ∧
    (st (ppsD 5)).dev.tu.source = 1 ∧ (st (ppsD 5)).dev.tu.ppsLast = some 20000 ∧
    (∀ z ∈ [(ptm, true, true), ({ ptm with count := 0, last := 2000000 }, true, false), ({ ptm with epoch := 9 }, false, true)], let d := (st (backupD z.1)).dev;
      d.flag TU_CTRL_REVERT = true ∧ d.flag TU_STATUS_ON_BACKUP = true ∧ d.tu.source = 2 ∧ (pget d.tu.symbols (d.fget TU_CTRL_SOURCE_PORT)).isSome = true ∧
        (d.portTime 4).noSource = false ∧ max d.tick ((d.portTime 4).since + 800000000) ≤ (d.portTime 4).tick + 6400 ∧
        decide (((d.portTime 4).epoch + d.fget TU_STATUS_EPOCH_SKEW) % 2 ^ 16 = d.epoch) = z.2.1 ∧
        decide ((d.portOffset (d.fget TU_CTRL_SOURCE_PORT)).natAbs ≤ 1000000) = z.2.2) := by decide +kernel

/-- A time symbol: T3, the echoed stamps, the epoch and the flags ECHO_VALID, NO_SOURCE. -/
def timeSym (t3 ep echo ns : Nat) : Nat :=
  symbol (t3 * 2 ^ 160 + (9000 * 2 ^ 16) * 2 ^ 96 + (9100 * 2 ^ 16 + 5) * 2 ^ 32 + ep * 2 ^ 16 + 7 * 2 ^ 8 + 8 * echo + 2 * ns)
/-- A step symbol: STEP_AT, the time after it, the new epoch and the old one. -/
def stepSym (at0 tnew nep oep : Nat) : Nat := symbol (at0 * 2 ^ 176 + tnew * 2 ^ 112 + oep * 2 ^ 96 + nep * 2 ^ 80)
/-- O34: symbols that carry their CRC and one that does not, first acquisition, a source in this epoch, in the pending one, in
another, and without a source. -/
theorem wit_symbols : (st (timeD 2 [])).dev.timeLink 4 = true ∧ (st (timeD 2 [])).dev.timeLink 63 = false ∧
    (∀ z ∈ [(3, 0, 0), (3, 1, 1), (4, 1, 0), (9, 0, 0)], timeSym (9990 * 2 ^ 16) z.1 z.2.1 z.2.2 < 2 ^ 256 ∧
      (let y := timeSym (9990 * 2 ^ 16) z.1 z.2.1 z.2.2; crc16 240 (y / 2 ^ 16) = y % 2 ^ 16 ∧ y.testBit 17 = (z.2.2 == 1) ∧ y.testBit 19 = (z.2.1 == 1) ∧
        crc16 240 ((y + 1) / 2 ^ 16) ≠ (y + 1) % 2 ^ 16 ∧ y / 2 ^ 32 % 2 ^ 16 = z.1)) ∧
    (let d := (st (timeD 2 [])).dev; d.flag TU_STATUS_BASE_LOST = false ∧ d.flag TU_STATUS_TIME_VALID = false ∧ d.selSource = 2 ∧ 4 = d.fget TU_CTRL_SOURCE_PORT) ∧
    (let d := (st (pending [step5] (timeD 2 [tv]))).dev; d.flag TU_STATUS_TIME_VALID = true ∧ d.tu.source = 2 ∧ 4 = d.sourcePort ∧ d.epoch = 3 ∧
      (d.pendingDelta 4).isSome = true ∧ d.pendingDelta 9 = none) ∧
    (let d := (st (timeD 0 [tv])).dev; d.flag TU_STATUS_TIME_VALID = true ∧ d.tu.source ≠ 2 ∧ d.timeLink 4 = true) := by decide +kernel
/-- O34: a step symbol of this epoch, not yet pending, and one of another epoch. -/
theorem wit_step_symbol : (let y := stepSym 20000 25000 4 3; y < 2 ^ 256 ∧ crc16 240 (y / 2 ^ 16) = y % 2 ^ 16 ∧ y / 2 ^ 112 % 2 ^ 16 = 3 ∧ y / 2 ^ 96 % 2 ^ 16 = 4 ∧
      y / 2 ^ 192 = 20000) ∧ stepSym 20000 25000 4 9 / 2 ^ 112 % 2 ^ 16 = 9 ∧
    (∀ l ∈ [[], [step5]], let d := (st (pending l (timeD 2 [tv]))).dev; d.timeLink 4 = true ∧ d.flag TU_STATUS_BASE_LOST = false ∧ d.tu.source = 2 ∧ 4 = d.sourcePort ∧
      (3 + d.fget TU_STATUS_EPOCH_SKEW) % 2 ^ 16 = d.epoch ∧ ∀ o ∈ d.tu.openings, ¬ (o.stepAt = some 20000 ∧ o.delta = 6000 ∧ o.epoch = 4)) := by decide +kernel
/-- O34: symbols as they are sent. -/
theorem wit_symbols_sent : ∀ src ∈ [0, 2], let d := (st (let d := pending [step5] (timeD src [tv]); { d with tu := { d.tu with marks := [(4, 123456)] }, regs := (d.rset TU_TIME_TX 0x10#64).regs })).dev;
    pget d.tu.marks 4 = some 123456 ∧ d.sendsTime 4 = true ∧ d.flag TU_STATUS_TIME_VALID = true ∧
      d.tu.openings.find? (fun o => o.stepAt.isSome) = some step5 := by decide +kernel
/-- O34: openings that take effect with the sequencer stopped: unannounced; announced, ahead, now and past. -/
theorem wit_openings : (let d := (st (pending [step5, ⟨-5000, 4, none, false, 99, some 3, 8000⟩] (timeD 2 [tv]))).dev;
      d.flag RIND_STATUS_SEQ_RUNNING = false ∧ d.tu.openings.find? (fun o => o.stepAt.isNone) = some ⟨-5000, 4, none, false, 99, some 3, 8000⟩) ∧
    (∀ t ∈ [9000, 10000, 10001], let d := (st (pending [{ step5 with stepAt := some t }] (timeD 2 [tv]))).dev;
      d.flag RIND_STATUS_SEQ_RUNNING = false ∧ (∀ x ∈ d.tu.openings, x.stepAt ≠ none) ∧
        decide (0 ≤ stampDiff (d.ns % 2 ^ 48) (t % 2 ^ 48)) = decide (t ≤ 10000)) := by decide +kernel
/-- O34: RESYNC taken in each state that takes it, and refused. -/
theorem wit_resync : (∀ s ∈ [stIdle, stLoaded, stDrained], let d := (st (heard 4 ptm (timeD 2 [tv, (RIND_STATUS_RUN_STATE, s)]))).dev;
      d.ready = true ∧ d.selSource = 2 ∧ d.runState = s ∧ d.flag TU_STATUS_TIME_VALID = true ∧ pget d.tu.symbols d.sourcePort = some ptm ∧ ptm.epoch < 2 ^ 16 ∧
        ∀ o ∈ d.tu.openings, ¬ (o.stepAt = none ∧ o.epoch = ptm.epoch)) ∧
    (st (timeD 1 [])).dev.selSource ≠ 2 ∧ (st (timeD 2 [(RIND_STATUS_RUN_STATE, stRunning)])).dev.runState = stRunning := by decide +kernel

/-- The staged entry: its time, period, epoch, action and argument, and REL, POLICY, ENABLE as bits. -/
def stagedD (l : List (Fld × Nat)) (tm per ep act arg flags : Nat) : Dev :=
  timeD 0 ([(TU_SCHED_TIME_TIME, tm), (TU_SCHED_PERIOD_PERIOD_NS, per), (TU_SCHED_CTRL_ARG, arg), (TU_SCHED_CTRL_EPOCH, ep), (TU_SCHED_CTRL_ACTION, act),
    (TU_SCHED_CTRL_REL, flags / 4), (TU_SCHED_CTRL_POLICY, flags / 2 % 2), (TU_SCHED_CTRL_ENABLE, flags % 2)] ++ l)
/-- The entry that is staged. -/
def stagedOf (d : Dev) : SchedEntry := entryOf (d.rget TU_SCHED_TIME).toNat (d.rget TU_SCHED_PERIOD).toNat (d.rget TU_SCHED_CTRL).toNat
/-- O35: entries that are well formed, disabled and relative, before the time is valid, ahead and at its instant, past with and
without POLICY, of a later and of an earlier epoch; and one whose action is reserved. -/
theorem wit_sched_write : (∀ z ∈ [(9000, 3, 0), (9000, 3, 5), (10000, 3, 1), (10001, 3, 1), (9999, 3, 3), (9999, 3, 1), (9999, 4, 1), (9999, 2, 1)], ∀ v ∈ [0, 1],
      let d := (st (stagedD [(TU_STATUS_TIME_VALID, v)] z.1 0 z.2.1 1 0x10005 z.2.2)).dev; let n := stagedOf d;
      d.ready = true ∧ entryOk n.action n.arg n.period = true ∧ d.flag TU_STATUS_TIME_VALID = (v == 1) ∧ n.rel = (z.2.2 == 5) ∧ n.enable = (z.2.2 != 0) ∧
        n.policy = (z.2.2 == 3) ∧ n.period = 0 ∧ epochDiff n.epoch d.epoch = (z.2.1 : Int) - 3 ∧ (z.2.2 = 5 ∨ stampDiff (d.ns % 2 ^ 48) n.time = 10000 - (z.1 : Int))) ∧
    (let n := stagedOf (st (stagedD [] 5 0 0 0 0 1)).dev; entryOk n.action n.arg n.period = false) := by decide +kernel
/-- An entry of the schedule in the running, armed or idle device. -/
def schedD (l : List (Fld × Nat)) (i : Nat) (x : SchedEntry) : Dev := let d := timeD 0 ([tv] ++ l); { d with tu := { d.tu with sched := pput i x d.tu.sched } }
/-- O35: an armed entry of each action, ahead and past, in each run state; the first and the last entry; one that is not armed. -/
theorem wit_sched_fire : (∀ i ∈ [0, 255], ∀ act ∈ [1, 2, 3, 4, 5, 6, 7, 8], ∀ s ∈ [stIdle, stArmed, stRunning, stBreak], ∀ z ∈ [(9000, 1), (10000, 0), (10500, 1)],
      let d := (st (schedD [(RIND_STATUS_RUN_STATE, s), (VAT_CURD_CTRL_ENABLE, z.2)] i { time := z.1, action := act, period := 1000, st := 2 })).dev;
      (d.sch i).st = 2 ∧ d.flag TU_STATUS_TIME_VALID = true ∧ (d.sch i).late = false ∧ (d.sch i).action = act ∧ d.runState = s ∧ d.tu.acts = [] ∧
        d.flag VAT_CURD_CTRL_ENABLE = (z.2 == 1)) ∧
    (st (schedD [] 3 {})).dev.ready = true ∧ ((st (schedD [] 3 {})).dev.sch 3).st ≠ 2 ∧ (st (timeD 0 [])).dev.flag TU_STATUS_TIME_VALID = false := by decide +kernel
/-- O35: a SNAPSHOT entry that finds the engine idle and an area set. -/
theorem wit_sched_snapshot : let d := (st (schedD [(FAB_SNAP_AREA_BASE_4K, 0x10), (FAB_SNAP_AREA_SLOTS, 4), (FAB_SNAP_AREA_SLOT_64K, 1), (LPX_REGION_KIND 3, 1), (LPX_REGION_BASE_MIB 3, 0),
      (LPX_REGION_SIZE_MIB 3, 100)] 5 { time := 9000, action := 9, arg := 3, st := 2 })).dev;
    selectorOk ((d.sch 5).arg % 256) = true ∧ d.snapArea = true ∧ d.snapAreaOk = true ∧ d.obs.latched = none := by decide +kernel
/-- O36: an edge of each output that rises or falls on each line's border; a line with none. -/
theorem wit_trgout : (∀ k ∈ [0, 1, 2], ∀ t ∈ [0, 31], ∀ p ∈ [77, 10000000, 10005000], let g : TrgEdge := ⟨t, p, k, true⟩
      let d := (st { timeD 0 [] with tu := { (timeD 0 []).tu with edges := [g, ⟨t, 99999999, 0, false⟩, ⟨6, 3, 0, true⟩] } }).dev; d.nextEdge t = some g) ∧
    (∀ e ∈ (st (timeD 0 [])).dev.tu.edges, e.line ≠ 5) := by decide +kernel
/-- O36: an edge on TCAP that is selected and one that is not; captured, with 15 in the queue, 16, and too soon after the last. -/
theorem wit_tcap : (∀ z ∈ [(0, none, true), (15, some (10000000 + 700 - 5000), true), (16, none, true), (0, some (10000000 + 700 - 4999), false)],
      let d := (st (let d := timeD 0 [(TU_TCAP_CFG_EDGE 7, 1), (TU_TCAP_CFG_DELAY_PS 7, 2 ^ 20 - 3)];
        { d with tu := { d.tu with tcap := [(7, List.replicate z.1 ⟨1, 2, 3, false, true⟩)], tcapLast := z.2.1.toList.map (fun x => (7, x)) } })).dev;
      (d.fget (TU_TCAP_CFG_EDGE 7)).testBit 0 = true ∧ (d.fget (TU_TCAP_CFG_EDGE 7)).testBit 1 = false ∧ d.ready = true ∧ d.flag TU_STATUS_BASE_LOST = false ∧
        (pget d.tu.tcapLast 7).all (fun l => decide (l + 5000 ≤ 1250 * d.tick + 700)) = z.2.2 ∧ (d.tcap 7).length = z.1) ∧
    (st (timeD 0 [(TU_STATUS_BASE_LOST, 1)])).dev.flag TU_STATUS_BASE_LOST = true ∧ (st (mkd [])).dev.ready = false := by decide +kernel
/-- O36: PPS_OUT about to rise, about to fall, and not enabled. -/
theorem wit_pps : (let d := (st (timeD 0 [tv, (TU_CTRL_PPS_OUT_EN, 1)])).dev; d.tu.ppsFall = none ∧ d.flag TU_CTRL_PPS_OUT_EN = true ∧ d.flag TU_STATUS_TIME_VALID = true) ∧
    (let d := (st { timeD 0 [] with tu := { (timeD 0 []).tu with ppsFall := some 10001251 } }).dev; d.tu.ppsFall = some 10001251) ∧
    (let d := (st (timeD 0 [])).dev; d.tu.ppsFall = none ∧ d.flag TU_CTRL_PPS_OUT_EN = false) := by decide +kernel

/-! ## Witnesses: the ports -/

/-- Frame 7 as port 4 expects it, with a bad header CRC, a bad payload CRC, a flagged block, and of another length. -/
def rxGood : RxFrame := rxFrame 7 1 [1, 2]
/-- A frame whose header does not check. -/
def rxBad : RxFrame := { rxGood with hcrc := (rxGood.hcrc + 1) % 2 ^ 16 }
/-- A frame whose payload does not check. -/
def rxPay : RxFrame := { rxGood with pcrc := 5, hcrc := crc16 112 (headerTop 7 1 2 9 5 0) }
/-- O37: frames that break no rule, R366's rules 1, 3 and 4, with and without retries; a frame that a retry waits for, and another. -/
theorem wit_frames : (rxGood.wf = true ∧ rxBad.wf = true ∧ rxPay.wf = true) ∧
    (∀ v ∈ [1, 2], ∀ z ∈ [(rxGood, none), (rxBad, some 1), (rxPay, some 3), ({ rxGood with flagged := [1] }, some 4)],
      let d := (st (portD roleInput psActive v [(PL_CFG_RETRY_EN 4, 1)] {})).dev;
      d.pstate 4 = psActive ∧ d.version 4 = v ∧ d.flag (PL_CFG_RETRY_EN 4) = true ∧ d.role 4 = roleInput ∧ (d.port 4).retryFor = none ∧ z.1.seq ∉ (d.port 4).retried ∧
        d.frameFault 4 z.1 = z.2) ∧
    (∀ q ∈ [6, 7], let d := (st (portD roleInput psActive 1 [] { retryFor := some q })).dev; d.pstate 4 = psActive ∧ (d.port 4).retryFor = some q ∧ d.frameFault 4 rxGood = none) ∧
    (st (portD roleInput psDown 1 [] {})).dev.pstate 4 ≠ psActive := by decide +kernel
/-- O37: no quarantine is near: the limit is off, or no window is open. -/
theorem wit_calm : Calm (portD roleInput psActive 1 [(PL_QUAR_CFG_LIMIT 4, 0)] {}) 4 := by unfold Calm; decide +kernel
/-- O37: bad blocks short of the limit, and at it, on Peust 1 and 2. -/
theorem wit_bad_blocks : ∀ v ∈ [1, 2], let d := (st (portD rolePeer psActive v [] {})).dev; let n := d.badLimit 4;
    2 ≤ n ∧ ∀ k ∈ [n - 2, n - 1], let e := (st (portD rolePeer psActive v [(PL_QUAR_CFG_LIMIT 4, 0)] { badRun := k })).dev;
      e.pstate 4 = psActive ∧ decide (e.badLimit 4 ≤ (e.port 4).badRun + 1) = (k == n - 1) := by decide +kernel
/-- O37: credit granted up to and beyond 65,535; to a port that takes none; a retry of a frame held, of one not held, and at Peust 2. -/
theorem wit_credit_retry : (∀ z ∈ [(65530, true), (65531, false)], let d := (st (portD roleReadout psActive 2 [(PL_CFG_CREDIT_EN 4, 1), (PL_CREDIT_CREDIT 4, 5)] {})).dev;
      d.pstate 4 = psActive ∧ d.role 4 = roleReadout ∧ d.flag (PL_CFG_CREDIT_EN 4) = true ∧ decide (d.fget (PL_CREDIT_CREDIT 4) + z.1 % 65536 ≤ 65535) = z.2) ∧
    (st (portD rolePeer psActive 2 [] {})).dev.role 4 ≠ roleReadout ∧
    (let x := ((st (portD rolePeer psActive 1 [] { sent := (List.range 66).map (fun i => (i, i % 2 == 0, [i])) })).dev.port 4);
      (∃ y ∈ x.sent.drop (x.sent.length - 64), y.1 = 2) ∧ ∀ y ∈ x.sent.drop (x.sent.length - 64), y.1 ≠ 1) ∧
    (st (portD rolePeer psActive 1 [] {})).dev.version 4 = 1 ∧ (st (portD rolePeer psActive 2 [] {})).dev.version 4 ≠ 1 := by decide +kernel
/-- O37: an answer deferred; a port in QUARANTINE; a window open. -/
theorem wit_proto_err : (let x := (st (portD rolePeer psActive 2 [] { deferred := some (1, 2, 3), lastErr := some 7500, window := some (9000, 2) })).dev.port 4;
      x.deferred = some (1, 2, 3) ∧ x.lastErr = some 7500 ∧ x.window = some (9000, 2)) ∧
    (st (portD rolePeer psQuarantine 2 [] {})).dev.pstate 4 = psQuarantine := by decide +kernel

/-- A TRAIN word: VERSION_MAX, the nonce, the selection, the echo and ACK. -/
def trainWord (ver nonce sel echo ack : Nat) : Nat := 0x99 * 2 ^ 56 + ver * 2 ^ 52 + sel * 2 ^ 48 + nonce * 2 ^ 32 + echo * 2 ^ 16 + ack * 2 ^ 11
/-- A port in a state of training that offers version 3 under nonce 77. -/
def trainD (pst : Nat) (x : Port) : Dev := portD rolePeer pst 0 [(PL_QUAR_CFG_LIMIT 4, 0)] { x with ownMax := 3, nonce := 77 }
/-- O38: a good word short of the 16th in a row and as the 16th; one of the port's own nonce; ones that are not good. -/
theorem wit_train : (∀ k ∈ [14, 15], let d := (st (trainD psNegotiate { agree := k, offer := some 3 })).dev; let x := d.port 4; let w := trainWord 3 5 3 77 1;
      d.pstate 4 = psNegotiate ∧ w < 2 ^ 64 ∧ w / 2 ^ 32 % 2 ^ 16 ≠ x.nonce ∧ 1 ≤ w / 2 ^ 52 % 2 ^ 4 ∧ w / 2 ^ 52 % 2 ^ 4 ≤ 3 ∧ x.offer = some (w / 2 ^ 52 % 2 ^ 4) ∧
        w / 2 ^ 48 % 2 ^ 4 = min x.ownMax (w / 2 ^ 52 % 2 ^ 4) ∧ w.testBit 11 = true ∧ w / 2 ^ 16 % 2 ^ 16 = x.nonce ∧ x.agree = k) ∧
    trainWord 3 77 3 5 1 / 2 ^ 32 % 2 ^ 16 = 77 ∧ trainWord 0 5 0 0 0 / 2 ^ 52 % 2 ^ 4 < 1 ∧ 3 < trainWord 4 5 0 0 0 / 2 ^ 52 % 2 ^ 4 := by decide +kernel
/-- O38: signal in DETECT and where it says nothing; the states EQUALISE, ALIGN and ACTIVE with ALIGN blocks missed and lanes found. -/
theorem wit_train_states : (let d := (st (trainD psDetect {})).dev; d.pstate 4 = psDetect ∧ (d.port 4).dark = none ∧ (d.port 4).reqEnd = none) ∧
    ((st (trainD psDetect { dark := some 9000 })).dev.port 4).dark = some 9000 ∧ (st (trainD psEqualise {})).dev.pstate 4 = psEqualise ∧
    (let d := (st (trainD psAlign { lanes := [0, 1, 2, 3] })).dev; d.pstate 4 = psAlign ∧ (d.port 4).lanes.length = 4) ∧
    (∀ k ∈ [0, 1], let d := (st (trainD psActive { missed := k })).dev; d.pstate 4 = psActive ∧ (d.port 4).missed = k) := by decide +kernel
/-- O38: states with a time limit; DOWN ports that retry and do not; a group that came on. -/
theorem wit_train_ends : (∀ s ∈ [psDetect, psNegotiate, psEqualise, psAlign], let d := (st (trainD s { since := 5000 })).dev;
      d.pstate 4 = s ∧ (d.port 4).dark = none ∧ (d.port 4).reqEnd = none) ∧ (trainLimit psNegotiate).isSome = true ∧ (trainLimit psAlign).isSome = true ∧
    (∀ z ∈ [0, 1], let d := (st (portD rolePeer psDown 2 [(PL_CFG_AUTO_RETRY 4, 1), (PL_CFG_TRAIN_EN 4, z), (PWR_DOMAIN_STAT_STATE 20, 2)] {})).dev;
      d.pstate 4 = psDown ∧ d.flag (PL_CFG_AUTO_RETRY 4) = true ∧ d.mayTrain 4 = (z == 1)) ∧
    (let d := (st (let d := portD rolePeer psOff 0 [(PL_CFG_TRAIN_EN 4, 1), (PWR_DOMAIN_STAT_STATE 20, 2)] {}; { d with pwr := { d.pwr with groupsOn := [(0, 6000)] } })).dev;
      pget d.pwr.groupsOn 0 = some 6000 ∧ d.pstate 4 = psOff ∧ d.mayTrain 4 = true) := by decide +kernel
/-- O39: an ACTIVE port at Peust 1, 2 and 3; a request that ends; RETRAIN; electrical idle; ports that transmit and do not. -/
theorem wit_drops : (∀ v ∈ [1, 2, 3], let d := (st (portD rolePeer psActive v [] {})).dev; d.pstate 4 = psActive ∧ d.version 4 = v ∧ d.ready = true ∧ d.laserLost 4 = false ∧
      d.transmits 4 = true ∧ (d.port 4).reqEnd = none) ∧
    ((st (portD rolePeer psDetect 2 [] { reqEnd := some 8500 })).dev.port 4).reqEnd = some 8500 ∧ (st (portD rolePeer psOff 2 [] {})).dev.pstate 4 = psOff ∧
    (st (portD rolePeer psDown 2 [(PL_LASER_LOS 1, 1)] {})).dev.laserLost 4 = true ∧ (st (mkd [])).dev.ready = false ∧ (st (portD rolePeer psIdle 2 [] {})).dev.pstate 4 = psIdle ∧
    (let d := (st (portD rolePeer psDown 2 [] {})).dev; d.pstate 4 ≠ psActive ∧ d.pstate 4 ≠ psOff ∧ d.laserLost 4 = false ∧ d.pstate 4 ≠ psIdle ∧ d.transmits 4 = false) := by
  decide +kernel
/-- O40: records at Peust 1 and 2; RESULT frames behind none and behind a record. -/
theorem wit_port_sends : (∀ v ∈ [1, 2], let d := (st (portD rolePeer psActive v [] { recs := [(3, 5)], results := [(2, [1])], txSeq := 65535 })).dev;
      (d.port 4).recs = [(3, 5)] ∧ d.pstate 4 = psActive ∧ d.version 4 = v ∧ (d.port 4).recs ≠ []) ∧
    (let x := (st (portD rolePeer psActive 2 [] { results := [(2, [1, 2]), (3, [1])] })).dev.port 4; x.results = [(2, [1, 2]), (3, [1])] ∧ x.recs = []) ∧
    ((st (portD rolePeer psActive 2 [] {})).dev.port 4).recs = [] ∧ ((st (portD rolePeer psActive 2 [] {})).dev.port 4).results = [] := by decide +kernel
/-- O40: a capture's frame in its last block and before it; the last frame and one before it; no credit; a capture that waits. -/
theorem wit_captures : (∀ z ∈ [(0, 49, true), (0, 48, false), (63, 4096, true), (64, 4096, false), (64, 4097, false)], ∀ en ∈ [0, 1], ∀ cr ∈ [0, 1],
      let c : CapTx := ⟨List.replicate z.2.1 1, z.1, true, true⟩;
      let d := (st (portD roleReadout psActive 2 [(PL_CFG_CREDIT_EN 4, en), (PL_CREDIT_CREDIT 4, cr)] { caps := [c] })).dev;
      (d.port 4).caps = [c] ∧ d.pstate 4 = psActive ∧ (d.port 4).recs = [] ∧ c.ended = true ∧ d.flag (PL_CFG_CREDIT_EN 4) = (en == 1) ∧ d.fget (PL_CREDIT_CREDIT 4) = cr ∧
        decide (64 * (c.blocks + 1) < 16 + (c.bytes.take 4096).length) = z.2.2) ∧
    (∀ en ∈ [true, false], let d := (st (let d := portD roleReadout psActive 2 [] { caps := [⟨[1], 0, true, en⟩], creditWait := some 7000 };
        { d with curd := { d.curd with queue := [{ cap0 with dests := [3, 4] }] } })).dev;
      (d.port 4).creditWait = some 7000 ∧ (d.port 4).caps = [⟨[1], 0, true, en⟩] ∧ d.curd.queue = [{ cap0 with dests := [3, 4] }]) := by decide +kernel
/-- O41: test settings allowed and not; in TEST with patterns on and off, where the port may train and may not; transmitting and not. -/
theorem wit_port_tests : (∀ z ∈ [(0, psDown, true), (stRunning, psActive, false)], let d := (st (portD rolePeer z.2.1 2 [(RIND_STATUS_RUN_STATE, z.1)] {})).dev;
      d.ready = true ∧ d.testAllowed 4 = z.2.2 ∧ d.pstate 4 ≠ psOff ∧ d.pstate 4 ≠ psTest ∧ d.transmits 4 = (z.2.1 == psActive)) ∧
    (∀ z ∈ [0, 1], let d := (st (portD rolePeer psTest 2 [(PL_CFG_TRAIN_EN 4, z), (PWR_DOMAIN_STAT_STATE 20, 2)] {})).dev;
      d.testAllowed 4 = true ∧ d.pstate 4 = psTest ∧ d.mayTrain 4 = (z == 1) ∧ ∀ l < 4, d.fget (PL_LANE_PRBS_TX_PATTERN 4 l) = 0 ∧ d.fget (PL_LANE_PRBS_RX_PATTERN 4 l) = 0) ∧
    (let d := (st (portD rolePeer psTest 2 [(PL_LANE_PRBS_RX_PATTERN 4 3, 3)] {})).dev; d.pstate 4 = psTest ∧ d.fget (PL_LANE_PRBS_RX_PATTERN 4 3) ≠ 0) ∧
    0x1A5 % 2 ^ 3 ≠ 0 ∧ 0x18 / 2 ^ 3 % 4 ≠ 0 ∧ 0x1A0 / 2 ^ 3 % 4 = 0 := by decide +kernel
/-- O41: a laser's power at and below a threshold and in its hysteresis, LOS newly found; margins at Peust 1, 2 and 3. -/
theorem wit_lasers : (∀ z ∈ [(499, 0, true), (500, 0, false), (509, 1, true), (510, 1, false)], ∀ s ∈ [psOff, psQuarantine, psTest, psActive],
      let d := (st (portD rolePeer s 3 [(PL_LASER_LOS_UW 1, 500), (PL_LASER_LOS 1, z.2.1)] {})).dev;
      d.flag (PL_LASER_LOS 1) = (z.2.1 == 1) ∧ (decide (z.1 < d.fget (PL_LASER_LOS_UW 1)) || (d.flag (PL_LASER_LOS 1) && decide (100 * z.1 < 102 * d.fget (PL_LASER_LOS_UW 1)))) = z.2.2 ∧
        d.pstate 4 = s) ∧ (∀ v ∈ [1, 2, 3], (st (portD rolePeer psActive v [] {})).dev.version 4 = v) := by decide +kernel

/-! ## Witnesses: the host interface, the mailbox and SPDM -/

/-- O42: reads and writes of CXL.mem with MEM_EN set and clear, LPDDR5X up and not, and into a region the host may not write. -/
theorem wit_cxl_mem : (∀ z ∈ [2, 0], let d := (st (memD [(PWR_DOMAIN_STAT_STATE 28, z)])).dev; d.flag GLB_STATUS_MEM_EN = true ∧ d.lpUp = (z == 2) ∧ d.protectedAt 0x1000 = false ∧
      d.host.mbox.events.length < 64) ∧ (st (readyD [])).dev.flag GLB_STATUS_MEM_EN = false ∧
    (st (memD [(LPX_REGION_KIND 4, 6), (LPX_REGION_BASE_MIB 4, 20), (LPX_REGION_SIZE_MIB 4, 1)])).dev.protectedAt 0x1400000 = true ∧ 0x13FFFFFFC0 % 64 + 64 ≤ 64 := by decide +kernel
/-- O42: the link up and down, with a burst under way; its domain ON and not; fallback. -/
theorem wit_link : (∀ z ∈ [true, false], let d := (st (let d := memD [(DP_STATUS_BUSY, 1)]; { d with host := { d.host with linkDown := z } })).dev;
      d.host.linkDown = z ∧ d.flag DP_STATUS_BUSY = true ∧ d.flag GLB_STATUS_FALLBACK = false) ∧ (st (mkd [(PWR_DOMAIN_STAT_STATE 29, 2)])).dev.dom 29 = dsOn ∧
    (st (mkd [])).dev.dom 29 ≠ dsOn ∧ (st (mkd [(GLB_STATUS_FALLBACK, 1)])).dev.flag GLB_STATUS_FALLBACK = true := by decide +kernel
/-- DP_CTRL as START writes it. -/
def dpCtrl (units inc dir : Nat) : Nat := 2 ^ 12 * units + 2 ^ 4 * inc + 2 ^ 3 * dir + 1
/-- O42: legal and illegal starts; addresses that a burst may read and may not; a burst with room for two units and for none; whole and
partial accesses of the window; a burst that is done. -/
theorem wit_data_port : (∀ z ∈ [(dpCtrl 1 0 0, true), (dpCtrl 512 2 1, true), (dpCtrl 0 0 0, false), (dpCtrl 513 1 0, false), (dpCtrl 3 3 0, false)],
      decide (1 ≤ z.1 / 2 ^ 12 % 2 ^ 10 ∧ z.1 / 2 ^ 12 % 2 ^ 10 ≤ 512 ∧ z.1 / 2 ^ 4 % 4 ≠ 3) = z.2 ∧ z.1 < 2 ^ 64) ∧
    (let d := (st (memD [(DP_ADDR_ADDR, 0x200)])).dev; d.ready = true ∧ d.flag DP_STATUS_BUSY = false ∧ d.dpRefuses false 0x1000 = 0 ∧ d.dpRefuses true 0x1000 = 0 ∧
      d.dpRefuses false (8 * (2 ^ 61 - 1)) ≠ 0 ∧ d.holdsAt 0x1000 = true ∧ d.lpUp = true) ∧
    (∀ z ∈ [2, 4], let d := (st (memD [(DP_ADDR_ADDR, 0x300), (DP_STATUS_BUSY, 1), (DP_CTRL_DIR, 1), (DP_CTRL_UNITS, 4), (DP_STATUS_DONE_UNITS, z)])).dev;
      d.flag DP_STATUS_BUSY = true ∧ d.flag DP_CTRL_DIR = true ∧ decide (d.fget DP_CTRL_UNITS ≤ d.fget DP_STATUS_DONE_UNITS) = (z == 4)) ∧
    dpAccess 0 8 = true ∧ dpAccess 4032 64 = true ∧ dpAccess 0 4 = false ∧ dpAccess 4088 16 = false := by decide +kernel
/-- A completion of this slot's graph, or of none. -/
def cqEnt (g : Option Nat) : CqEntry := { bytes := cqBytes 2 77 5 [1, 2, 3], graph := g }
/-- O43: the queue enabled and not, its place in a region the host may use and in none; HEAD within what is written and beyond; an entry
that has space, at the end of the ring and before it, and one that has none. -/
theorem wit_completion_queue : (∀ z ∈ [0, 1], (st (heldD [] [(GLB_CQ_CFG_ENABLE, z)])).dev.flag GLB_CQ_CFG_ENABLE = (z == 1)) ∧
    (∀ k ∈ [1, 2], let d := (st (heldD [] [(GLB_CQ_CFG_ENABLE, 0), (GLB_CQ_BASE_LOC, 1), (LPX_REGION_KIND 3, k)])).dev;
      d.fget GLB_CQ_BASE_LOC = 1 ∧ d.inRegion [1] (64 * d.fget GLB_CQ_BASE_ADDR) (64 * 2 ^ 6) = (k == 1)) ∧
    (∀ z ∈ [(40, true), (41, false), (63, false), (64, false)], let d := (st (heldD [] [(GLB_CQ_TAIL_TAIL, 40), (GLB_CQ_HEAD_HEAD, 8)])).dev; let n := 2 ^ d.fget GLB_CQ_CFG_ENTRIES_LOG2;
      decide (z.1 < n ∧ (z.1 + n - d.fget GLB_CQ_HEAD_HEAD) % n ≤ d.cqUsed) = z.2) ∧
    (∀ g ∈ [none, some 3], ∀ z ∈ [(63, 8, true), (0, 8, true), (7, 8, false), (6, 8, true)], let d := (st (let d := heldD [cqEnt g] [(GLB_CQ_TAIL_TAIL, z.1), (GLB_CQ_HEAD_HEAD, z.2.1)]; { d with host := { d.host with linkDown := false } })).dev;
      d.host.hold = [cqEnt g] ∧ d.flag GLB_CQ_CFG_ENABLE = true ∧ d.host.linkDown = false ∧ decide (d.cqUsed + 1 < d.cqSize) = z.2.2) := by decide +kernel
/-- O43: entries unsignalled, the queue half full and not. -/
theorem wit_cq_interrupt : (∀ z ∈ [(40, true), (39, false)], let d := (st (let d := heldD [] [(GLB_CQ_TAIL_TAIL, z.1), (GLB_CQ_HEAD_HEAD, 8), (GLB_CQ_CFG_HOLDOFF_US, 10)];
        { d with host := { d.host with linkDown := false, unsignalled := some 7000 } })).dev;
      d.host.unsignalled = some 7000 ∧ d.host.linkDown = false ∧ decide (d.cqSize ≤ 2 * d.cqUsed) = z.2) ∧
    (st (heldD [] [])).dev.host.unsignalled = none ∧ (st (heldD [] [])).dev.host.hold = [] := by decide +kernel

/-- O44 to O46: a mailbox that answers every command, before READY the three it may, and one that does not answer. -/
theorem wit_mailbox : (let d := (st (boxD [] {})).dev; d.mboxUp = true ∧ ∀ op ∈ [0x0100, 0x0103, 0x0201, 0x4000, 0xC000, 0xC001, 0xC011, 0xC013], d.mboxAccepts op = true) ∧
    (let d := (st (boxD [(GLB_STATUS_READY, 0)] {})).dev; d.mboxUp = true ∧ d.ready = false ∧ d.flag GLB_STATUS_RECOVERY = false ∧ d.mboxAccepts 0x0100 = false ∧ d.mboxAccepts 0xC000 = true) ∧
    (st (boxD [(SEC_BOOT_BOOT_STEP, 0)] {})).dev.mboxUp = false ∧ mailboxKnown 0x0104 = false ∧ mailboxKnown 0x0100 = true := by decide +kernel
/-- O44: event records in order, as CLEAR names them, and not. -/
theorem wit_events : let m := (st (boxD [] { events := [eventRec 1, eventRec 2, eventRec 3], overflow := 3 })).dev.host.mbox;
    (m.events.take 2).map (fun x => leAt x 20 2) = [1, 2] ∧ (m.events.take 2).map (fun x => leAt x 20 2) ≠ [2, 1] ∧
      (List.range 2).map (fun k => leAt [0, 0, 0, 1, 0, 2, 0] (3 + 2 * k) 2) = [1, 2] := by decide +kernel
/-- O45: updates staged, being programmed and neither; a part in order and out of order; an image that fails its check (whether one
passes rests on the signature functions, which have no body). -/
theorem wit_firmware : (∀ u ∈ [0, 2, 3], (st (boxD [(SEC_UPDATE_UPDATE_STATE, u)] {})).dev.fget SEC_UPDATE_UPDATE_STATE = u) ∧
    (∀ t ∈ [true, false], let m := (st (boxD [] { staged := List.replicate 128 7, transferring := t })).dev.host.mbox; m.transferring = t ∧ 128 * 1 = m.staged.length ∧ 128 * 2 ≠ m.staged.length) ∧
    fwCheck [] 0 ≠ 0 ∧ (st (boxD [] {})).dev.rce.dead = false := by decide +kernel
/-- Regions of the device: index, kind, base and size in MiB. -/
def regionsL (l : List (Nat × Nat × Nat × Nat)) : List (Fld × Nat) := l.flatMap (fun x => [(LPX_REGION_KIND x.1, x.2.1), (LPX_REGION_BASE_MIB x.1, x.2.2.1), (LPX_REGION_SIZE_MIB x.1, x.2.2.2)])
/-- O46: a region that fits behind one that is there and not before it; no index left. -/
theorem wit_region_create : (Fits (boxD (regionsL [(3, 3, 0, 5)]) {}) 5 100 ∧ ∀ c < 5, ¬ Fits (boxD (regionsL [(3, 3, 0, 5)]) {}) c 100) ∧
    (let d := (st (boxD (regionsL [(3, 3, 0, 5)]) {})).dev; d.fget (LPX_REGION_KIND 4) = 0 ∧ ∀ i < 4, 3 ≤ i → d.fget (LPX_REGION_KIND i) ≠ 0) ∧
    (∀ j < 16, 3 ≤ j → (st (boxD (regionsL ((List.range 13).map (fun k => (k + 3, 1, k, 1)))) {})).dev.fget (LPX_REGION_KIND j) ≠ 0) := by unfold Fits; decide +kernel
/-- O46: a region that may be freed, in use and not; no such region; RESET while programming and not. -/
theorem wit_region_free : (∀ r ∈ [[], [4]], let d := (st (let d := boxD (regionsL [(4, 1, 100, 100)]) {}; { d with rce := { d.rce with regions := r } })).dev;
      1 ≤ d.fget (LPX_REGION_KIND 4) ∧ d.fget (LPX_REGION_KIND 4) ≤ 4 ∧ d.regionInUse 4 = (r == [4]) ∧ d.fget (LPX_REGION_KIND 5) = 0) ∧
    (∀ u ∈ [0, 2], (st (boxD [(SEC_UPDATE_UPDATE_STATE, u)] {})).dev.fget SEC_UPDATE_UPDATE_STATE = u) ∧ (st (boxD [] {})).dev.fab.failed = [] ∧
    (∀ c ∈ [0, 1], (st (boxD [] { certPart := c })).dev.host.mbox.certPart = c) := by decide +kernel
/-- O46: ATTEST with an identity and without, beside a run task and not; an enrolment and a policy for this device and for others
(whether a signature verifies rests on functions without a body). -/
theorem wit_owners : (∀ i ∈ [0, 1], (st (boxD [(SEC_STATUS_IDENTITY_OK, i)] {})).dev.flag SEC_STATUS_IDENTITY_OK = (i == 1)) ∧
    (∀ op ∈ [3, 0x100], (st (graphD (boxD [] {}) 3 [1] [desc op 0 [] []])).dev.runTaskRuns = (op == 3)) ∧
    (let d := (st (let d := boxD [] {}; { d with owner := { d.owner with enrolled := true, enrolSeq := 4, policySeq := 4 } })).dev;
      d.runState = stIdle ∧ d.owner.enrolled = true ∧ leAt (enrolment 0 5 0) 8 8 = d.fget GLB_SERIAL_SERIAL ∧ d.owner.enrolSeq < leAt (enrolment 0 5 0) 0x10 4 ∧
        ¬ d.owner.enrolSeq < leAt (enrolment 0 4 0) 0x10 4 ∧ leAt (enrolment 1 5 0) 8 8 ≠ d.fget GLB_SERIAL_SERIAL ∧ enrolmentFormed (enrolment 0 5 2) = false ∧
        leAt (policyOf 0 5 1 0) 8 8 = 0 ∧ d.owner.policySeq < leAt (policyOf 0 5 1 0) 0x10 4 ∧ (enrolment 0 5 0).length = 3469 ∧ (policyOf 0 5 1 0).length = 3448) ∧
    (st (boxD [(RIND_STATUS_RUN_STATE, stArmed)] {})).dev.runState ≠ stIdle := by decide +kernel
/-- An SPDM connection, its identity proven or not. -/
def spdmD (x : Spdm) (proven : Nat) : Dev := let d := boxD [(SEC_STATUS_IDENTITY_OK, proven)] {}; { d with host := { d.host with spdm := x } }
/-- An SPDM 1.2 request. -/
def spdmReq (code p1 p2 n : Nat) : List Nat := [0x12, code, p1, p2] ++ List.replicate n 1
/-- O47: requests in each phase of a connection, whole and cut short, of another version; sessions opened and not; IDE keys held and not. -/
theorem wit_spdm : (∀ z ∈ [(0xE1, 1, 4), (0xE3, 2, 32), (0x81, 3, 4), (0x82, 3, 8), (0x83, 3, 36), (0xE0, 3, 37), (0xE4, 3, 136), (0xE5, 3, 36), (0xEC, 3, 4)], ∀ k ∈ [0, 1],
      let d := (st (spdmD { phase := z.2.1 - k } k)).dev; let r := spdmReq z.1 0 0 (z.2.2 - 4);
      d.mboxUp = true ∧ leAt r 0 1 = 0x12 ∧ leAt r 1 1 = z.1 ∧ z.2.2 ≤ r.length ∧ decide (d.host.spdm.phase < z.2.1) = (k == 1) ∧ d.flag SEC_STATUS_IDENTITY_OK = (k == 1) ∧
        (spdmReq z.1 0 0 (z.2.2 - 5)).length < z.2.2 + (if z.2.2 = 4 then 1 else 0)) ∧
    (let x := (st (spdmD { phase := 3, opening := [0x10005], sessions := [0x10006], ideKeys := [(0x203, [1])] } 1)).dev.host.spdm;
      x.opening = [0x10005] ∧ x.sessions ≠ [] ∧ pget x.ideKeys 0x203 ≠ none ∧ pget x.ideKeys 0x204 = none) ∧
    (st (spdmD {} 0)).dev.host.spdm.opening = [] ∧ (st (spdmD {} 0)).dev.host.spdm.sessions = [] := by decide +kernel

/-! ## Witnesses: the ledger, snapshots, power, reset and the board -/

/-- Sink i of block 3 on a network in a ring of two, `n` tokens in it, `u` tokens of the block's spill area used, these probes under way. -/
def probeD (net i n u : Nat) (l : List (Fld × Nat)) (p : List Nat) : Dev :=
  let d := spill (ringD net i n l) [(qnum 3 2 1, List.replicate u (tk 3 .data 4))]
  { d with fab := { d.fab with probes := p } }
/-- O48: notices waiting; a sink that is full and one that is not; the detector off, no run; probes in each place. -/
theorem wit_stall : SinkFull (ringD 0 8 3 []) 3 0 8 ∧ SinkFull (ringD 1 3 3 []) 3 1 3 ∧ ¬ SinkFull (ringD 0 8 2 []) 3 0 8 := by unfold SinkFull; decide +kernel
/-- O48: the detector, and probes in each place. -/
theorem wit_detector : (∀ z ∈ [0, 1], (st (ringD 0 8 3 [(FAB_DL_CFG_ENABLE, z)])).dev.flag FAB_DL_CFG_ENABLE = (z == 1)) ∧
    (st (ringD 0 8 3 [])).dev.inRun = true ∧ (st (ringD 0 8 3 [(RIND_STATUS_RUN_STATE, stLoaded)])).dev.inRun = false ∧
    (∀ z ∈ [(3, true), (4, false)], let q := qnum 3 0 8; let d := (st (probeD 0 8 3 0 [] (List.replicate z.1 5 ++ [q]))).dev; decide (q ∈ d.fab.probes.take 4) = z.2) ∧
    (let d := (st (spill (ringD 0 8 3 []) [(qnum 3 0 8, [tk 9 .data 4])])).dev; d.spill (qnum 3 0 8) ≠ [] ∧ (st (ringD 0 8 3 [])).dev.spill (qnum 3 0 8) = []) ∧
    (let d := (st (let d := readyD []; { d with fab := { d.fab with lane := [⟨300, 2, 7, 9, 4, 3⟩] } })).dev; d.fab.lane[0]? = some ⟨300, 2, 7, 9, 4, 3⟩ ∧ d.fab.lane[1]? = none ∧ d.ready = true) := by
  decide +kernel
/-- O48: a probe that closes a cycle and one that does not; a spill that fits the area and one that does not. -/
theorem wit_probe : (∀ z ∈ [(3, true), (2, false)], let q := qnum 3 0 7; let d := (st (probeD 0 7 z.1 0 [] [q])).dev; (d.probe 1024 [] (.sink q)).isSome = z.2) ∧
    (∀ u ∈ [4094, 4095], let d := (st (probeD 0 8 3 u [] [])).dev; d.muUsable 3 = true ∧ decide (d.areaUsed 3 + 2 ≤ 4096) = (u == 4094)) ∧
    (st (ringD 0 7 3 [(BLK_MU_STATUS_SPARES_EXHAUSTED 3, 1)])).dev.muUsable 3 = false := by decide +kernel

/-- O49: selectors and areas that TAKE acts on and does not; nothing in progress, a snapshot of this tick and of one before. -/
theorem wit_take : (∀ z ∈ [(0, false), (1, true), (31, true), (32, false)], let d := (st (snapD [(FAB_OBS_CTRL_TAKE_SELECTOR, z.1)])).dev; d.ready = true ∧
      decide (d.fget FAB_OBS_CTRL_TAKE_SELECTOR ≠ 0 ∧ d.fget FAB_OBS_CTRL_TAKE_SELECTOR < 32) = z.2 ∧ d.fget FAB_SNAP_AREA_SLOT_64K * 2 ^ 16 ≠ 0 ∧ d.fget FAB_SNAP_AREA_SLOTS ≠ 0) ∧
    (∀ k ∈ [1, 2], let d := (st (snapD [(LPX_REGION_KIND 3, k)])).dev; d.inRegion [1, 4] (d.fget FAB_SNAP_AREA_BASE_4K * 2 ^ 12) (d.fget FAB_SNAP_AREA_SLOT_64K * 2 ^ 16 * d.fget FAB_SNAP_AREA_SLOTS) = (k == 1)) ∧
    (∀ t ∈ [7999, 8000], let d := (st (let d := snapD []; { d with obs := { d.obs with latched := some (latch1 t 9) } })).dev;
      d.obs.latched = some (latch1 t 9) ∧ (latch1 t 9).tasks = [] ∧ decide ((latch1 t 9).tick = d.tick) = (t == 8000)) ∧ (st (snapD [])).dev.obs.latched = none ∧
    (∀ z ∈ [0, 1], (st (snapD [(FAB_SNAP_STATUS_BUSY, z)])).dev.flag FAB_SNAP_STATUS_BUSY = (z == 1)) := by decide +kernel

/-- O50: requests that conflict and do not; a domain that follows, one in state FAILED, one behind a trip. -/
theorem wit_requests : ¬ Conflicts (powerD []) 5 0 ∧ Conflicts (powerD [(RIND_STATUS_RUN_STATE, stRunning)]) 0 0 := by
  have h : (powerD []).claimed 5 = false ∧ (powerD [(RIND_STATUS_RUN_STATE, stRunning)]).claimed 0 = true := by decide +kernel
  refine ⟨?_, .inl ⟨by decide, h.2, .inl rfl⟩⟩
  rintro (⟨_, h', _⟩ | ⟨h', _⟩ | ⟨h', _⟩ | ⟨h', _⟩ | ⟨h', _⟩)
  · simp [h.1] at h'
  all_goals omega
/-- O50: a domain that follows its request, one in state FAILED, one behind a trip. -/
theorem wit_domains : (let d := (st (powerD [])).dev; d.ready = true ∧ d.pwr.up = true ∧ d.dom 29 ≠ 3 ∧ d.dom 29 ≠ 0 ∧ d.flag PWR_STATUS_TRIPPED = false) ∧
    (st (powerD [(PWR_DOMAIN_STAT_STATE 5, 3)])).dev.dom 5 = 3 ∧ (st (powerD [(PWR_STATUS_TRIPPED, 1)])).dev.flag PWR_STATUS_TRIPPED = true := by decide +kernel
/-- O50: intervals that show nothing, are late, short of the target, at it and ample, and one under WARN. -/
theorem wit_avc : (∀ z ∈ [(-1, 0), (0, 0), (7, 0), (8, 0), (23, 0), (24, 0), (24, 1)], let x : Int := z.1
      let d := (st (let d := powerD [(PWR_STATUS_WARN, z.2)]; { d with pwr := { d.pwr with winSlack := [(0, x)] } })).dev;
      pget d.pwr.winSlack 0 = some x ∧ d.fget PWR_AVC_CFG_MODE = 0 ∧ d.dom 0 = 2 ∧ d.flag PWR_STATUS_WARN = (z.2 == 1) ∧ d.vfloor 0 < d.volt 0) ∧
    (let d := (st (powerD [])).dev; pget d.pwr.winSlack 0 = none ∧ d.fget PWR_AVC_CFG_TARGET_SLACK_TICKS = 24 ∧ d.fget PWR_AVC_CFG_HYST_TICKS = 8) := by decide +kernel
/-- O50: HOT_LOCK at an ARM, and WARN set and clear. -/
theorem wit_hot_lock : (∀ z ∈ [0, 1], let d := (st (graphD (powerD [(PWR_STATUS_HOT_LOCK, z), (PWR_STATUS_WARN, z)]) 3 [1] [desc 3 0 [] []])).dev;
    d.taskBegins 3 0 3 = true ∧ d.flag PWR_STATUS_HOT_LOCK = (z == 1) ∧ d.flag PWR_STATUS_WARN = (z == 1) ∧ d.ready = true) := by decide +kernel
/-- Readings of 30 °C but for sensors 3 and 29. -/
def readings (a b : Nat) : List Nat := ((List.replicate 31 300).set 3 a).set 29 b
/-- O51: the hottest sensor at and below WARN, CRIT and the trip, in each order of readings. -/
theorem wit_readings : ∀ z ∈ [(800, 0, 3), (799, 799, 3), (0, 900, 29), (1249, 0, 3), (0, 1250, 29)],
    ((readings z.1 z.2.1).length = 31 ∧ ∀ x ∈ readings z.1 z.2.1, x < 2 ^ 16) ∧ Hottest (powerD []) (fun k => sx 16 ((readings z.1 z.2.1).getD k 0)) z.2.2 := by
  have h : ∀ z ∈ [(800, 0, 3), (799, 799, 3), (0, 900, 29), (1249, 0, 3), (0, 1250, 29)],
      ((readings z.1 z.2.1).length = 31 ∧ ∀ x ∈ readings z.1 z.2.1, x < 2 ^ 16) ∧ Counting (powerD []) z.2.2 ∧ ∀ j < 31,
        sx 16 ((readings z.1 z.2.1).getD j 0) ≤ sx 16 ((readings z.1 z.2.1).getD z.2.2 0) ∧
          (sx 16 ((readings z.1 z.2.1).getD j 0) = sx 16 ((readings z.1 z.2.1).getD z.2.2 0) → z.2.2 ≤ j) := by unfold Counting; decide +kernel
  exact fun z hz => ⟨(h z hz).1, (h z hz).2.1, fun j hj => (h z hz).2.2 j (by unfold Counting at hj; omega)⟩
/-- O51: readings in a row at or above CRIT, WARN and TRIPPED set and clear. -/
theorem wit_critical : ∀ n ∈ [0, 1], let d := (st (let d := powerD [(PWR_STATUS_WARN, n), (PWR_STATUS_TRIPPED, n)]; { d with pwr := { d.pwr with critRun := n } })).dev;
    d.pwr.critRun = n ∧ d.flag PWR_STATUS_WARN = (n == 1) ∧ d.flag PWR_STATUS_TRIPPED = (n == 1) ∧ d.flag PWR_STATUS_HOT_LOCK = false := by decide +kernel

/-- What boot meets where all goes well. -/
def bootAll : BootInput := ⟨true, true, true, true, true, ⟨false, 64000, 16⟩, [], [100, 200, 300, 400, 500, 600, 700, 800, 900, 1000]⟩
/-- O53: a device about to boot, one that has booted, one held in reset; flash that fails (whether an image passes rests on the
signature functions, which have no body); a boot at its last step with ports settled and not. -/
theorem wit_boot : bootAll.wf = true ∧ (let s := jst Dev.reset {}; s.jtag.resetLow = false ∧ s.dev.fget SEC_BOOT_BOOT_STEP = 0 ∧ s.dev.fget SEC_BOOT_BOOT_ERR = 0 ∧
      ({ bootAll with flashOk := false } : BootInput).flashOk = false ∧ s.dev.romCheck ≠ 0) ∧
    (∀ z ∈ [0, 1], let d := (st (mkd ((List.range 64).map (fun p => (PL_CFG_TRAIN_EN p, 0)) ++ [(PL_CFG_TRAIN_EN 4, z), (SEC_BOOT_BOOT_STEP, 11)]))).dev;
      d.fget SEC_BOOT_BOOT_STEP = 11 ∧ d.boot.halted = false ∧
        (List.range 64).all (fun p => !d.flag (PL_CFG_TRAIN_EN p) || d.pstate p == psActive || d.pstate p == psDown || d.flag (PL_LASER_LOS (p / 4))) = (z == 0)) := by decide +kernel
/-- O54: the management interface answers and does not; a quiesce already under way and not. -/
theorem wit_smbus : (∀ z ∈ [(0, false, false), (4, false, true), (4, true, false)], let d := (st (let d := powerD [(SEC_BOOT_BOOT_STEP, z.1)]; { d with rce := { d.rce with dead := z.2.1 } })).dev;
      decide (d.fget SEC_BOOT_BOOT_STEP ≠ 0 ∧ d.rce.dead = false) = z.2.2) ∧
    (∀ z ∈ [(stRunning, 1), (stArmed, 0), (stQuiescing, 1)], let d := (st (powerD [(RIND_STATUS_RUN_STATE, z.1), (PWR_STATUS_HOT_LOCK, z.2)])).dev;
      d.runState = z.1 ∧ d.flag PWR_STATUS_HOT_LOCK = (z.2 == 1)) := by decide +kernel
/-- O55: writes of each kind: to a register, by halves and whole; misaligned; to no register; to a configuration register; before READY. -/
theorem wit_writes : (∀ z ∈ [(0x10, 8, true), (0x14, 4, true), (0x14, 8, false), (0x10, 1, false)], decide ((z.2.1 = 4 ∨ z.2.1 = 8) ∧ z.1 % z.2.1 = 0) = z.2.2) ∧
    (regAt 0x80010).isSome = true ∧ regAt 0x3FFFFF8 = none ∧ (regAt (BLK_TILE_CFG 0 0)).any (fun r => r.cfg) = true ∧ (regAt 0x10).any (fun r => !r.cfg) = true ∧
    (st (readyD [])).dev.ready = true ∧ (st (mkd [])).dev.ready = false ∧ (st (readyD [(RIND_STATUS_RUN_STATE, stArmed)])).dev.runState = stArmed := by decide +kernel
/-- O57: a command that is well formed and one that is not. -/
theorem wit_well_formed : (Instr.bypass).wf = true ∧ (Instr.logPop 64).wf = false := by decide +kernel
/-- O59: a state that keeps the test port lawful with an instruction that drives pins in force. -/
theorem wit_lawful : TapLawful (jst Dev.reset { tap := .extest, resetLow := true }) ∧ ¬ TapLawful (jst Dev.reset { tap := .extest }) := by unfold TapLawful; decide +kernel
/-- O60: a tile instruction whose words exist. -/
theorem wit_tile_word : let i := Instr.add x0 1 2 3; i.wf = true ∧ i.issue = some (bareIssue g0) ∧ (tileWord i).isSome = true := by decide +kernel

/-! ## Witnesses: the remaining clauses, the rind to the decoupling queues -/

/-- O16: a frame from before the number expected, across its wrap, and one from beyond it. -/
theorem wit_frame_numbers : ∀ z ∈ [(65534, 2, false), (3, 65535, true)], let d := (st (aligned 2 [frm z.1] [] (runDev [(PL_SEQ_SEQ_VALID 2, 1), (PL_SEQ_NEXT 2, z.2.1)]))).dev;
    d.pstate 2 = psActive ∧ d.flag (PL_STATUS_PAYLOAD_TOO_LONG 2) = false ∧ (frm z.1).seq < 65536 ∧ pgetD d.rind.align 2 [] = [frm z.1] ∧
      d.flag (PL_SEQ_SEQ_VALID 2) = true ∧ decide (0 < seqDiff (frm z.1).seq (d.fget (PL_SEQ_NEXT 2))) = z.2.2 ∧
      decide (seqDiff (frm z.1).seq (d.fget (PL_SEQ_NEXT 2)) < 0) = !z.2.2 := by decide +kernel
/-- O17: a stream that is not enabled, a rind that has stopped, an ESQ that no frame has. -/
theorem wit_no_deadline : (st (runDev [])).dev.flag (RIND_STREAM_CFG_ENABLED 3) = false ∧ ((st (runDev [])).dev.stamp 9).valid = false ∧
    (st (let d := runDev []; { d with rind := { d.rind with stopped := true } })).dev.rind.stopped = true := by decide +kernel
/-- O18: a result with a notice of its ESQ before it, one of a frame released on its stream but not on another, and a tie report
alone. -/
theorem wit_result_order : (∀ z ∈ [(true, st4), (false, { st4 with released := 1 })],
      let d := (st (let d := guarded 5009 (released 0 z.2); if z.1 then laned d else d)).dev;
      d.rind.guard.find? (fun x => x.egress == 1) = some ⟨1, 4, 0x1234567#512, 5009⟩ ∧ d.rind.stopped = false ∧
        d.enabledStreams.find? (fun j => d.fget (RIND_STREAM_CFG_EGRESS_POINT j) == 1) = some 0 ∧ d.tick ≤ 5009 + 16 ∧ d.stamp 4 = z.2 ∧
        decide (∃ n ∈ d.fab.lane, n.esq = 4) = z.1 ∧ (z.1 = false → bitAt (d.stamp 4).released 0 = true ∧ (d.stamp 4).retired = false ∧
          ∃ j ∈ d.enabledStreams, bitAt (d.stamp 4).released j = false)) ∧
    (let d := (st (let d := released 0 st4; { d with fab := { d.fab with ties := [9, 4] } })).dev; d.fab.ties[1]? = some 4 ∧ d.fab.lane = []) := by
  decide +kernel
/-- O21: a step that takes no row. -/
theorem wit_vu_no_row : let d := (st (vuD 0 [] running)).dev;
    d.vuWorks vu3 = some (3, 0) ∧ d.vuFlushing vu3 3 0 = false ∧ (d.vu vu3).running = true ∧ (d.vu vu3).macDone = false ∧ (d.vu vu3).s1 = none ∧
      (d.vuStepAt (vuWindow vu3) (d.vu vu3).step).rowIn = 0 := by decide +kernel
/-- O22: a LOOP row whose step has come and one that no step waits for; the last row of a cycle and one before it. -/
theorem wit_vu_loop : ∀ n ∈ [0, 1], ∀ b ∈ [true, false], let a := { done2 with last := b };
    let d := (st (vuD (uword [(29, 5)]) [] { s2 := some a, loopOver := n })).dev;
    d.vuWorks vu3 = some (3, 0) ∧ (d.vu vu3).s2 = some a ∧ a.done = true ∧ a.zero = false ∧ (d.vuStepAt (vuWindow vu3) a.step).outFmt = 5 ∧
      (d.vu vu3).loopOver = n ∧ a.last = b ∧ d.stageOf (qnum 3 0 90) = none ∧ d.stageOf (qnum 3 1 8) = none := by decide +kernel
/-- O24: the other AGU requests as well: AGU A at rest, AGU A and AGU B after losing the grant. -/
theorem wit_mu_port : ∀ z ∈ [(0, none), (0, some 0), (1, some 1)],
    let l := [(BLK_MU_AGU_CFG_MODE 3 1, 1), (BLK_MU_AGU_CFG_WRAP 3 1, 10)];
    let d := (st (let d := fill (muD 1 0 l {} [t9]) [(qnum 3 0 89, [t9])]; { d with fab := { d.fab with portLost := z.2.toList.map (fun a => (3, a)) } })).dev;
    d.muWorks 3 = true ∧ d.muFlushing 3 = false ∧ d.badLocs (muId 3) = [] ∧ 0 < d.fget (BLK_MU_AGU_CFG_WRAP 3 z.1) ∧
      d.aguRequests 3 (1 - z.1) = true ∧ pget d.fab.portLost 3 = z.2 ∧ d.fget (BLK_MU_AGU_CFG_MODE 3 z.1) = 1 ∧ d.aguFree 3 z.1 = true ∧
      Ready d (d.aguSink 3 z.1) t9 := by
  unfold Ready; decide +kernel
/-- The MU of `muD` in DQ at AGU a, with these words asked for, a request, and data tokens. -/
def dqA (a : Nat) (l : List DqEntry) (t : Token) (r : List Token) : Dev :=
  let d := muD 0 0 [(BLK_MU_AGU_CFG_MODE 3 a, 6)] {} []
  fill { d with fab := { d.fab with dq := pput 3 l d.fab.dq } } [(qnum 3 0 (88 + a), [t]), (qnum 3 1 (12 + a), r)]
/-- A word under tag 15, come or still to come. -/
def word15 (here : Bool) : DqEntry := ⟨15, 64, 77#512, here⟩
/-- O25: at AGU A and AGU B: FETCH under a tag that is free, and one that is held; WAIT for a word that is there, for one to come, and
for one not asked for; POST inside the window and beyond it, with and without its data token; a reserved operation. -/
theorem wit_dq_requests : ∀ a ∈ [0, 1], ∀ z ∈ [([], dqTok 0 15 16383), ([word15 true], dqTok 0 15 0), ([], dqTok 0 0 16384), ([word15 true], dqTok 1 15 0),
      ([word15 false], dqTok 1 15 0), ([], dqTok 1 15 0), ([], dqTok 2 0 16383), ([], dqTok 2 0 16384), ([], dqTok 15 0 0)], ∀ r ∈ [[], [t9], [tk 8 .data 1]],
    let d := (st (dqA a z.1 z.2 r)).dev;
    d.muWorks 3 = true ∧ d.muFlushing 3 = false ∧ DqAlone d 3 a ∧ (d.agu 3 a).op = 0 ∧ Ready d (qnum 3 0 (88 + a)) z.2 ∧ d.aguFree 3 a = true ∧
      d.dq 3 = z.1 ∧ d.tokens (qnum 3 0 (88 + a)) = [z.2] ∧ d.headOf (qnum 3 1 (12 + a)) = r.head? ∧
      d.fget (BLK_MU_DQ_SIZE_MIB 3) * 2 ^ 20 = 64 * 16384 := by
  unfold DqAlone Ready; decide +kernel
/-- O25: the read of a word that no WAIT, or the WAIT of either AGU, has come for. -/
theorem wit_fetch_complete : (∀ r ∈ [(⟨true, 0⟩ : LpRead), ⟨false, 3⟩], (Instr.fetchComplete 3 15 r).wf = true) ∧
    (∀ a ∈ [0, 1], ∀ op ∈ [0, 4], let d := (st (let d := dqA a [⟨3, 0, 5#512, true⟩, word15 false] (dqTok 1 3 0) []
        { d with fab := { d.fab with agus := pput (6 + a) { op := op, index := 15, esq := 9 } d.fab.agus } })).dev;
      d.powered 3 = true ∧ (d.dq 3).find? (fun y => y.tag == 15 && !y.here) = some (word15 false) ∧ (d.dq 3).find? (fun y => y.tag == 15) = some (word15 false) ∧
        d.muWorks 3 = true ∧ d.aguMode 3 a = 6 ∧ (d.agu 3 a).op = op ∧ (d.agu 3 a).index = 15 ∧ (d.agu 3 (1 - a)).op ≠ 4 ∧ d.aguFree 3 a = true) := by
  decide +kernel
/-- O25: FLUSH at every input of an MU that works, and of a failed one with a request in hand; FLUSH at one input, none at another. -/
theorem wit_mu_flush : (∀ z ∈ [(0, 0), (1, 4)], ∀ rest ∈ [[tk 5 .flush 0], [t9, tk 5 .flush 0]],
      let d := (st (let d := fill (muD 6 0 [(BLK_MU_STATUS_LOADED 3, 1), (BLK_MU_STATUS_FAILED 3, z.1)] { op := z.2 } [tk 5 .flush 0]) [(qnum 3 1 12, rest)]; d)).dev;
      d.powered 3 = true ∧ d.flag (BLK_MU_STATUS_LOADED 3) = true ∧ (∀ i ∈ d.muIns 3, i.1 = false → NoGap d i.2) ∧ 2 ≤ (d.muIns 3).length ∧
        (d.flag (BLK_MU_STATUS_FAILED 3) = true ∨ ∀ k < 2, (d.agu 3 k).op = 0) ∧
        (rest.length = 1 → (∀ i ∈ d.muIns 3, ∃ t ∈ d.muHead i, t.kind = .flush) ∧
          ∀ o ∈ ((List.range 2).filter (fun k => [1, 3, 4, 5, 6].contains (d.aguMode 3 k))).map (fun k => qnum 3 (d.aguSource 3 k).1 (d.aguSource 3 k).2),
            d.stageOf o = none)) ∧
    (let d := (st (fill (muD 6 0 [(BLK_MU_STATUS_LOADED 3, 1)] {} [tk 5 .flush 0]) [(qnum 3 1 12, [t9])])).dev;
      d.powered 3 = true ∧ (∀ i ∈ d.muIns 3, i.1 = false → NoGap d i.2) ∧ (∃ i ∈ d.muIns 3, ∃ t ∈ d.muHead i, t.kind = .flush) ∧
        (∃ i ∈ d.muIns 3, ∀ t ∈ d.muTokens i, t.kind ≠ .flush) ∧ d.flag (BLK_MU_STATUS_FAILED 3) = false ∧ ∀ k < 2, (d.agu 3 k).op = 0) := by
  unfold NoGap; decide +kernel
/-- O29: ARM of a run whose weight slot names a bank that the library does not hold. -/
theorem wit_arm_fails : let im : Image := { smallLoaded with slots := [⟨9, 0x55, 4⟩] };
    let d := (st (let d := armD stLoaded 15 []; { d with rce := { d.rce with image := some im } })).dev;
    let w := (d.await 3 0 .awake).domainsFollow;
    d.taskBegins 3 0 3 = true ∧ d.runState = stLoaded ∧ d.flag PWR_STATUS_HOT_LOCK = false ∧ d.tableOk (d.taskArg 3 0 8 8) = true ∧
      d.tableOk (d.taskArg 3 0 0x10 8) = true ∧ d.rce.image = some im ∧ d.armErr im = none ∧ d.rce.waits = [] ∧ w.allAwake = true ∧
      (w.armSteps im (w.taskArg 3 0 0 4) (w.taskArg 3 0 8 8) (w.taskArg 3 0 0x10 8)).2.isSome = true := by decide +kernel
/-- O31: a COPY of three words of the vat, one of which fails every read. -/
theorem wit_copy_vat : let d := (st (copyD (vatBase + 64) 0x8000 130)).dev;
    d.taskBegins 3 0 11 = true ∧ d.taskArg 3 0 0 8 = vatBase + 64 ∧ d.taskArg 3 0 0x10 8 = 130 ∧ d.rangeOk false (vatBase + 64) 130 = true ∧
      d.rangeOk true (d.taskArg 3 0 8 8) 130 = true ∧ Memory.wf d.mem = true ∧ inVat (vatBase + 64) = true ∧ inVat (vatBase + 64 + 130 - 1) = true ∧
      1 < 130 / 64 ∧ 1 ∈ [1] ∧ inVat (vatBase + 64 + 64 * 1) = true := by decide +kernel
/-- O34: a port at Peust 1; a port that is not the source before the time is valid, and a source that is no port; the backup's symbol
while this device's own step is pending, and while one of its source is. -/
theorem wit_symbol_ports : (let d := (st (timeD 2 [(PL_STATUS_VERSION 4, 1)])).dev; d.pstate 4 = psActive ∧ d.version 4 = 1) ∧
    (∀ z ∈ [(2, 6), (0, 4)], let d := (st (timeD z.1 [(PL_CFG_ROLE 6, rolePeer), (PL_STATUS_STATE 6, psActive), (PL_STATUS_VERSION 6, 2)])).dev;
      d.timeLink z.2 = true ∧ d.flag TU_STATUS_BASE_LOST = false ∧ d.flag TU_STATUS_TIME_VALID = false ∧
        (d.selSource ≠ 2 ∨ z.2 ≠ d.fget TU_CTRL_SOURCE_PORT)) ∧
    (∀ own ∈ [true, false], let d := (st (pending [{ step5 with own := own }] (timeD 2 [tv, (TU_STATUS_ON_BACKUP, 1), (PL_CFG_ROLE 5, rolePeer),
        (PL_STATUS_STATE 5, psActive), (PL_STATUS_VERSION 5, 2)]))).dev;
      d.timeLink 5 = true ∧ d.flag TU_STATUS_TIME_VALID = true ∧ d.tu.source = 2 ∧ d.sourcePort = 5 ∧ d.pendingDelta 9 = none ∧ 9 ≠ d.epoch ∧
        d.flag TU_STATUS_ON_BACKUP = true ∧ d.ownPending = own) := by decide +kernel
/-- The tick of an opening that takes effect with the sequencer stopped, as O34 states it. -/
def openTick (d : Dev) (o : Opening) : Nat := max (o.since + 1) (match o.stepAt with
  | none => d.tick
  | some t =>
    let past := stampDiff (d.ns % 2 ^ 48) (t % 2 ^ 48)
    if 0 ≤ past then d.tick else d.tick + ceilDiv ((d.ns + (-past).toNat) * 2 ^ 32 - d.time) d.inc)
/-- O34: of two openings, the unannounced one before one announced for 20 µs; and of two announced ones, the earlier, whichever stands
first. -/
theorem wit_opening_order : ∀ l ∈ [[step5, ⟨-5000, 4, none, false, 99, some 3, 8000⟩], [step5, { step5 with stepAt := some 15000, epoch := 6 }],
      [{ step5 with stepAt := some 9000 }, step5]], let d := (st (pending l (timeD 2 [tv]))).dev;
    d.flag RIND_STATUS_SEQ_RUNNING = false ∧ ∃ o ∈ d.tu.openings, ∀ x ∈ d.tu.openings, x ≠ o → openTick d o < openTick d x := by decide +kernel
/-- Entries of the schedule in a device whose time is valid. -/
def schedsD (l : List (Fld × Nat)) (es : List (Nat × SchedEntry)) : Dev := let d := timeD 0 ([tv] ++ l); { d with tu := { d.tu with sched := es } }
/-- An armed entry of a time and action. -/
def armed (tm act : Nat) : SchedEntry := { time := tm, action := act, st := 2 }
/-- O35: nothing armed is due, or one entry, of action 6, is. -/
theorem wit_sched_due : (∀ es ∈ [[], [(5, armed 20000 1)]], let d := (st (schedsD [] es)).dev;
      d.ready = true ∧ d.flag TU_STATUS_TIME_VALID = true ∧ ∀ y ∈ d.tu.sched, y.2.st = 2 → d.tick < d.fireTick y.2) ∧
    (let d := (st (schedsD [] [(5, armed 9000 6), (9, armed 20000 1)])).dev;
      d.ready = true ∧ d.flag TU_STATUS_TIME_VALID = true ∧ d.tu.openings = [] ∧ (5, d.sch 5) ∈ d.tu.sched ∧ d.sch 5 = armed 9000 6 ∧
        (∀ z ∈ d.tu.sched, z.2.st = 2 → d.fireTick z.2 ≤ d.tick → z = (5, d.sch 5)) ∧ d.tu.sched.Nodup ∧ d.fireTick (d.sch 5) ≤ d.tick) := by
  decide +kernel
/-- O35: the first of two entries due, and the second; an entry that has fired ahead of its command; none armed. -/
theorem wit_sched_order : (∀ i ∈ [5, 9], let d := (st (schedsD [] [(5, armed 12000 6), (9, armed 11000 6), (11, armed 11000 1)])).dev;
      (d.tu.sched.map Prod.fst).Pairwise (· < ·) ∧ d.firstDue (d.dueBy i) = some 9 ∧ d.boundaryOpens (d.fireTick (d.sch 9)) = false ∧ d.tu.openings = [] ∧
        (d.tick, i) ∉ d.tu.ahead ∧ (d.tick, 9) ∉ d.tu.ahead) ∧
    (let d := (st (let d := schedsD [] []; { d with tu := { d.tu with ahead := [(8000, 5)] } })).dev; (d.tick, 5) ∈ d.tu.ahead) ∧
    (let d := (st (schedsD [] [(5, { time := 9 })])).dev; (∀ y ∈ d.tu.sched, y.2.st ≠ 2) ∧ (d.tick, 5) ∉ d.tu.ahead) := by decide +kernel
/-- O35: an opening before the only armed entry, with the sequencer stopped; one at the next boundary, which comes before the entry. -/
theorem wit_sched_opening : (let d := (st (pending [{ step5 with stepAt := some 9000 }] (schedsD [] [(5, armed 20000 6)]))).dev;
      let o := { step5 with stepAt := some 9000 };
      d.firstDue (d.dueBy 5) = some 5 ∧ d.flag RIND_STATUS_SEQ_RUNNING = false ∧ d.tu.openings = [o] ∧ d.openingTick o ≤ d.fireTick (d.sch 5) ∧
        (∀ y ∈ d.tu.sched, y = (5, d.sch 5)) ∧ d.tu.sched.Nodup ∧ d.flag TU_STATUS_TIME_VALID = true) ∧
    (let d := (st (let d := pending [{ step5 with stepAt := none }] (schedsD [(RIND_STATUS_SEQ_RUNNING, 1), (RIND_FRAME_PERIOD_PERIOD_TICKS, 1000)] [(5, armed 20000 6)])
        { d with rind := { d.rind with lastBoundary := 7000 } })).dev;
      d.firstDue (d.dueBy 5) = some 5 ∧ d.boundaryOpens (d.fireTick (d.sch 5)) = true ∧ (d.tick, 5) ∉ d.tu.ahead) := by decide +kernel
/-- O35: an entry that is the first due, as `schedD` holds it, of each action, with the line's level not yet and already changed in that
tick; a SNAPSHOT entry whose area is bad. -/
theorem wit_sched_fires : (∀ act ∈ [1, 2, 3, 4, 5, 6, 7, 8, 9], ∀ tm ∈ [9000, 10000, 10500], ∀ lv ∈ [[], [(7, 8400)], [(7, 8000)]],
      let d := (st (let d := schedD [] 5 { time := tm, action := act, arg := 7, period := 1000, st := 2 }
        { d with tu := { d.tu with levelAt := lv, edges := [⟨7, 10008000, 2, true⟩] } })).dev;
      (d.sch 5).st = 2 ∧ (d.sch 5).late = false ∧ (d.tick, 5) ∉ d.tu.ahead ∧ d.firstDue (d.fireTick (d.sch 5)) = some 5 ∧
        d.boundaryOpens (d.fireTick (d.sch 5)) = false ∧ d.tu.openings = [] ∧ d.fireTick (d.sch 5) = (if tm = 10500 then 8400 else 8000)) ∧
    (let d := (st (schedD [(FAB_SNAP_AREA_SLOTS, 4), (FAB_SNAP_AREA_SLOT_64K, 1)] 5 { time := 9000, action := 9, arg := 3, st := 2 })).dev;
      d.snapArea = true ∧ d.snapAreaOk = false ∧ selectorOk ((d.sch 5).arg % 256) = true) := by decide +kernel

/-! ## Witnesses: the remaining clauses, the ports to the board -/

/-- An ACTIVE INPUT port that no QUARANTINE is near, retries on, this held for it. -/
def inputD (v : Nat) (x : Port) : Dev := portD roleInput psActive v [(PL_CFG_RETRY_EN 4, 1), (PL_QUAR_CFG_LIMIT 4, 0)] x
/-- O37: short runs of bad blocks on Peust 1 and 2: frames that break no rule, or one that a retry may mend, or another; asked for again
already and not; while a retry of this frame is awaited. -/
theorem wit_frame_retries : ∀ v ∈ [1, 2], ∀ z ∈ [(rxGood, none), (rxBad, some 1), (rxPay, some 3), ({ rxGood with flagged := [0] }, some 4)],
    ∀ x ∈ [({} : Port), { retried := [7] }, { retryFor := some 7 }, { badRun := 1 }], let d := (st (inputD v x)).dev;
    z.1.wf = true ∧ d.pstate 4 = psActive ∧ d.version 4 = v ∧ d.flag (PL_CFG_RETRY_EN 4) = true ∧ d.role 4 = roleInput ∧ Calm d 4 ∧
      (d.port 4).retryFor = x.retryFor ∧ (d.port 4).retried = x.retried ∧ (flaggedRun z.1 (d.port 4).badRun).1 < d.badLimit 4 ∧
      d.frameFault 4 z.1 = z.2 ∧ (badHcrc z.1 = true ↔ z.2 = some 1) := by
  unfold Calm; decide +kernel
/-- O37: a frame all of whose blocks are flagged, which reaches the limit of bad blocks in a row. -/
theorem wit_frame_drop : ∀ v ∈ [1, 2], let f := { rxGood with flagged := [0] };
    let d := (st (inputD v { badRun := if v = 1 then 63 else 31 })).dev;
    (∀ k < 1, 64 * k < 16 + f.payload.length → k ∈ f.flagged) ∧ 16 + f.payload.length ≤ 64 * 1 ∧ (d.port 4).retryFor = none ∧
      d.badLimit 4 ≤ (flaggedRun f (d.port 4).badRun).1 ∧ d.frameFault 4 f = some 4 ∧ badHcrc f = false ∧ Calm d 4 := by
  unfold Calm; decide +kernel
/-- O38: a port entering NEGOTIATE that has heard nothing; the first good word, and one before the partner selects. -/
theorem wit_first_word : (let x := (st (trainD psDetect {})).dev.port 4; x.offer = none ∧ x.echo = 0 ∧ x.ack = false) ∧
    (let d := (st (trainD psNegotiate {})).dev; let w := trainWord 2 5 0 0 0;
      (d.port 4).offer = none ∧ w / 2 ^ 48 % 2 ^ 4 = 0 ∧ w / 2 ^ 52 % 2 ^ 4 = 2 ∧ w / 2 ^ 32 % 2 ^ 16 ≠ (d.port 4).nonce ∧ Calm d 4) := by
  unfold Calm; decide +kernel
/-- O38: ports of a group that came on, with a test setting, with their laser lost, and with neither. -/
theorem wit_group_ports : ∀ z ∈ [(3, 0), (0, 1), (0, 0)],
    let d := (st (let d := portD rolePeer psOff 0 [(PL_CFG_TRAIN_EN 4, 1), (PWR_DOMAIN_STAT_STATE 20, 2), (PL_LANE_PRBS_TX_PATTERN 4 1, z.1), (PL_LASER_LOS 1, z.2)] {}
      { d with pwr := { d.pwr with groupsOn := [(0, 6000)] } })).dev;
    pget d.pwr.groupsOn 0 = some 6000 ∧ d.pstate 4 = psOff ∧ d.portOn 4 = true ∧ d.testOn 4 = (z.1 == 3) ∧ d.laserLost 4 = (z.2 == 1) := by decide +kernel
/-- O39: an exit burst from electrical idle, and a write that sends none; ALIGN blocks 200 ns after an exit burst, a span after the last
one, and at once. -/
theorem wit_idle_align : (∀ z ∈ [0, 1], let d := (st (portD rolePeer psIdle 2 [(PL_CTRL_IDLE_REQ 4, z)] {})).dev;
      d.ready = true ∧ d.pstate 4 = psIdle ∧ d.flag (PL_CTRL_IDLE_REQ 4) = (z == 1)) ∧
    (∀ v ∈ [1, 2, 3], ∀ z ∈ [(psIdle, some 7900, none), (psActive, none, none), (psActive, none, some 9000000)],
      let d := (st (portD rolePeer z.1 v [] { version := v, exiting := z.2.1, alignPs := z.2.2 })).dev;
      d.transmits 4 = true ∧ (d.port 4).version = v ∧ (d.port 4).exiting = z.2.1 ∧ (d.port 4).alignPs = z.2.2) := by decide +kernel
/-- O41: test settings where the port stays as it is, where it enters TEST, and where it leaves it with its laser lost and not. -/
theorem wit_test_states : (∀ s ∈ [psOff, psQuarantine, psDown, psActive], let d := (st (portD rolePeer s 2 [] {})).dev; d.ready = true ∧ d.testAllowed 4 = true ∧ d.pstate 4 = s) ∧
    (∀ z ∈ [0, 1], let d := (st (portD rolePeer psTest 2 [(PL_LASER_LOS 1, z)] {})).dev;
      d.testAllowed 4 = true ∧ d.pstate 4 = psTest ∧ d.laserLost 4 = (z == 1) ∧ ∀ l < 4, d.fget (PL_LANE_PRBS_TX_PATTERN 4 l) = 0 ∧ d.fget (PL_LANE_PRBS_RX_PATTERN 4 l) = 0) := by
  decide +kernel
/-- O41: what a lane's checker hears in each loopback with equal and with other patterns, and what a port sends in each state. -/
theorem wit_patterns : (∀ loop ∈ [0, 1, 2, 3], ∀ tx ∈ [0, 3, 4, 7], ∀ rx ∈ [0, 1, 3, 4, 6, 7],
      let d := (st (portD rolePeer psTest 2 [(PL_CTRL_LOOPBACK 4, loop), (PL_LANE_PRBS_TX_PATTERN 4 1, tx), (PL_LANE_PRBS_RX_PATTERN 4 1, rx)] {})).dev;
      d.pstate 4 = psTest ∧ d.fget (PL_CTRL_LOOPBACK 4) = loop ∧ d.fget (PL_LANE_PRBS_TX_PATTERN 4 1) = tx ∧ d.fget (PL_LANE_PRBS_RX_PATTERN 4 1) = rx ∧
        (d.port 4).dark = none ∧ (d.port 4).reqEnd = none ∧ (d.port 4).version ≠ 1 ∧ d.transmits 4 = true ∧
        d.checkerSees 4 1 = (1 ≤ rx && rx ≤ 6 && (loop == 0 || loop == 3 || tx == rx))) ∧
    (∀ s ∈ [psDetect, psNegotiate, psEqualise], ∀ v ∈ [1, 2], let d := (st (portD rolePeer s 2 [] { version := v })).dev;
      d.transmits 4 = true ∧ (d.port 4).reqEnd = none ∧ d.pstate 4 = s ∧ (d.port 4).version = v) := by decide +kernel
/-- O41: a DOWN port whose laser comes back, above its ALARM threshold. -/
theorem wit_laser_back : let d := (st (portD rolePeer psDown 2 [(PL_LASER_LOS_UW 1, 500), (PL_LASER_LOS 1, 1), (PL_LASER_ALARM_UW 1, 600), (PL_STATUS_FAIL_CAUSE 4, 4),
      (PL_CFG_AUTO_RETRY 4, 1), (PL_CFG_TRAIN_EN 4, 1), (PWR_DOMAIN_STAT_STATE 20, 2)] {})).dev;
    ¬ (700 < d.fget (PL_LASER_LOS_UW 1)) ∧ ¬ (100 * 700 < 102 * d.fget (PL_LASER_LOS_UW 1)) ∧ d.fget (PL_LASER_ALARM_UW 1) < 700 ∧ d.pstate 4 = psDown ∧
      d.fget (PL_STATUS_FAIL_CAUSE 4) = 4 ∧ d.flag (PL_CFG_AUTO_RETRY 4) = true ∧ d.portOn 4 = true := by decide +kernel
/-- A burst that has fetched these units, the next at this address. -/
def fetchedD (a : Nat) (us : List (List Nat)) : Dev :=
  let d := memD [(DP_ADDR_ADDR, a / 8), (DP_STATUS_AVAIL, us.length), (DP_STATUS_BUSY, 1), (DP_CTRL_INC, 1)]
  { d with host := { d.host with dp := { d.host.dp with buffer := us } } }
/-- O42: a window read of units of LPDDR5X, of the vat, and of registers; with units enough and too few; and LPDDR5X down. -/
theorem wit_window_reads : (∀ a ∈ [0x1000, vatBase + 64, 0x1402000000], let d := (st (fetchedD a [[1, 2, 3, 4, 5, 6, 7, 8], [9, 8, 7, 6, 5, 4, 3, 2]])).dev;
      d.ready = true ∧ dpAccess 0 8 = true ∧ dpAccess 0 64 = true ∧ d.host.dp.buffer.length = 2 ∧ 8 * d.fget DP_ADDR_ADDR = a ∧ d.lpUp = true ∧
        (∀ k < 2, inVat (8 * ((d.fget DP_ADDR_ADDR + k * d.dpStep) % 2 ^ 61)) = (a == vatBase + 64))) ∧
    0x1000 < lpSize ∧ lpSize ≤ vatBase ∧ lpSize ≤ 0x1402000000 ∧ (st (mkd [(PWR_DOMAIN_STAT_STATE 28, 0)])).dev.lpUp = false := by decide +kernel
/-- O43: an entry written to LPDDR5X and to the host, at once and under a holdoff. -/
theorem wit_cq_places : ∀ loc ∈ [0, 1], ∀ h ∈ [0, 10], let d := (st (let d := heldD [cqEnt none] [(GLB_CQ_BASE_LOC, loc), (GLB_CQ_CFG_HOLDOFF_US, h)]; { d with host := { d.host with linkDown := false } })).dev;
    d.host.hold = [cqEnt none] ∧ d.flag GLB_CQ_CFG_ENABLE = true ∧ d.host.linkDown = false ∧ d.cqUsed + 1 < d.cqSize ∧
      d.flag GLB_CQ_BASE_LOC = (loc == 1) ∧ d.fget GLB_CQ_CFG_HOLDOFF_US = h := by decide +kernel
/-- O46: ATTEST of an identified device while a run task is in progress and not. -/
theorem wit_attest : ∀ op ∈ [3, 0x100], let d := (st (graphD (boxD [(SEC_STATUS_IDENTITY_OK, 1)] {}) 3 [1] [desc op 0 [] []])).dev;
    d.mboxUp = true ∧ d.mboxAccepts 0xC011 = true ∧ d.flag SEC_STATUS_IDENTITY_OK = true ∧ d.runTaskRuns = (op == 3) := by decide +kernel
/-- O47: keys of the link's stream and of selective streams, with room for one more stream and with none; a key of a stream that has one. -/
theorem wit_ide_streams : ∀ z ∈ [([(0x000, [1]), (0x101, [1])], 2, true), ([(0x000, [1]), (0x101, [1]), (0x200, [1])], 3, false), ([(0x000, [1]), (0x101, [1]), (0x200, [1])], 2, true)],
    let x := (st (spdmD { phase := 3, sessions := [7], ideKeys := z.1 } 1)).dev.host.spdm;
    let streams := ((x.ideKeys.map Prod.fst).filter (fun k => (k / 65536 == 1) == false)).map (fun k => k / 256 % 256);
    x.sessions ≠ [] ∧ (∀ y ∈ x.ideKeys, y.1 < 2 ^ 17) ∧ decide (z.2.1 ∈ streams ∨ streams.eraseDups.length < 3) = z.2.2 := by decide +kernel
/-- O48: a full sink whose spill area is full, and one whose spill area has room; a probe that has returned, with no notice waiting. -/
theorem wit_spill_full : (∀ u ∈ [4094, 4095], let d := (st (spill (probeD 0 8 3 u [] []) [(qnum 3 0 8, [tk 9 .data 4])])).dev;
      d.spill (qnum 3 0 8) ≠ [] ∧ d.fget (BLK_SW_DEPTH 3 0 8) < (d.tokens (qnum 3 0 8)).length ∧ d.sinkRoom 3 0 8 = (u == 4094)) ∧
    (let d := (st (probeD 0 7 3 0 [] [qnum 3 0 7])).dev;
      qnum 3 0 7 ∈ d.fab.probes.take 4 ∧ d.flag FAB_DL_CFG_ENABLE = true ∧ d.inRun = true ∧ d.fab.lane = []) := by decide +kernel
/-- O51: a second critical reading in a row, and the first that trips. -/
theorem wit_second_reading : let d := (st (let d := powerD [(RIND_STATUS_RUN_STATE, stRunning)]; { d with pwr := { d.pwr with critRun := 1 } })).dev;
    (d.fget PWR_THERM_CFG_CRIT_DC : Int) ≤ sx 16 ((readings 1249 0).getD 3 0) ∧ d.pwr.critRun = 1 ∧ d.flag PWR_STATUS_HOT_LOCK = false ∧
      ¬ (∃ k < 31, (1250 : Int) ≤ sx 16 ((readings 1249 0).getD k 0)) := by decide +kernel
/-- O53: at the last step of start-up an image that raises the least SVN, and one that does not. -/
theorem wit_boot_raises : ∀ z ∈ [(5, true), (7, false)], let d := (st (let d := mkd ((List.range 64).map (fun p => (PL_CFG_TRAIN_EN p, 0)) ++ [(SEC_BOOT_BOOT_STEP, 11), (SEC_FW_SVN, 6)]);
      { d with flash := [(0x20, 1)], owner := { d.owner with minSvn := z.1 } })).dev;
    d.fget SEC_BOOT_BOOT_STEP = 11 ∧ d.boot.halted = false ∧ (leAt d.flashImage 0x20 4).testBit 0 = true ∧ decide (d.owner.minSvn < d.fget SEC_FW_SVN) = z.2 := by decide +kernel
/-- O55: writes of BAR2's words: a vector's control with its signal pending and not. -/
theorem wit_bar2 : ∀ z ∈ [(2, true), (0, false)], let d := (st (let d := readyD []; { d with host := { d.host with msixPending := z.1 } })).dev;
    bitAt d.host.msixPending 1 = z.2 ∧ 0x8003 + 4 * 1 < 2 ^ 16 := by decide +kernel

/-! ## The line code of the ports -/

/-- R346: the minimal polynomials of α, α³ and α⁵ for x¹⁰ + x³ + 1, as the tables of irreducible polynomials give them (in octal 2011,
2017, 2415), and a generator of degree 30. -/
theorem test_bch_generator : [1, 3, 5].map (fun k => polyNat (minPoly (gfAlpha k))) = [0o2011, 0o2017, 0o2415] ∧ bchGen.log2 = 30 := by decide +kernel
/-- R345: Gray coding of two bits a symbol, most significant first: 00, 01, 11, 10 are the levels 0, 1, 2, 3. -/
theorem test_pam4 : pam4Byte 0b00011110 = [0, 1, 2, 3] := by decide +kernel
/-- R345, R347, R348: byte b is on lane b mod 4, so lane 2's share of ALIGN shows 0xC2. -/
theorem test_align_lanes : (List.range 4).map (fun l => alignLane (laneShare l alignBlock.content)) = [some 0, some 1, some 2, some 3] := by decide +kernel
/-- R346, R349: a frame's first block starts it, the next carries data, both filled with zeros. -/
theorem test_frame_blocks : (frameAsBlocks (List.replicate 70 9)).map (fun b => (b.sh.bits, b.content.sum)) = [(3, 576), (1, 54)] := by decide +kernel

end Sys2Proof.Tests
end

section
/-!
PROOFS. REGISTER_WRITE (O55): the masked merge of a write, what each address answers, fields by their access codes, the registers whose
write is another command, and the registers with conditions of their own.
-/

namespace Sys2Proof.Machine

/-! ## Bits of a masked merge -/

/-- Numbers with no common bit add without a carry. -/
theorem add_eq_or_of_and_eq_zero {a b : Nat} (h : a &&& b = 0) : a + b = a ||| b := by
  obtain ⟨w, ha, hb⟩ : ∃ w, a < 2 ^ w ∧ b < 2 ^ w :=
    ⟨a + b, Nat.lt_of_le_of_lt (Nat.le_add_right a b) Nat.lt_two_pow_self, Nat.lt_of_le_of_lt (Nat.le_add_left b a) Nat.lt_two_pow_self⟩
  have hz : BitVec.ofNatLT a ha &&& BitVec.ofNatLT b hb = 0#w := BitVec.eq_of_toNat_eq (by simpa using h)
  simpa [BitVec.add_eq_or_of_and_eq_zero _ _ hz] using (BitVec.toNat_add_of_and_eq_zero hz).symm

theorem testBit_sub_and (n m i : Nat) : (n - (n &&& m)).testBit i = (n.testBit i && !m.testBit i) := by
  have hz : (n &&& m) &&& (n ^^^ (n &&& m)) = 0 := by
    apply Nat.eq_of_testBit_eq; intro j; cases hn : n.testBit j <;> cases hm : m.testBit j <;> simp [hn, hm]
  have ho : (n &&& m) ||| (n ^^^ (n &&& m)) = n := by
    apply Nat.eq_of_testBit_eq; intro j; cases hn : n.testBit j <;> cases hm : m.testBit j <;> simp [hn, hm]
  have hs := add_eq_or_of_and_eq_zero hz
  have : n - (n &&& m) = n ^^^ (n &&& m) := by omega
  rw [this]
  cases hn : n.testBit i <;> cases hm : m.testBit i <;> simp [hn, hm]

/-- The bits of a mask taken from one number, the others from another. -/
theorem testBit_merge (n v m i : Nat) :
    ((n - (n &&& m)) + (v &&& m)).testBit i = if m.testBit i then v.testBit i else n.testBit i := by
  have hz : (n - (n &&& m)) &&& (v &&& m) = 0 := by
    apply Nat.eq_of_testBit_eq; intro j; cases hm : m.testBit j <;> simp [testBit_sub_and, hm]
  rw [add_eq_or_of_and_eq_zero hz]
  cases hm : m.testBit i <;> simp [testBit_sub_and, hm]

/-! ## A write that has reached a register (R10) -/

theorem testBit_regW_mask (old addr size data i : Nat) :
    (regW old addr size data).mask.testBit i = decide (8 * (addr % 8) ≤ i ∧ i < 8 * (addr % 8) + 8 * size) := by
  simp only [regW, Nat.testBit_shiftLeft, Nat.testBit_two_pow_sub_one, ← Bool.decide_and, ge_iff_le]
  congr 1
  exact propext (by omega)

/-- R10: the value of the register as the write would leave it. -/
theorem testBit_regW_v (old addr size data i : Nat) :
    (regW old addr size data).v.testBit i = if 8 * (addr % 8) ≤ i ∧ i < 8 * (addr % 8) + 8 * size
      then data.testBit (i - 8 * (addr % 8)) else old.testBit i := by
  have hm := testBit_regW_mask old addr size data i
  have hv : (regW old addr size data).v.testBit i = if (regW old addr size data).mask.testBit i
      then (data <<< (8 * (addr % 8))).testBit i else old.testBit i := testBit_merge _ _ _ i
  rw [hv, hm]
  by_cases h : 8 * (addr % 8) ≤ i <;> simp [h]

theorem testBit_regW_ones (old addr size data i : Nat) :
    (regW old addr size data).ones.testBit i =
      (decide (8 * (addr % 8) ≤ i ∧ i < 8 * (addr % 8) + 8 * size) && data.testBit (i - 8 * (addr % 8))) := by
  have ho : (regW old addr size data).ones = (data <<< (8 * (addr % 8))) &&& (regW old addr size data).mask := rfl
  rw [ho, Nat.testBit_and, testBit_regW_mask, Nat.testBit_shiftLeft]
  by_cases h : 8 * (addr % 8) ≤ i <;> simp [h, Bool.and_comm]

/-- R10: the bytes past the size of a write do not count. -/
theorem regW_mod (old addr size data : Nat) : regW old addr size (data % 2 ^ (8 * size)) = regW old addr size data := by
  have hones : (regW old addr size (data % 2 ^ (8 * size))).ones = (regW old addr size data).ones := by
    apply Nat.eq_of_testBit_eq
    intro i
    rw [testBit_regW_ones, testBit_regW_ones, Nat.testBit_mod_two_pow]
    by_cases h : i - 8 * (addr % 8) < 8 * size
    · simp [h]
    · have hout : ¬ (8 * (addr % 8) ≤ i ∧ i < 8 * (addr % 8) + 8 * size) := by omega
      simp only [hout, decide_false, Bool.false_and]
  exact RegW.mk.injEq _ _ _ _ _ _ _ _ |>.mpr ⟨rfl, congrArg (_ + ·) hones, rfl, hones⟩

/-- A write of all eight bytes of the register at an offset. -/
def RegW.full (off v : Nat) : RegW := ⟨off, v, 2 ^ 64 - 1, v⟩

@[simp] theorem RegW.full_off (a v : Nat) : (RegW.full a v).off = a := rfl
@[simp] theorem RegW.full_v (a v : Nat) : (RegW.full a v).v = v := rfl
@[simp] theorem RegW.full_ones (a v : Nat) : (RegW.full a v).ones = v := rfl
@[simp] theorem RegW.get_full (a v : Nat) (f : Fld) : (RegW.full a v).get f = bitsOf v f.lsb f.width := rfl
@[simp] theorem RegW.one_full (a v : Nat) (f : Fld) : (RegW.full a v).one f = bitAt v f.lsb := rfl

theorem RegW.within_eq_false {w : RegW} {base stride count : Nat} (h : w.off < base ∨ base + stride * count ≤ w.off) :
    w.within base stride count = false := by
  rcases h with h | h
  · simp [RegW.within, Nat.not_le.2 h]
  · simp [RegW.within, Nat.not_lt.2 h]

theorem RegW.within_index {w : RegW} {base stride count i : Nat} (h : w.off = base + stride * i) (hi : i < count) (hs : 0 < stride) :
    w.within base stride count = true ∧ w.index base stride = i := by
  have hlt : stride * i < stride * count := Nat.mul_lt_mul_of_pos_left hi hs
  simp [RegW.within, RegW.index, h, hlt, Nat.mul_div_cancel_left i hs]

theorem regW_eight {old addr v : Nat} (ha : addr % 8 = 0) (ho : old < 2 ^ 64) (hv : v < 2 ^ 64) :
    regW old addr 8 v = RegW.full addr v := by
  have hold : old &&& (2 ^ 64 - 1) = old := Nat.and_two_pow_sub_one_of_lt_two_pow ho
  have hval : v &&& (2 ^ 64 - 1) = v := Nat.and_two_pow_sub_one_of_lt_two_pow hv
  simp only [Nat.reducePow, Nat.reduceSub] at hold hval
  simp [regW, RegW.full, ha, hold, hval]

theorem RegW.touches_full (off v : Nat) (f : Fld) (h0 : 0 < f.width) (h : f.lsb + f.width ≤ 64) :
    (RegW.full off v).touches f = true := by
  have hbit : (bitsOf (2 ^ 64 - 1) f.lsb f.width).testBit 0 = true := by
    rw [testBit_bitsOf, Nat.testBit_two_pow_sub_one]; simp; omega
  simp only [RegW.touches, RegW.full, bne_iff_ne]
  intro hz; rw [hz] at hbit; simp at hbit

theorem getLsbD_storeRw (d : Dev) (w : RegW) (rw i : Nat) (hi : i < 64) : ((d.storeRw w rw).rget w.off).getLsbD i =
    if rw.testBit i then w.v.testBit i else (d.rget w.off).getLsbD i := by
  rw [Dev.storeRw, Dev.rget_rset_self, BitVec.getLsbD_ofNat, testBit_merge, BitVec.testBit_toNat]
  simp [hi]

theorem Dev.rget_storeRw_ne (d : Dev) (w : RegW) (rw : Nat) {o : Nat} (h : o ≠ w.off) : (d.storeRw w rw).rget o = d.rget o :=
  d.rget_rset_ne h _

theorem Dev.rget_clearMask_ne (d : Dev) (off m : Nat) {o : Nat} (h : o ≠ off) : (d.clearMask off m).rget o = d.rget o :=
  d.rget_rset_ne h _

/-- R12: a cleared bit is what the events of this tick alone make it. -/
theorem getLsbD_clearMask (d : Dev) (off m i : Nat) (hi : i < 64) : ((d.clearMask off m).rget off).getLsbD i =
    if m.testBit i then (d.freshGet off).getLsbD i else (d.rget off).getLsbD i := by
  rw [Dev.clearMask, Dev.rget_rset_self, BitVec.getLsbD_ofNat]
  cases h : m.testBit i <;> simp [hi, h, BitVec.testBit_toNat]

/-! ## The commands of a register write -/

/-- R10: the sizes and alignments that a register takes. -/
def AlignedWrite (addr size : Nat) : Prop := (size = 4 ∨ size = 8) ∧ addr % size = 0
/-- R402: the address lies in the data port's window. -/
abbrev InDpWindow (addr : Nat) : Prop := dpWindow ≤ addr ∧ addr < dpWindow + 0x1000
/-- R397: what answers at the address. -/
def Responds (d : Dev) (addr : Nat) : Prop := d.ready = true ∨ addr < 0x10000 ∨ (0x380000 ≤ addr ∧ addr < 0x400000)

theorem badAccess_eq_false {addr size : Nat} : (!(size == 4 || size == 8) || addr % size != 0) = false ↔ AlignedWrite addr size := by
  simp only [AlignedWrite, Bool.or_eq_false_iff, Bool.not_eq_false', Bool.or_eq_true, beq_iff_eq, bne_eq_false_iff_eq]

theorem silent_eq_false {d : Dev} {addr : Nat} : (!d.ready && !alwaysResponds addr) = false ↔ Responds d addr := by
  simp only [Responds, alwaysResponds, Bool.and_eq_false_iff, Bool.not_eq_false', Bool.or_eq_true, Bool.and_eq_true, decide_eq_true_eq]

section
variable {d : Dev} {addr size v : Nat} (hb : addr < 2 ^ 26)
include hb

theorem registerWrite_window (hw : InDpWindow addr) : registerWrite addr size v d = d := by
  rw [registerWrite, if_neg (by omega), if_pos hw]

theorem registerWrite_badAccess (hw : ¬ InDpWindow addr) (ha : ¬ AlignedWrite addr size) :
    registerWrite addr size v d = d.event GLB_STATUS_BAD_ACCESS := by
  rw [← badAccess_eq_false, Bool.not_eq_false] at ha
  rw [registerWrite, if_neg (by omega), if_neg hw, if_pos ha]

theorem registerWrite_silent (hw : ¬ InDpWindow addr) (ha : AlignedWrite addr size) (hr : ¬ Responds d addr) :
    registerWrite addr size v d = d := by
  rw [← silent_eq_false, Bool.not_eq_false] at hr
  rw [registerWrite, if_neg (by omega), if_neg hw, badAccess_eq_false.2 ha, if_neg Bool.false_ne_true, if_pos hr]

section
variable (hw : ¬ InDpWindow addr) (ha : AlignedWrite addr size) (hr : Responds d addr)
include hw ha hr

/-- R10, R397: a write that a block takes goes to what stands at its offset; a configuration register's is dropped (R89). -/
theorem registerWrite_taken : registerWrite addr size v d = (regAt (addr - addr % 8)).elim (d.event GLB_STATUS_UNMAPPED) (fun r =>
    if r.cfg then d.event FAB_STATUS_CFG_WRITE_DROP
    else d.writeReg (regW (d.rget (addr - addr % 8)).toNat addr size v) r) := by
  rw [registerWrite, if_neg (by omega), if_neg hw, badAccess_eq_false.2 ha, silent_eq_false.2 hr, if_neg Bool.false_ne_true,
    if_neg Bool.false_ne_true, ← regW_mod]
  cases h : regAt (addr - addr % 8) <;> simp only [h, Option.elim]

theorem registerWrite_unmapped (hat : regAt (addr - addr % 8) = none) : registerWrite addr size v d = d.event GLB_STATUS_UNMAPPED := by
  rw [registerWrite_taken hb hw ha hr, hat, Option.elim]

variable {r : RegDesc} (hat : regAt (addr - addr % 8) = some r)
include hat

theorem registerWrite_cfg (hc : r.cfg = true) : registerWrite addr size v d = d.event FAB_STATUS_CFG_WRITE_DROP := by
  rw [registerWrite_taken hb hw ha hr, hat, Option.elim, if_pos hc]

theorem registerWrite_reg (hc : r.cfg = false) :
    registerWrite addr size v d = d.writeReg (regW (d.rget (addr - addr % 8)).toNat addr size v) r := by
  rw [registerWrite_taken hb hw ha hr, hat, Option.elim, if_neg (Bool.eq_false_iff.1 hc)]

end
end

theorem exec_registerWrite {addr size v : Nat} (s : State) (ha : addr < 2 ^ 26 + 2 ^ 18) (hv : v < 2 ^ 64) :
    exec (.registerWrite addr size v) s = .next { s with dev := registerWrite addr size v s.dev } :=
  State.onDev_next.2 ⟨by simpa [Wf.registerWrite] using ⟨ha, hv⟩, rfl⟩

theorem does_registerWrite {addr size v : Nat} {s : State} {P : Dev → Prop} (ha : addr < 2 ^ 26 + 2 ^ 18) (hv : v < 2 ^ 64)
    (hP : P (registerWrite addr size v s.dev)) : Does (.registerWrite addr size v) s P :=
  ⟨_, exec_registerWrite s ha hv, hP⟩

/-- R11: an event sets its bit, and besides its register nothing changes. -/
theorem Dev.event_sets (d : Dev) (f : Fld) (h1 : f.width = 1) (hl : f.lsb < 64) :
    (d.event f).flag f = true ∧ RegsBut [f.off] d (d.event f) ∧ Apart (d.event f) d := by
  refine ⟨?_, fun o ho => d.rget_rset_ne (by simpa using ho) _, rfl⟩
  have hset : (d.event f).fget f = 1 % 2 ^ f.width := d.fget_fset_self f 1 (by omega)
  simp [Dev.flag, hset, h1]

/-- R10, R11: a write of eight bytes to a register that a host writes. -/
theorem registerWrite_eight {d : Dev} {a v : Nat} {r : RegDesc} (hb : a < 2 ^ 26) (hw : ¬ InDpWindow a) (ha : a % 8 = 0)
    (hr : Responds d a) (hv : v < 2 ^ 64) (hat : regAt a = some r) (hc : r.cfg = false) :
    registerWrite a 8 v d = d.writeReg (RegW.full a v) r := by
  have hoff : a - a % 8 = a := by rw [ha, Nat.sub_zero]
  rw [registerWrite_reg hb hw ⟨Or.inr rfl, ha⟩ hr (hoff.symm ▸ hat) hc, regW_eight ha (BitVec.isLt _) hv]

/-! ## The block of a register (R396) -/

section
variable {d : Dev} {w : RegW} {r : RegDesc}

theorem Dev.writeReg_glb (h : w.off < 0x10000) : d.writeReg w r = d.writeGlb w r := by rw [Dev.writeReg, if_pos h]

theorem Dev.writeReg_dp (h0 : 0x20000 ≤ w.off) (h : w.off < 0x30000) : d.writeReg w r = d.writeDp w r := by
  rw [Dev.writeReg, if_neg (by omega), if_neg (by omega), if_pos h]

theorem Dev.writeReg_tu (h0 : 0x30000 ≤ w.off) (h : w.off < 0x40000) : d.writeReg w r = d.writeTu w r := by
  rw [Dev.writeReg, if_neg (by omega), if_neg (by omega), if_neg (by omega), if_pos h]

theorem Dev.writeReg_rind (h0 : 0x40000 ≤ w.off) (h : w.off < 0x80000) : d.writeReg w r = d.writeRind w r := by
  rw [Dev.writeReg, if_neg (by omega), if_neg (by omega), if_neg (by omega), if_neg (by omega), if_pos h]

theorem Dev.writeReg_fab (h0 : 0x80000 ≤ w.off) (h : w.off < 0x100000) : d.writeReg w r = d.writeFab w r := by
  rw [Dev.writeReg, if_neg (by omega), if_neg (by omega), if_neg (by omega), if_neg (by omega), if_neg (by omega), if_pos h]

theorem Dev.writeReg_pl (h0 : 0x100000 ≤ w.off) (h : w.off < 0x200000) : d.writeReg w r = d.writePl w r := by
  rw [Dev.writeReg, if_neg (by omega), if_neg (by omega), if_neg (by omega), if_neg (by omega), if_neg (by omega), if_neg (by omega), if_pos h]

theorem Dev.writeReg_vat (h0 : 0x200000 ≤ w.off) (h : w.off < 0x280000) : d.writeReg w r = d.writeVat w r := by
  rw [Dev.writeReg, if_neg (by omega), if_neg (by omega), if_neg (by omega), if_neg (by omega), if_neg (by omega), if_neg (by omega),
    if_neg (by omega), if_pos h]

theorem Dev.writeReg_pwr (h0 : 0x300000 ≤ w.off) (h : w.off < 0x380000) : d.writeReg w r = d.writePwr w r := by
  rw [Dev.writeReg, if_neg (by omega), if_neg (by omega), if_neg (by omega), if_neg (by omega), if_neg (by omega), if_neg (by omega),
    if_neg (by omega), if_neg (by omega), if_pos ⟨h0, h⟩]

end

/-! ## Registers whose write only sets fields -/

/-- The offset is one of GLB or FAB, of a register whose write starts nothing. -/
def SetsFieldsOnly (off : Nat) : Prop :=
  (off < 0x10000 ∧ off ∉ [GLB_CQ_BASE, GLB_CQ_CFG, GLB_CQ_HEAD]) ∨ (0x80000 ≤ off ∧ off < 0x100000 ∧
    off ∉ [FAB_CTRL, FAB_LEDGER_CTRL, FAB_LEDGER_SEL, FAB_ESQ_LEDGER, FAB_OBS_CTRL, FAB_SNAP_AREA, FAB_DL_CFG])

theorem Dev.writeReg_fields {d : Dev} {w : RegW} {r : RegDesc} (h : SetsFieldsOnly w.off) :
    d.writeReg w r = (d.storeRw w r.rw).clearMask w.off (w.ones &&& r.w1c) := by
  rcases h with ⟨hlt, hn⟩ | ⟨h0, hlt, hn⟩
  · simp only [List.mem_cons, List.not_mem_nil, or_false, not_or] at hn
    obtain ⟨h1, h2, h3⟩ := hn
    rw [Dev.writeReg_glb hlt, Dev.writeGlb, if_neg h1, if_neg h2, if_neg h3]
  · simp only [List.mem_cons, List.not_mem_nil, or_false, not_or] at hn
    obtain ⟨h1, h2, h3, h4, h5, h6, h7⟩ := hn
    rw [Dev.writeReg_fab h0 hlt, Dev.writeFab, if_neg h1, if_neg h2, if_neg h3, if_neg h4, if_neg h5, if_neg h6, if_neg h7]

/-- R11, R12: by its access code a bit that the write reaches takes what is written or, at a one, is cleared; no other bit changes. -/
theorem registerWrite_fields {d : Dev} {addr size v : Nat} {r : RegDesc} (hb : addr < 2 ^ 26) (ha : AlignedWrite addr size)
    (hr : Responds d addr) (hat : regAt (addr - addr % 8) = some r) (hc : r.cfg = false) (hplain : SetsFieldsOnly (addr - addr % 8)) :
    let off := addr - addr % 8
    let lo := 8 * (addr % 8)
    let reached (i : Nat) : Prop := lo ≤ i ∧ i < lo + 8 * size
    let e := registerWrite addr size v d
    RegsBut [off] d e ∧ Apart e d ∧ ∀ i < 64,
      (reached i → r.w1c.testBit i = false → r.rw.testBit i = true → (e.rget off).getLsbD i = v.testBit (i - lo)) ∧
      (reached i → r.w1c.testBit i = true → v.testBit (i - lo) = true → (e.rget off).getLsbD i = (d.freshGet off).getLsbD i) ∧
      (reached i → r.w1c.testBit i = true → r.rw.testBit i = false → v.testBit (i - lo) = false →
        (e.rget off).getLsbD i = (d.rget off).getLsbD i) ∧
      (¬ reached i ∨ (r.w1c.testBit i = false ∧ r.rw.testBit i = false) → (e.rget off).getLsbD i = (d.rget off).getLsbD i) := by
  intro off lo reached e
  let w := regW (d.rget off).toNat addr size v
  have hwin : ¬ InDpWindow addr := by unfold SetsFieldsOnly at hplain; unfold InDpWindow dpWindow; omega
  have he : e = (d.storeRw w r.rw).clearMask off (w.ones &&& r.w1c) :=
    (registerWrite_reg hb hwin ha hr hat hc).trans (Dev.writeReg_fields (w := w) hplain)
  rw [he]
  refine ⟨fun o ho => ?_, rfl, fun i hi => ?_⟩
  · have ho' : o ≠ off := by simpa using ho
    rw [Dev.rget_clearMask_ne _ _ _ ho', Dev.rget_storeRw_ne _ w _ ho']
  · have hbit : (((d.storeRw w r.rw).clearMask off (w.ones &&& r.w1c)).rget off).getLsbD i =
        if (w.ones &&& r.w1c).testBit i then (d.freshGet off).getLsbD i
        else if r.rw.testBit i then w.v.testBit i else (d.rget off).getLsbD i := by
      rw [getLsbD_clearMask _ _ _ _ hi]
      exact congrArg (ite _ _ ·) (getLsbD_storeRw d w r.rw i hi)
    have hones : w.ones.testBit i = (decide (reached i) && v.testBit (i - lo)) := testBit_regW_ones _ _ _ _ _
    have hval : w.v.testBit i = if reached i then v.testBit (i - lo) else (d.rget off).getLsbD i := by
      rw [← BitVec.testBit_toNat]; exact testBit_regW_v _ _ _ _ _
    rw [hbit, Nat.testBit_and, hones, hval]
    refine ⟨fun hin h1 h2 => ?_, fun hin h1 h2 => ?_, fun hin h1 h2 h3 => ?_, fun h => ?_⟩
    · simp [hin, h1, h2]
    · simp [hin, h1, h2]
    · simp [h1, h2, h3]
    · rcases h with hn | ⟨h1, h2⟩
      · simp [hn]
      · simp [h1, h2]

/-! ## Registers whose write is another command -/

/-- A command whose operands the device has does to the device what its effect does. -/
theorem Dev.via_onDev (d : Dev) {wf : Bool} {f : Dev → Dev} (h : wf = true) : d.via (fun s => s.onDev wf f) = f d := by
  subst h; rfl

/-- A register of the host's: its offset is BAR0's, outside the data port's window, and its writes are not dropped. -/
def HostRegister (a : Nat) : Prop := (regAt a).map RegDesc.cfg = some false ∧ a < 2 ^ 26 ∧ ¬ InDpWindow a ∧ a % 8 = 0

/-- A write of eight bytes whose effect is a well-formed command's is that command. -/
theorem exec_registerWrite_command {s : State} {a v : Nat} {c : Instr} {f : Dev → Dev} (g : State → Host.Outcome State Fault Refusal)
    (hc : exec c = g) (hg : ∀ s, g s = s.onDev c.wf f) (ha : HostRegister a) (hr : Responds s.dev a) (hv : v < 2 ^ 64)
    (hwf : c.wf = true) (he : ∀ r, s.dev.writeReg (RegW.full a v) r = s.dev.via g) :
    exec (.registerWrite a 8 v) s = exec c s := by
  obtain ⟨hat, hb, hw, ha⟩ := ha
  obtain ⟨r, hreg, hcfg⟩ := Option.map_eq_some_iff.1 hat
  rw [exec_registerWrite s (by omega) hv, registerWrite_eight hb hw ha hr hv hreg hcfg, he r, hc, funext hg, Dev.via_onDev _ hwf, hwf]
  rfl

section
variable (d : Dev) (v : Nat) (r : RegDesc)

theorem Dev.writeReg_submit :
    d.writeReg (RegW.full RCE_SUBMIT v) r = d.via (execGraphSubmit (v / 2 ^ 32 % 2 ^ 16) (v % 2 ^ 13)) := by
  simp [Dev.writeReg, Dev.writeRce, RCE_SUBMIT, RegW.touches_full, RCE_SUBMIT_TASKS, bitsOf, Nat.shiftRight_eq_div_pow]

theorem Dev.writeReg_loadCfg : d.writeReg (RegW.full RCE_LOAD_CFG v) r = d.via (execLoadCfgWrite v) := by
  simp [Dev.writeReg, Dev.writeRce, RCE_SUBMIT, RCE_LOAD_CFG, RegW.touches_full, RCE_LOAD_CFG_MARGIN_PCT]

theorem Dev.writeReg_charQuery : d.writeReg (RegW.full RCE_CHAR_QUERY v) r = d.via (execCharQueryWrite v) := by
  simp [Dev.writeReg, Dev.writeRce, RCE_SUBMIT, RCE_LOAD_CFG, RCE_CHAR_QUERY, RegW.touches_full, RCE_CHAR_QUERY_VFLOOR_MV]

theorem Dev.writeReg_cqHead : d.writeReg (RegW.full GLB_CQ_HEAD v) r = d.via (execCqHeadWrite (v % 2 ^ 16)) := by
  simp [Dev.writeReg, Dev.writeGlb, GLB_CQ_BASE, GLB_CQ_CFG, GLB_CQ_HEAD, RegW.touches_full, GLB_CQ_HEAD_HEAD, bitsOf]

theorem Dev.writeReg_timeSet : d.writeReg (RegW.full TU_TIME_SET v) r = d.via (execTimeSet v) := by
  simp [Dev.writeReg, Dev.writeTu, TU_CTRL, TU_SERVO, TU_TIME_SET]

theorem Dev.writeReg_stampSel : d.writeReg (RegW.full RIND_STAMP_SEL v) r = d.via (execStampSelWrite (v % 2 ^ 12)) := by
  simp [Dev.writeReg, Dev.writeRind, RIND_CTRL, RIND_STAMP_SEL, RegW.touches_full, RIND_STAMP_SEL_ESQ, Dev.when, bitsOf]

theorem Dev.writeReg_streamCfg {k : Nat} (hk : k < 8) :
    d.writeReg (RegW.full (RIND_STREAM_CFG k) v) r = d.via (execStreamCfgWrite k v) := by
  have hoff : 0x41000 ≤ RIND_STREAM_CFG k ∧ RIND_STREAM_CFG k < 0x41800 := by simp only [RIND_STREAM_CFG]; omega
  obtain ⟨hin, hix⟩ : (RegW.full (RIND_STREAM_CFG k) v).within (RIND_STREAM_CFG 0) 0x100 8 = true ∧
    (RegW.full (RIND_STREAM_CFG k) v).index (RIND_STREAM_CFG 0) 0x100 = k := RegW.within_index rfl hk (by decide)
  have halign : (RegW.full (RIND_STREAM_CFG k) v).within (RIND_PORT_ALIGN 0) 8 64 = false :=
    RegW.within_eq_false (Or.inr (by simp only [RegW.full_off, RIND_PORT_ALIGN]; omega))
  have ht : (RegW.full (RIND_STREAM_CFG k) v).touches (RIND_STREAM_CFG_POLICY k) = true :=
    RegW.touches_full _ _ _ Nat.two_pos (by simp [RIND_STREAM_CFG_POLICY])
  have hblock : d.writeReg (RegW.full (RIND_STREAM_CFG k) v) r = d.writeRind (RegW.full (RIND_STREAM_CFG k) v) r :=
    Dev.writeReg_rind (by rw [RegW.full_off]; omega) (by rw [RegW.full_off]; omega)
  have hctrl : RIND_STREAM_CFG k ≠ RIND_CTRL ∧ RIND_STREAM_CFG k ≠ RIND_STAMP_SEL := by simp only [RIND_CTRL, RIND_STAMP_SEL]; omega
  rw [hblock, Dev.writeRind, RegW.full_off, if_neg hctrl.1, if_neg hctrl.2, halign, hin]
  simp only [hix, ht, Dev.when, Bool.false_eq_true, if_false, if_true, RegW.full_v]

theorem Dev.writeReg_ledgerSel : d.writeReg (RegW.full FAB_LEDGER_SEL v) r = d.via (execLedgerSelWrite (v % 2 ^ 10)) := by
  simp [Dev.writeReg, Dev.writeFab, FAB_CTRL, FAB_LEDGER_CTRL, FAB_LEDGER_SEL, RegW.touches_full, FAB_LEDGER_SEL_INDEX, Dev.when, bitsOf]

theorem Dev.writeReg_esqLedger : d.writeReg (RegW.full FAB_ESQ_LEDGER v) r = d.via (execEsqLedgerWrite (v % 2 ^ 12)) := by
  simp [Dev.writeReg, Dev.writeFab, FAB_CTRL, FAB_LEDGER_CTRL, FAB_LEDGER_SEL, FAB_ESQ_LEDGER, RegW.touches_full, FAB_ESQ_LEDGER_ESQ,
    Dev.when, bitsOf]

theorem Dev.writeReg_snapArea : d.writeReg (RegW.full FAB_SNAP_AREA v) r = d.via (execSnapAreaWrite v) := by
  simp [Dev.writeReg, Dev.writeFab, FAB_CTRL, FAB_LEDGER_CTRL, FAB_LEDGER_SEL, FAB_ESQ_LEDGER, FAB_OBS_CTRL, FAB_SNAP_AREA]

theorem Dev.writeReg_curdArea : d.writeReg (RegW.full VAT_CURD_AREA v) r = d.via (execCurdAreaWrite v) := by
  simp [Dev.writeReg, Dev.writeVat, VAT_CURD_CTRL, VAT_CURD_AREA]

theorem Dev.writeReg_curdPtr : d.writeReg (RegW.full VAT_CURD_PTR v) r = d.via (execCurdRdWrite v) := by
  simp [Dev.writeReg, Dev.writeVat, VAT_CURD_CTRL, VAT_CURD_AREA, VAT_CURD_PTR, RegW.touches_full, VAT_CURD_PTR_RD, Dev.when]

theorem Dev.writeReg_curdRule {k : Nat} (hk : k < 16) :
    d.writeReg (RegW.full (VAT_CURD_RULE k) v) r = d.via (execCurdRuleWrite k v) := by
  have hoff : 0x200400 ≤ VAT_CURD_RULE k ∧ VAT_CURD_RULE k < 0x200600 := by simp only [VAT_CURD_RULE]; omega
  obtain ⟨hin, hix⟩ : (RegW.full (VAT_CURD_RULE k) v).within (VAT_CURD_RULE 0) 0x20 16 = true ∧
    (RegW.full (VAT_CURD_RULE k) v).index (VAT_CURD_RULE 0) 0x20 = k := RegW.within_index rfl hk (by decide)
  have hblock : d.writeReg (RegW.full (VAT_CURD_RULE k) v) r = d.writeVat (RegW.full (VAT_CURD_RULE k) v) r :=
    Dev.writeReg_vat (by rw [RegW.full_off]; omega) (by rw [RegW.full_off]; omega)
  have hothers : VAT_CURD_RULE k ≠ VAT_CURD_CTRL ∧ VAT_CURD_RULE k ≠ VAT_CURD_AREA ∧ VAT_CURD_RULE k ≠ VAT_CURD_PTR := by
    simp only [VAT_CURD_CTRL, VAT_CURD_AREA, VAT_CURD_PTR]; omega
  rw [hblock, Dev.writeVat, RegW.full_off, if_neg hothers.1, if_neg hothers.2.1, if_neg hothers.2.2, if_pos hin, hix, RegW.full_v]

end

theorem hostRegister_of : ∀ a ∈ [RCE_SUBMIT, RCE_LOAD_CFG, RCE_CHAR_QUERY, GLB_CQ_HEAD, TU_TIME_SET, RIND_STAMP_SEL, FAB_LEDGER_SEL,
  FAB_ESQ_LEDGER, FAB_SNAP_AREA, VAT_CURD_AREA, VAT_CURD_PTR], HostRegister a := by unfold HostRegister InDpWindow; decide +kernel
theorem hostRegister_streamCfg : ∀ k < 8, HostRegister (RIND_STREAM_CFG k) := by unfold HostRegister InDpWindow; decide +kernel
theorem hostRegister_curdRule : ∀ k < 16, HostRegister (VAT_CURD_RULE k) := by unfold HostRegister InDpWindow; decide +kernel

/-- The registers whose write is a command of its own, each with that command. -/
def writeCommands (v k : Nat) : List (Nat × Instr) :=
  [(RCE_SUBMIT, .graphSubmit (v / 2 ^ 32 % 2 ^ 16) (v % 2 ^ 13)), (RCE_LOAD_CFG, .loadCfgWrite v), (RCE_CHAR_QUERY, .charQueryWrite v),
    (GLB_CQ_HEAD, .cqHeadWrite (v % 2 ^ 16)), (TU_TIME_SET, .timeSet v), (RIND_STAMP_SEL, .stampSelWrite (v % 2 ^ 12)),
    (RIND_STREAM_CFG (k % 8), .streamCfgWrite (k % 8) v), (FAB_LEDGER_SEL, .ledgerSelWrite (v % 2 ^ 10)),
    (FAB_ESQ_LEDGER, .esqLedgerWrite (v % 2 ^ 12)), (FAB_SNAP_AREA, .snapAreaWrite v), (VAT_CURD_AREA, .curdAreaWrite v),
    (VAT_CURD_PTR, .curdRdWrite v), (VAT_CURD_RULE k, .curdRuleWrite k v)]

theorem exec_registerWrite_writeCommands (s : State) {v k : Nat} (hv : v < 2 ^ 64) (hk : k < 16) (hready : s.dev.ready = true) :
    ∀ r ∈ writeCommands v k, exec (.registerWrite r.1 8 v) s = exec r.2 s := by
  have hk8 : k % 8 < 8 := Nat.mod_lt _ (by decide)
  have hr : ∀ {a}, Responds s.dev a := Or.inl hready
  have hv' : decide (v < 2 ^ 64) = true := decide_eq_true hv
  have hmod : ∀ m n, decide (m % 2 ^ n < 2 ^ n) = true := fun m n => decide_eq_true (Nat.mod_lt m (Nat.two_pow_pos n))
  have hwf : ∀ {j n : Nat}, j < n → (decide (j < n) && decide (v < 2 ^ 64)) = true := fun h => Bool.and_eq_true_iff.2 ⟨decide_eq_true h, hv'⟩
  have hv16 : v % 2 ^ 16 < 2 ^ 64 := by omega
  have hreg := hostRegister_of
  simp only [writeCommands, List.forall_mem_cons, List.not_mem_nil, false_imp_iff, implies_true, and_true] at hreg ⊢
  obtain ⟨hsubmit, hload, hchar, hhead, htime, hstamp, hsel, hesq, hsnap, harea, hptr⟩ := hreg
  exact ⟨exec_registerWrite_command (execGraphSubmit _ _) rfl (fun _ => rfl) hsubmit hr hv (hmod _ _) (s.dev.writeReg_submit v),
    exec_registerWrite_command (execLoadCfgWrite v) rfl (fun _ => rfl) hload hr hv hv' (s.dev.writeReg_loadCfg v),
    exec_registerWrite_command (execCharQueryWrite v) rfl (fun _ => rfl) hchar hr hv hv' (s.dev.writeReg_charQuery v),
    exec_registerWrite_command (execCqHeadWrite _) rfl (fun _ => rfl) hhead hr hv (decide_eq_true hv16) (s.dev.writeReg_cqHead v),
    exec_registerWrite_command (execTimeSet v) rfl (fun _ => rfl) htime hr hv rfl (s.dev.writeReg_timeSet v),
    exec_registerWrite_command (execStampSelWrite _) rfl (fun _ => rfl) hstamp hr hv (hmod _ _) (s.dev.writeReg_stampSel v),
    exec_registerWrite_command (execStreamCfgWrite (k % 8) v) rfl (fun _ => rfl) (hostRegister_streamCfg _ hk8) hr hv (hwf hk8)
      (fun r => s.dev.writeReg_streamCfg v r hk8),
    exec_registerWrite_command (execLedgerSelWrite _) rfl (fun _ => rfl) hsel hr hv (hmod _ _) (s.dev.writeReg_ledgerSel v),
    exec_registerWrite_command (execEsqLedgerWrite _) rfl (fun _ => rfl) hesq hr hv (hmod _ _) (s.dev.writeReg_esqLedger v),
    exec_registerWrite_command (execSnapAreaWrite v) rfl (fun _ => rfl) hsnap hr hv hv' (s.dev.writeReg_snapArea v),
    exec_registerWrite_command (execCurdAreaWrite v) rfl (fun _ => rfl) harea hr hv hv' (s.dev.writeReg_curdArea v),
    exec_registerWrite_command (execCurdRdWrite v) rfl (fun _ => rfl) hptr hr hv hv' (s.dev.writeReg_curdPtr v),
    exec_registerWrite_command (execCurdRuleWrite k v) rfl (fun _ => rfl) (hostRegister_curdRule _ hk) hr hv (hwf hk)
      (fun r => s.dev.writeReg_curdRule v r hk)⟩

/-! ## Fields of a register that a host writes -/

/-- R11: a field of RW bits takes what a write of the whole register holds. -/
theorem Dev.fget_storeRw_full (d : Dev) (a v rw : Nat) (f : Fld) (hf : f.off = a) (hw : f.lsb + f.width ≤ 64)
    (hrw : ∀ j < f.width, rw.testBit (f.lsb + j) = true) : (d.storeRw (RegW.full a v) rw).fget f = bitsOf v f.lsb f.width := by
  apply Nat.eq_of_testBit_eq
  intro j
  rw [Dev.fget, testBit_bitsOf, testBit_bitsOf, hf]
  by_cases hj : j < f.width
  · have hst := getLsbD_storeRw d (RegW.full a v) rw (f.lsb + j) (by omega)
    rw [hrw j hj, if_pos rfl] at hst
    rw [BitVec.testBit_toNat]
    exact congrArg (decide (j < f.width) && ·) hst
  · simp [hj]

theorem Dev.fget_storeRw_ne (d : Dev) (w : RegW) (rw : Nat) (f : Fld) (h : f.off ≠ w.off) : (d.storeRw w rw).fget f = d.fget f :=
  d.fget_rset_ne f h _

theorem bitsOf_zero_eq_mod (v w : Nat) : bitsOf v 0 w = v % 2 ^ w := by rw [bitsOf, Nat.shiftRight_zero]

theorem bitsOf_one (v i : Nat) : (bitsOf v i 1 == 1) = v.testBit i := by
  rw [bitsOf, Nat.testBit_eq_decide_div_mod_eq, Nat.shiftRight_eq_div_pow, Nat.pow_one]
  exact Bool.eq_iff_iff.2 (beq_iff_eq.trans decide_eq_true_iff.symm)

theorem bitAt_eq_testBit (n i : Nat) : bitAt n i = n.testBit i := bitsOf_one n i

theorem Dev.flag_storeRw_full (d : Dev) (a v rw : Nat) (f : Fld) (hf : f.off = a) (h1 : f.width = 1) (hl : f.lsb < 64)
    (hrw : rw.testBit f.lsb = true) : (d.storeRw (RegW.full a v) rw).flag f = v.testBit f.lsb := by
  rw [Dev.flag, d.fget_storeRw_full a v rw f hf (by omega) (by rw [h1]; simpa using hrw), h1, bitsOf_one]

/-! ## The data port's control (R401, R406) -/

theorem regAt_dpCtrl : regAt DP_CTRL = some ⟨0x20008, [], 0x3ff038, 0, 5, false⟩ := by decide +kernel

/-- R406: ABORT with no burst in progress stores the fields and leaves no burst. -/
theorem dpCtrl_abort {d : Dev} {v : Nat} (hv : v < 2 ^ 64) (hr : d.ready = true) (ha : v.testBit DP_CTRL_ABORT.lsb = true)
    (hb : d.flag DP_STATUS_BUSY = false) :
    registerWrite DP_CTRL 8 v d = (d.storeRw (RegW.full DP_CTRL v) 0x3ff038).dpStop := by
  have hready : (d.storeRw (RegW.full DP_CTRL v) 0x3ff038).ready = true := by
    have hst : GLB_STATUS ≠ DP_CTRL := by decide
    rw [Dev.ready, Dev.flag, Dev.flag, d.fget_storeRw_ne _ _ _ hst, d.fget_storeRw_ne _ _ _ hst]
    exact hr
  have hone : (RegW.full DP_CTRL v).one DP_CTRL_ABORT = true := by rw [RegW.one_full, bitAt_eq_testBit, ha]
  have hoff : 0x20000 ≤ (RegW.full DP_CTRL v).off ∧ (RegW.full DP_CTRL v).off < 0x30000 := by rw [RegW.full_off]; decide
  rw [registerWrite_eight (by decide) (by simp [InDpWindow, dpWindow, DP_CTRL]) rfl (Or.inl hr) hv regAt_dpCtrl rfl,
    Dev.writeReg_dp hoff.1 hoff.2, Dev.writeDp, if_pos ⟨rfl, hone⟩, hb, if_neg Bool.false_ne_true]
  exact (Dev.via_onDev _ rfl).trans (if_pos hready)

theorem registerWrite_dpCtrl_abort {d : Dev} {v : Nat} (hv : v < 2 ^ 64) (hr : d.ready = true)
    (ha : v.testBit DP_CTRL_ABORT.lsb = true) (hb : d.flag DP_STATUS_BUSY = false) :
    let e := registerWrite DP_CTRL 8 v d
    e.fget DP_CTRL_UNITS = v / 2 ^ 12 % 2 ^ 10 ∧ e.fget DP_CTRL_INC = v / 2 ^ 4 % 4 ∧ e.flag DP_CTRL_DIR = v.testBit 3 ∧
      e.flag DP_STATUS_BUSY = false ∧ RegsBut [DP_CTRL, DP_STATUS] d e := by
  intro e
  have he : e = (d.storeRw (RegW.full DP_CTRL v) 0x3ff038).dpStop := dpCtrl_abort hv hr ha hb
  have hreg : ∀ o, o ≠ DP_STATUS → e.rget o = (d.storeRw (RegW.full DP_CTRL v) 0x3ff038).rget o := fun o ho => by
    rw [he]; exact (Dev.rget_rset_ne _ ho _).trans (Dev.rget_rset_ne _ ho _)
  have hfld : ∀ f : Fld, f.off = DP_CTRL → e.fget f = (d.storeRw (RegW.full DP_CTRL v) 0x3ff038).fget f := fun f hf => by
    rw [Dev.fget, Dev.fget, hreg _ (by rw [hf]; decide)]
  refine ⟨?_, ?_, ?_, ?_, fun o ho => ?_⟩
  · rw [hfld _ rfl, d.fget_storeRw_full DP_CTRL v 0x3ff038 DP_CTRL_UNITS rfl (by decide) (by decide), bitsOf, Nat.shiftRight_eq_div_pow]; rfl
  · rw [hfld _ rfl, d.fget_storeRw_full DP_CTRL v 0x3ff038 DP_CTRL_INC rfl (by decide) (by decide), bitsOf, Nat.shiftRight_eq_div_pow]; rfl
  · rw [Dev.flag, hfld _ rfl]
    exact d.flag_storeRw_full DP_CTRL v 0x3ff038 DP_CTRL_DIR rfl rfl (by decide) (by decide)
  · have hclear : e.fget DP_STATUS_BUSY = ((d.storeRw (RegW.full DP_CTRL v) 0x3ff038).fset DP_STATUS_BUSY 0).fget DP_STATUS_BUSY := by
      rw [he]; exact Dev.fget_fset_ne _ DP_STATUS_AVAIL _ _ (by decide) (by decide)
    rw [Dev.flag, hclear, Dev.fget_fset_self _ _ _ (by decide)]
    rfl
  · simp only [List.mem_cons, List.not_mem_nil, or_false, not_or] at ho
    rw [hreg o ho.2, Dev.rget_storeRw_ne _ _ _ ho.1]

/-! ## The deadlock detector's configuration (R445) -/

theorem regAt_dlCfg : regAt FAB_DL_CFG = some ⟨0x82000, [], 0x1ffff, 0, 0, false⟩ := by decide +kernel

theorem registerWrite_dlCfg {d : Dev} {v : Nat} (hv : v < 2 ^ 64) (hr : d.ready = true) :
    let e := registerWrite FAB_DL_CFG 8 v d
    e.flag FAB_DL_CFG_ENABLE = v.testBit FAB_DL_CFG_ENABLE.lsb ∧ (v.testBit FAB_DL_CFG_ENABLE.lsb = true → e.fab = d.fab) ∧
      (v.testBit FAB_DL_CFG_ENABLE.lsb = false → e.fab = { d.fab with probes := [] }) ∧ RegsBut [FAB_DL_CFG] d e := by
  intro e
  have hen := d.flag_storeRw_full FAB_DL_CFG v 0x1ffff FAB_DL_CFG_ENABLE rfl rfl (by decide) (by decide)
  have he : e = (d.storeRw (RegW.full FAB_DL_CFG v) 0x1ffff).when (!v.testBit FAB_DL_CFG_ENABLE.lsb) Dev.dropProbes := by
    rw [← hen]
    refine (registerWrite_eight (by decide) (by simp [InDpWindow, dpWindow, FAB_DL_CFG]) rfl (Or.inl hr) hv regAt_dlCfg rfl).trans ?_
    simp [Dev.writeReg, Dev.writeFab, FAB_CTRL, FAB_LEDGER_CTRL, FAB_LEDGER_SEL, FAB_ESQ_LEDGER, FAB_OBS_CTRL, FAB_SNAP_AREA, FAB_DL_CFG]
  have hregs : e.regs = (d.storeRw (RegW.full FAB_DL_CFG v) 0x1ffff).regs := by rw [he, Dev.when]; split <;> rfl
  have hget : ∀ o, e.rget o = (d.storeRw (RegW.full FAB_DL_CFG v) 0x1ffff).rget o := fun o => by rw [Dev.rget, hregs]; rfl
  refine ⟨?_, fun h => by rw [he, h]; rfl, fun h => by rw [he, h]; rfl, fun o ho => ?_⟩
  · rw [← hen, Dev.flag, Dev.flag, Dev.fget, hget]; rfl
  · rw [hget, Dev.rget_storeRw_ne _ _ _ (by simpa using ho)]

/-! ## BAR2 (R395) -/

theorem registerWrite_bar2 (d : Dev) (w v : Nat) : registerWrite (2 ^ 26 + 4 * w) 4 v d = d.bar2Put w (v % 2 ^ 32) := by
  have hat : (2 ^ 26 + 4 * w - 2 ^ 26) = 4 * w := by omega
  rw [registerWrite, if_pos (by omega), hat, Dev.bar2Write]
  simp [upTo, Dev.each, bitsOf]

/-- Word k of BAR2 holds a value. -/
def Dev.setBar2 (d : Dev) (k v : Nat) : Dev := { d with host := { d.host with bar2 := pput k v d.host.bar2 } }

/-- But for its own word of BAR2 nothing of the device changes. -/
def Bar2But (w : Nat) (d e : Dev) : Prop :=
  e = { d with host := { d.host with bar2 := e.host.bar2 } } ∧ ∀ j, j ≠ w → e.bar2Word j = d.bar2Word j

@[simp] theorem Dev.bar2Word_setBar2 (d : Dev) (k v : Nat) : (d.setBar2 k v).bar2Word k = v := by
  simp [Dev.setBar2, Dev.bar2Word]

theorem Dev.bar2But_setBar2 (d : Dev) (k v : Nat) : Bar2But k d (d.setBar2 k v) :=
  ⟨rfl, fun j hj => by simp [Dev.setBar2, Dev.bar2Word, pget_pput_ne hj]⟩

theorem Dev.bar2Put_word {d : Dev} {k : Nat} (v : Nat) (h : k < 0x8000 ∨ (k < 0x8010 ∧ k % 4 ≠ 3)) : d.bar2Put k v = d.setBar2 k v := by
  have h1 : ¬ 0xC000 ≤ k := by omega
  have h2 : ¬ 0x8010 ≤ k := by omega
  by_cases h3 : 0x8000 ≤ k
  · have h4 : k % 4 ≠ 3 := by omega
    simp only [Dev.bar2Put, h1, h2, h3, h4, if_false, if_true, ne_eq, not_false_eq_true]; rfl
  · simp only [Dev.bar2Put, h1, h3, if_false]; rfl

theorem Dev.bar2Put_none {d : Dev} {k : Nat} (v : Nat) (h : 0x8010 ≤ k) : d.bar2Put k v = d := by
  have h1 : 0x8000 ≤ k := by omega
  simp [Dev.bar2Put, h, h1]

/-- R395: of a vector's control the mask alone is held; unmasking sends what is pending. -/
theorem Dev.bar2Put_vector {d : Dev} {n : Nat} (v : Nat) (hn : n < 4) : d.bar2Put (0x8003 + 4 * n) v =
    let e := d.setBar2 (0x8003 + 4 * n) (v % 2)
    if v % 2 = 0 ∧ bitAt d.host.msixPending n = true
    then { e with host := { e.host with msixPending := setBits d.host.msixPending n 1 0 } }.signal n else e := by
  have h1 : ¬ 0xC000 ≤ 0x8003 + 4 * n := by omega
  have h2 : ¬ 0x8010 ≤ 0x8003 + 4 * n := by omega
  have h3 : 0x8000 ≤ 0x8003 + 4 * n := by omega
  have h4 : (0x8003 + 4 * n) % 4 = 3 := by omega
  have h5 : (0x8003 + 4 * n - 0x8000) / 4 = n := by omega
  rw [Dev.bar2Put, if_neg h1, if_pos h3, if_neg h2, if_neg (by simp [h4]), h5]
  rfl

theorem Dev.vectorOn_setBar2 (d : Dev) (n v : Nat) : (d.setBar2 (0x8003 + 4 * n) (v % 2)).vectorOn n = decide (v % 2 = 0) := by
  rw [Dev.vectorOn, Dev.bar2Word_setBar2]
  rcases Nat.mod_two_eq_zero_or_one v with h | h <;> simp [h, bitAt]

theorem bitAt_setBits_zero (m n : Nat) : bitAt (setBits m n 1 0) n = false := by
  simp [bitAt_eq_testBit, testBit_setBits]

theorem registerWrite_bar2_vector_quiet {d : Dev} {n v : Nat} (hn : n < 4) (h : v % 2 = 1 ∨ bitAt d.host.msixPending n = false) :
    let e := registerWrite (2 ^ 26 + 4 * (0x8003 + 4 * n)) 4 v d
    e.vectorOn n = decide (v % 2 = 0) ∧ Bar2But (0x8003 + 4 * n) d e := by
  intro e
  have hmod : v % 2 ^ 32 % 2 = v % 2 := Nat.mod_mod_of_dvd v (by decide)
  have he : e = d.setBar2 (0x8003 + 4 * n) (v % 2) := by
    have hno : ¬ (v % 2 = 0 ∧ bitAt d.host.msixPending n = true) := by
      rintro ⟨h0, hp⟩
      rcases h with h | h
      · omega
      · rw [h] at hp; contradiction
    show registerWrite _ 4 v d = _
    rw [registerWrite_bar2, Dev.bar2Put_vector _ hn, hmod]
    exact if_neg hno
  rw [he]
  exact ⟨d.vectorOn_setBar2 n v, d.bar2But_setBar2 _ _⟩

theorem registerWrite_bar2_vector_sends {d : Dev} {n v : Nat} (hn : n < 4) (hv : v % 2 = 0) (h : bitAt d.host.msixPending n = true) :
    let e := registerWrite (2 ^ 26 + 4 * (0x8003 + 4 * n)) 4 v d
    e.vectorOn n = true ∧ e.out = d.out ++ [.msix n] ∧ bitAt e.host.msixPending n = false ∧ e.regs = d.regs := by
  intro e
  have hmod : v % 2 ^ 32 % 2 = v % 2 := Nat.mod_mod_of_dvd v (by decide)
  let f := d.setBar2 (0x8003 + 4 * n) (v % 2)
  let g : Dev := { f with host := { f.host with msixPending := setBits d.host.msixPending n 1 0 } }
  have hon : g.vectorOn n = true := (d.vectorOn_setBar2 n v).trans (decide_eq_true hv)
  have he : e = g.emit (.msix n) := by
    show registerWrite _ 4 v d = _
    rw [registerWrite_bar2, Dev.bar2Put_vector _ hn, hmod]
    exact (if_pos ⟨hv, h⟩).trans (if_pos hon)
  rw [he]
  exact ⟨hon, rfl, bitAt_setBits_zero _ n, rfl⟩

/-! ## Thermal thresholds (R507) -/

theorem regAt_thermCfg : regAt PWR_THERM_CFG = some ⟨0x300008, [], 0xffffffff, 0, 0x100000000, false⟩ := by decide +kernel

theorem registerWrite_thermCfg {d : Dev} {v : Nat} (hv : v < 2 ^ 64) (hr : d.ready = true) (hp : v.testBit 32 = false) :
    let e := registerWrite PWR_THERM_CFG 8 v d
    let crit := max 410 (min ((regReset PWR_THERM_CFG).toNat / 2 ^ 16 % 2 ^ 16) (v / 2 ^ 16 % 2 ^ 16))
    e.fget PWR_THERM_CFG_CRIT_DC = crit ∧ e.fget PWR_THERM_CFG_WARN_DC = max 400 (min (crit - 10) (v % 2 ^ 16)) ∧
      RegsBut [PWR_THERM_CFG] d e ∧ Apart e d := by
  intro e crit
  have hcrit : (d.storeRw (RegW.full PWR_THERM_CFG v) 0xffffffff).fget PWR_THERM_CFG_CRIT_DC = v / 2 ^ 16 % 2 ^ 16 := by
    rw [d.fget_storeRw_full PWR_THERM_CFG v 0xffffffff PWR_THERM_CFG_CRIT_DC rfl (by decide) (by decide), bitsOf, Nat.shiftRight_eq_div_pow]; rfl
  have hwarn : (d.storeRw (RegW.full PWR_THERM_CFG v) 0xffffffff).fget PWR_THERM_CFG_WARN_DC = v % 2 ^ 16 := by
    rw [d.fget_storeRw_full PWR_THERM_CFG v 0xffffffff PWR_THERM_CFG_WARN_DC rfl (by decide) (by decide)]; exact bitsOf_zero_eq_mod v 16
  have htop : bitsOf (regReset PWR_THERM_CFG).toNat 16 16 = (regReset PWR_THERM_CFG).toNat / 2 ^ 16 % 2 ^ 16 := by
    rw [bitsOf, Nat.shiftRight_eq_div_pow]
  have he : e = ((d.storeRw (RegW.full PWR_THERM_CFG v) 0xffffffff).fset PWR_THERM_CFG_CRIT_DC crit).fset PWR_THERM_CFG_WARN_DC
      (max 400 (min (crit - 10) (v % 2 ^ 16))) := by
    have hoff : 0x300000 ≤ (RegW.full PWR_THERM_CFG v).off ∧ (RegW.full PWR_THERM_CFG v).off < 0x380000 := by rw [RegW.full_off]; decide
    have hpeak : (RegW.full PWR_THERM_CFG v).one PWR_THERM_CFG_PEAK_CLEAR = false := by rw [RegW.one_full, bitAt_eq_testBit]; exact hp
    refine (registerWrite_eight (by decide) (by simp [InDpWindow, dpWindow, PWR_THERM_CFG]) rfl (Or.inl hr) hv regAt_thermCfg rfl).trans ?_
    rw [Dev.writeReg_pwr hoff.1 hoff.2, Dev.writePwr, RegW.full_off, if_neg (by decide), if_pos rfl, hpeak]
    show (d.storeRw (RegW.full PWR_THERM_CFG v) 0xffffffff).clampTherm = _
    rw [Dev.clampTherm, hcrit, hwarn, htop]
    rfl
  have hlt : crit < 2 ^ 16 := by omega
  refine ⟨?_, ?_, fun o ho => ?_, ?_⟩
  · rw [he, Dev.fget_fset_ne _ _ _ _ (by decide) (by decide), Dev.fget_fset_self _ _ _ (by decide)]
    exact Nat.mod_eq_of_lt hlt
  · rw [he, Dev.fget_fset_self _ _ _ (by decide)]
    exact Nat.mod_eq_of_lt (show _ < 2 ^ 16 by omega)
  · have ho' : o ≠ PWR_THERM_CFG := by simpa using ho
    rw [he]
    exact (Dev.rget_rset_ne _ ho' _).trans ((Dev.rget_rset_ne _ ho' _).trans (d.rget_storeRw_ne _ _ ho'))
  · rw [he]; rfl

/-! ## The lead of a time step (R324) -/

theorem regAt_stepCfg : regAt TU_STEP_CFG = some ⟨0x30048, [], 0x3fff1fffffff, 0, 0, false⟩ := by decide +kernel

theorem registerWrite_stepCfg {d : Dev} {v : Nat} (hv : v < 2 ^ 64) (hr : d.ready = true) :
    let e := registerWrite TU_STEP_CFG 8 v d
    e.fget TU_STEP_CFG_LEAD_US = max 20 (min 10000 (v % 2 ^ 16)) ∧ RegsBut [TU_STEP_CFG] d e := by
  intro e
  have hlead : (d.storeRw (RegW.full TU_STEP_CFG v) 0x3fff1fffffff).fget TU_STEP_CFG_LEAD_US = v % 2 ^ 16 := by
    rw [d.fget_storeRw_full TU_STEP_CFG v 0x3fff1fffffff TU_STEP_CFG_LEAD_US rfl (by decide) (by decide)]; exact bitsOf_zero_eq_mod v 16
  have hregs : e.regs = ((d.storeRw (RegW.full TU_STEP_CFG v) 0x3fff1fffffff).fset TU_STEP_CFG_LEAD_US (max 20 (min 10000 (v % 2 ^ 16)))).regs := by
    have hoff : 0x30000 ≤ (RegW.full TU_STEP_CFG v).off ∧ (RegW.full TU_STEP_CFG v).off < 0x40000 := by rw [RegW.full_off]; decide
    have he : e = d.writeReg (RegW.full TU_STEP_CFG v) _ :=
      registerWrite_eight (by decide) (by simp [InDpWindow, dpWindow, TU_STEP_CFG]) rfl (Or.inl hr) hv regAt_stepCfg rfl
    rw [he, Dev.writeReg_tu hoff.1 hoff.2, Dev.writeTu, RegW.full_off, if_neg (by decide), if_neg (by decide), if_neg (by decide),
      if_pos rfl, ← hlead]
    split <;> rfl
  have hget : ∀ o, e.rget o = ((d.storeRw (RegW.full TU_STEP_CFG v) 0x3fff1fffffff).fset TU_STEP_CFG_LEAD_US
      (max 20 (min 10000 (v % 2 ^ 16)))).rget o := fun o => by rw [Dev.rget, hregs]; rfl
  refine ⟨?_, fun o ho => ?_⟩
  · rw [Dev.fget, hget]
    exact (Dev.fget_fset_self _ TU_STEP_CFG_LEAD_US _ (by decide)).trans (Nat.mod_eq_of_lt (show _ < 2 ^ 16 by omega))
  · have ho' : o ≠ TU_STEP_CFG := by simpa using ho
    rw [hget]
    exact (Dev.rget_rset_ne _ ho' _).trans (d.rget_storeRw_ne _ _ ho')

/-! ## A register that a chain of updates leaves -/

theorem Dev.rget_fset_ne (d : Dev) (f : Fld) (v : Nat) {o : Nat} (h : o ≠ f.off) : (d.fset f v).rget o = d.rget o :=
  d.rget_rset_ne h _

theorem Dev.rget_bumpBy_ne (d : Dev) (f : Fld) (n : Nat) {o : Nat} (h : o ≠ f.off) : (d.bumpBy f n).rget o = d.rget o :=
  d.rget_rset_ne h _

theorem Dev.rget_fsets_ne (d : Dev) (l : List (Fld × Nat)) {o : Nat} (h : ∀ x ∈ l, o ≠ x.1.off) : (d.fsets l).rget o = d.rget o := by
  induction l generalizing d with
  | nil => rfl
  | cons x l ih =>
    exact (ih (d.fset x.1 x.2) fun y hy => h y (List.mem_cons_of_mem x hy)).trans (d.rget_fset_ne _ _ (h x List.mem_cons_self))

/-- Fields set leave every other field alone. -/
theorem Dev.fget_fsets_ne (d : Dev) (l : List (Fld × Nat)) (f : Fld) (h : ∀ x ∈ l, x.1.lsb + x.1.width ≤ 64 ∧
    (f.off ≠ x.1.off ∨ f.lsb + f.width ≤ x.1.lsb ∨ x.1.lsb + x.1.width ≤ f.lsb)) : (d.fsets l).fget f = d.fget f := by
  induction l generalizing d with
  | nil => rfl
  | cons x l ih =>
    obtain ⟨hw, hx⟩ := h x List.mem_cons_self
    exact (ih (d.fset x.1 x.2) fun y hy => h y (List.mem_cons_of_mem x hy)).trans (d.fget_fset_ne x.1 f x.2 hw hx)

theorem Dev.rget_each {α : Type} (d : Dev) (l : List α) (f : Dev → α → Dev) {o : Nat} (h : ∀ d a, a ∈ l → (f d a).rget o = d.rget o) :
    (d.each l f).rget o = d.rget o := by
  unfold Dev.each
  induction l generalizing d with
  | nil => rfl
  | cons x l ih => exact (ih (f d x) fun e a ha => h e a (List.mem_cons_of_mem x ha)).trans (h d x List.mem_cons_self)

theorem Dev.rget_of_regs {d e : Dev} (h : e.regs = d.regs) (o : Nat) : e.rget o = d.rget o := by rw [Dev.rget, h]; rfl

/-! ## What leaves PL_CFG alone (R376) -/

/-- The offset is not that of a port's PL_CFG. -/
def NotPlCfg (o : Nat) : Prop := ∀ q < 64, PL_CFG q ≠ o

theorem notPlCfg_of {o : Nat} (h : o < 0x100000 ∨ 0x200000 ≤ o ∨ o % 0x4000 ≠ 0) : NotPlCfg o := by
  intro q hq; simp only [PL_CFG, plWin]; omega

section
variable (p k b : Nat)
@[simp] theorem notPlCfg_plStatus : NotPlCfg (PL_STATUS p) := notPlCfg_of (by simp only [PL_STATUS, plWin]; omega)
@[simp] theorem notPlCfg_plSeq : NotPlCfg (PL_SEQ p) := notPlCfg_of (by simp only [PL_SEQ, plWin]; omega)
@[simp] theorem notPlCfg_plTxCnt : NotPlCfg (PL_TX_CNT p) := notPlCfg_of (by simp only [PL_TX_CNT, plWin]; omega)
theorem notPlCfg_plLane {l : Nat} (_ : l < 4) : NotPlCfg (PL_LANE_PRBS p l) ∧ NotPlCfg (PL_LANE_SLIP p l) :=
  ⟨notPlCfg_of (by simp only [PL_LANE_PRBS, plWin]; omega), notPlCfg_of (by simp only [PL_LANE_SLIP, plWin]; omega)⟩
@[simp] theorem notPlCfg_domainStat : NotPlCfg (PWR_DOMAIN_STAT k) := notPlCfg_of (by simp only [PWR_DOMAIN_STAT]; omega)
@[simp] theorem notPlCfg_muStatus : NotPlCfg (BLK_MU_STATUS b) := notPlCfg_of (by simp only [BLK_MU_STATUS, blk]; omega)
theorem notPlCfg_turnMon {k : Nat} (hk : k < 16) : NotPlCfg (FAB_TURN_MON k) := notPlCfg_of (by simp only [FAB_TURN_MON]; omega)
@[simp] theorem notPlCfg_fabStatus : NotPlCfg FAB_STATUS := notPlCfg_of (by decide)
@[simp] theorem notPlCfg_vatStatus : NotPlCfg VAT_STATUS := notPlCfg_of (by decide)
@[simp] theorem notPlCfg_lpxStatus : NotPlCfg LPX_STATUS := notPlCfg_of (by decide)
@[simp] theorem notPlCfg_cqStat : NotPlCfg GLB_CQ_STAT := notPlCfg_of (by decide)
end

/-- Every port's PL_CFG holds what it held. -/
def PlCfgSame (d e : Dev) : Prop := ∀ q < 64, e.rget (PL_CFG q) = d.rget (PL_CFG q)

namespace PlCfgSame

theorem refl (d : Dev) : PlCfgSame d d := fun _ _ => rfl
theorem trans {d e f : Dev} (h : PlCfgSame d e) (g : PlCfgSame e f) : PlCfgSame d f := fun q hq => (g q hq).trans (h q hq)
theorem of_regs {d e : Dev} (h : e.regs = d.regs) : PlCfgSame d e := fun _ _ => Dev.rget_of_regs h _
theorem ite {d e f : Dev} {c : Prop} [Decidable c] (h : PlCfgSame d e) (g : PlCfgSame d f) : PlCfgSame d (if c then e else f) := by
  split
  · exact h
  · exact g
theorem fset (d : Dev) {f : Fld} (v : Nat) (h : NotPlCfg f.off) : PlCfgSame d (d.fset f v) := fun q hq => d.rget_fset_ne f v (h q hq)
theorem bumpBy (d : Dev) {f : Fld} (n : Nat) (h : NotPlCfg f.off) : PlCfgSame d (d.bumpBy f n) := fun q hq => d.rget_bumpBy_ne f n (h q hq)
theorem fsets (d : Dev) {l : List (Fld × Nat)} (h : ∀ x ∈ l, NotPlCfg x.1.off) : PlCfgSame d (d.fsets l) :=
  fun q hq => d.rget_fsets_ne l fun x hx => h x hx q hq
theorem each {α : Type} (d : Dev) {l : List α} {f : Dev → α → Dev} (h : ∀ d a, a ∈ l → PlCfgSame d (f d a)) : PlCfgSame d (d.each l f) :=
  fun q hq => d.rget_each l f fun e a ha => h e a ha q hq

/-! ### Ports -/

theorem alert (d : Dev) (code unit esq port frame detail : Nat) : PlCfgSame d (d.alert code unit esq port frame detail) := by
  unfold Dev.alert Dev.cqMake
  exact ite (ite (bumpBy d 1 notPlCfg_cqStat) (of_regs rfl)) (refl d)

theorem holdTaps (d : Dev) (p : Nat) : PlCfgSame d (d.holdTaps p) := ite (of_regs rfl) (refl d)

theorem leaveTest (d : Dev) (p : Nat) : PlCfgSame d (d.leaveTest p) := by
  refine ite (each d fun e l hl => fsets e ?_) (refl d)
  obtain ⟨hprbs, hslip⟩ := notPlCfg_plLane p (List.mem_range.1 hl)
  simpa [PL_LANE_PRBS_RX_LOCK, PL_LANE_SLIP_SLIP_TOTAL] using ⟨hprbs, hslip⟩

theorem loseCaptures (d : Dev) (p n : Nat) : PlCfgSame d (d.loseCaptures p n) :=
  (bumpBy d _ (notPlCfg_plTxCnt p)).trans (ite (of_regs rfl) (of_regs rfl))

theorem goState (d : Dev) (p st : Nat) : PlCfgSame d (d.goState p st) := by
  delta Dev.goState
  extract_lets d1 x d2 d3
  have h1 : PlCfgSame d d1 := (holdTaps d p).trans (leaveTest _ p)
  have h2 : PlCfgSame d1 d2 := bumpBy d1 _ (notPlCfg_plTxCnt p)
  have h3 : PlCfgSame d2 d3 := of_regs rfl
  have h4 : PlCfgSame d3 (d3.loseCaptures p x.caps.length) := loseCaptures d3 p _
  exact (((h1.trans h2).trans h3).trans h4).trans (fsets _ (by
    simp [PL_SEQ_SEQ_VALID, PL_STATUS_MARGIN_WARN, PL_STATUS_VERSION, PL_STATUS_STATE]))

theorem portDown (d : Dev) (p failState cause : Nat) : PlCfgSame d (d.portDown p failState cause) :=
  ((goState d p psDown).trans (fsets _ (by simp [PL_STATUS_FAIL_STATE, PL_STATUS_FAIL_CAUSE]))).trans (alert _ _ _ _ _ _ _)

theorem startSet (d : Dev) (p : Nat) (single : Bool) : PlCfgSame d (d.startSet p single) := by
  have hattempt : ∀ e : Dev, PlCfgSame e (e.beginAttempt p) := fun e => (of_regs rfl).trans (fset _ _ (notPlCfg_plStatus p))
  exact ((of_regs rfl).trans (fset _ _ (notPlCfg_plStatus p))).trans (hattempt _)

theorem startPort (d : Dev) (p : Nat) : PlCfgSame d (d.startPort p) :=
  ite (goState d p psTest) (ite (portDown d p _ _) (startSet d p false))

theorem followTrainEn (d : Dev) (p : Nat) : PlCfgSame d (d.followTrainEn p) :=
  ite (ite (refl d) (goState d p psOff)) (ite (startPort d p) (refl d))

/-! ### Power domains -/

theorem setPwr (d : Dev) (x : Pwr) : PlCfgSame d { d with pwr := x } := of_regs rfl

theorem trimVolt (d : Dev) (k : Nat) : PlCfgSame d (d.trimVolt k) :=
  ite (refl d) (ite (refl d) (fset d _ (notPlCfg_domainStat k)))

theorem retain (d : Dev) (k : Nat) (v : Bool) : PlCfgSame d (d.retain k v) := each d fun e b _ => fset e _ (notPlCfg_muStatus b)

theorem eraseFabric (d : Dev) (k : Nat) : PlCfgSame d (d.eraseFabric k) := by
  have hblocks : PlCfgSame d (d.each (domainBlocks k) (fun e b => e.zeroSpan (blkMem b) 0x200000)) :=
    each d fun e b _ => of_regs (e.zeroSpan_regs _ _)
  exact hblocks.trans (of_regs (Dev.zeroSpan_regs _ _ _))

theorem setFabric (d : Dev) {k : Nat} (st : Nat) (hk : k < 16) : PlCfgSame d (d.setFabric k st) := by
  delta Dev.setFabric
  extract_lets d1 pwr d2 v d3 d4
  have h1 : PlCfgSame d d1 := eraseFabric d k
  have h2 : PlCfgSame d d2 := ite (h1.trans (setPwr d1 _)) (refl d)
  have h3 : PlCfgSame d2 d3 := (fsets d2 (by simp [PWR_DOMAIN_STAT_STATE, PWR_DOMAIN_STAT_V_MV])).trans (fset _ _ notPlCfg_fabStatus)
  have h4 : PlCfgSame d3 d4 := ite (fset d3 _ (notPlCfg_turnMon hk)) (refl d3)
  have h5 : PlCfgSame d4 (if st = dsOn then d4 else d4.retain k (st == dsLow)) := ite (refl d4) (retain d4 k _)
  exact (((h2.trans h3).trans h4).trans h5).trans (trimVolt _ k)

theorem setDie (d : Dev) (k st : Nat) : PlCfgSame d (d.setDie k st) := by
  delta Dev.setDie
  extract_lets d1
  have h1 : PlCfgSame d d1 := ite (of_regs rfl) (refl d)
  exact h1.trans (fsets d1 (by
    simp [PWR_DOMAIN_STAT_STATE, PWR_DOMAIN_STAT_V_MV, VAT_STATUS_DIE_AWAKE, VAT_STATUS_DIE_RETAINED]))

theorem setOptical (d : Dev) (g st : Nat) : PlCfgSame d (d.setOptical g st) := by
  delta Dev.setOptical
  extract_lets d1 pwr d2
  have h1 : PlCfgSame d d1 := fsets d (by simp [PWR_DOMAIN_STAT_STATE, PWR_DOMAIN_STAT_V_MV])
  have h2 : PlCfgSame d1 d2 := of_regs rfl
  exact h1.trans (ite (of_regs rfl) (h2.trans (each d2 fun e p _ =>
    ite (ite (refl e) (portDown e p _ _)) (ite (refl e) (goState e p psOff)))))

theorem setOther (d : Dev) (k st : Nat) : PlCfgSame d (d.setOther k st) := by
  delta Dev.setOther
  extract_lets d1 d2
  have h1 : PlCfgSame d d1 := fsets d (by simp [PWR_DOMAIN_STAT_STATE, PWR_DOMAIN_STAT_V_MV])
  have h2 : PlCfgSame d1 d2 := ite (of_regs (d1.zeroSpan_regs _ _)) (refl d1)
  exact (h1.trans h2).trans (ite (fset d2 _ notPlCfg_lpxStatus) (refl d2))

theorem setDomain (d : Dev) (k st : Nat) : PlCfgSame d (d.setDomain k st) := by
  unfold Dev.setDomain
  split
  · exact refl d
  · split
    next hk => exact setFabric d st hk
    next => exact ite (setDie d _ st) (ite (setOptical d _ st) (setOther d k st))

theorem domainsFollow (d : Dev) : PlCfgSame d d.domainsFollow :=
  each d fun e k _ => ite (setDomain e k _) (refl e)

end PlCfgSame

/-! ## A port's configuration during a run (R376) -/

theorem regAt_plCfg : ∀ p < 64, regAt (PL_CFG p) = some ⟨0x100000, [(64, 0x4000)], 0xffff7e3ffff800f3, 0, 0, false⟩ := by decide +kernel

@[simp] theorem Dev.take_false (d : Dev) (w : RegW) (f : Fld) (g : Nat → Nat) : d.take w false f g = d := rfl

theorem Dev.take_full (d : Dev) (a v : Nat) (f : Fld) (h0 : 0 < f.width) (h : f.lsb + f.width ≤ 64) :
    d.take (RegW.full a v) true f id = d.fset f (bitsOf v f.lsb f.width) := by
  rw [Dev.take, RegW.touches_full a v f h0 h]; rfl

/-- R376: the fields of a port's PL_CFG that may change in any run state take what is written. -/
def Dev.setLivePlCfg (d : Dev) (p v : Nat) : Dev :=
  d.fsets [(PL_CFG_SRC_ID p, bitsOf v 48 16), (PL_CFG_VERSION_MAX p, bitsOf v 6 2), (PL_CFG_AUTO_RETRY p, bitsOf v 5 1),
    (PL_CFG_TRAIN_EN p, bitsOf v 4 1)]

theorem Dev.fget_setLivePlCfg_ne (d : Dev) (p v : Nat) (f : Fld) (h : f.lsb + f.width ≤ 4 ∨ (8 ≤ f.lsb ∧ f.lsb + f.width ≤ 48)) :
    (d.setLivePlCfg p v).fget f = d.fget f := by
  apply Dev.fget_fsets_ne
  simp only [List.forall_mem_cons, List.not_mem_nil, false_imp_iff, implies_true, and_true, PL_CFG_SRC_ID, PL_CFG_VERSION_MAX,
    PL_CFG_AUTO_RETRY, PL_CFG_TRAIN_EN]
  omega

theorem Dev.fget_setLivePlCfg_version (d : Dev) (p v : Nat) : (d.setLivePlCfg p v).fget (PL_CFG_VERSION_MAX p) = bitsOf v 6 2 := by
  let e := (d.fset (PL_CFG_SRC_ID p) (bitsOf v 48 16)).fset (PL_CFG_VERSION_MAX p) (bitsOf v 6 2)
  have hafter : (d.setLivePlCfg p v).fget (PL_CFG_VERSION_MAX p) = e.fget (PL_CFG_VERSION_MAX p) :=
    e.fget_fsets_ne [(PL_CFG_AUTO_RETRY p, bitsOf v 5 1), (PL_CFG_TRAIN_EN p, bitsOf v 4 1)] (PL_CFG_VERSION_MAX p)
      (by simp [PL_CFG_AUTO_RETRY, PL_CFG_TRAIN_EN, PL_CFG_VERSION_MAX])
  have hself : e.fget (PL_CFG_VERSION_MAX p) = bitsOf v 6 2 % 2 ^ 2 := Dev.fget_fset_self _ (PL_CFG_VERSION_MAX p) _ (by simp [PL_CFG_VERSION_MAX])
  rw [hafter, hself, bitsOf, Nat.mod_mod]

theorem Dev.writePlCfg_live {d : Dev} {p : Nat} (a v : Nat) (hi : d.runState ≠ stIdle) (hl : d.runState ≠ stLoaded)
    (hd : d.runState ≠ stDrained) :
    d.writePlCfg (RegW.full a v) p = ((d.setLivePlCfg p v).domainsFollow).followTrainEn p := by
  have hstill : [stIdle, stLoaded, stDrained].contains d.runState = false := by simp [hi, hl, hd]
  have hidle : (d.runState == stIdle) = false := by simp [hi]
  rw [Dev.writePlCfg, hstill, hidle]
  simp only [Dev.take_false]
  rw [Dev.take_full _ _ _ (PL_CFG_SRC_ID p), Dev.take_full _ _ _ (PL_CFG_VERSION_MAX p), Dev.take_full _ _ _ (PL_CFG_AUTO_RETRY p),
    Dev.take_full _ _ _ (PL_CFG_TRAIN_EN p)]
  · rfl
  all_goals simp [PL_CFG_SRC_ID, PL_CFG_VERSION_MAX, PL_CFG_AUTO_RETRY, PL_CFG_TRAIN_EN]

theorem Dev.writeReg_plCfg (d : Dev) {p : Nat} (v : Nat) (r : RegDesc) (hp : p < 64) :
    d.writeReg (RegW.full (PL_CFG p) v) r = d.writePlCfg (RegW.full (PL_CFG p) v) p := by
  have hoff : 0x100000 ≤ PL_CFG p ∧ PL_CFG p < 0x200000 := by simp only [PL_CFG, plWin]; omega
  have hix : (RegW.full (PL_CFG p) v).index (PL_CFG 0) 0x4000 = p := (RegW.within_index rfl hp (by decide)).2
  rw [Dev.writeReg_pl (by rw [RegW.full_off]; omega) (by rw [RegW.full_off]; omega), Dev.writePl, hix]
  exact if_pos rfl

theorem registerWrite_plCfg_live {d : Dev} {p v : Nat} (hp : p < 64) (hv : v < 2 ^ 64) (hr : d.ready = true) (hi : d.runState ≠ stIdle)
    (hl : d.runState ≠ stLoaded) (hd : d.runState ≠ stDrained) :
    let e := registerWrite (PL_CFG p) 8 v d
    e.fget (PL_CFG_ROLE p) = d.fget (PL_CFG_ROLE p) ∧ e.fget (PL_CFG_PAYLOAD_BYTES p) = d.fget (PL_CFG_PAYLOAD_BYTES p) ∧
      e.flag (PL_CFG_RETRY_EN p) = d.flag (PL_CFG_RETRY_EN p) ∧
      e.fget (PL_CFG_VERSION_MAX p) = bitsOf v (PL_CFG_VERSION_MAX p).lsb (PL_CFG_VERSION_MAX p).width := by
  intro e
  have hoff : PL_CFG p < 2 ^ 26 ∧ ¬ InDpWindow (PL_CFG p) ∧ PL_CFG p % 8 = 0 := by simp only [InDpWindow, dpWindow, PL_CFG, plWin]; omega
  obtain ⟨hb, hw, ha⟩ := hoff
  have he : e = ((d.setLivePlCfg p v).domainsFollow).followTrainEn p :=
    (registerWrite_eight hb hw ha (Or.inl hr) hv (regAt_plCfg p hp) rfl).trans
      ((d.writeReg_plCfg v _ hp).trans (Dev.writePlCfg_live _ v hi hl hd))
  have hsame : PlCfgSame (d.setLivePlCfg p v) e := he ▸ (PlCfgSame.domainsFollow _).trans (PlCfgSame.followTrainEn _ p)
  have hfld : ∀ f : Fld, f.off = PL_CFG p → e.fget f = (d.setLivePlCfg p v).fget f := fun f hf => by
    rw [Dev.fget, hf, hsame p hp, Dev.fget, hf]
  have hkeep : ∀ f : Fld, f.off = PL_CFG p → (f.lsb + f.width ≤ 4 ∨ (8 ≤ f.lsb ∧ f.lsb + f.width ≤ 48)) → e.fget f = d.fget f :=
    fun f hf hbits => (hfld f hf).trans (d.fget_setLivePlCfg_ne p v f hbits)
  refine ⟨hkeep _ rfl (by simp [PL_CFG_ROLE]), hkeep _ rfl (by simp [PL_CFG_PAYLOAD_BYTES]), ?_, ?_⟩
  · rw [Dev.flag, hkeep _ rfl (by simp [PL_CFG_RETRY_EN])]; rfl
  · rw [hfld _ rfl]; exact d.fget_setLivePlCfg_version p v

/-! ## The statement -/

/-- Settles O55, clause by clause: each is what `registerWrite` does at that address, since a well-formed command completes with it. -/
theorem registerWritesByAccess : Obligations.RegisterWritesByAccess := by
  unfold Obligations.RegisterWritesByAccess
  intro s addr size v k d off window aligned responds c sets hb hv hk
  have hb' : addr < 2 ^ 26 + 2 ^ 18 := by omega
  have hstays : registerWrite addr size v d = d → exec c s = .next s := fun h => by
    rw [exec_registerWrite s hb' hv, h]
  have hsets : ∀ f : Fld, f.width = 1 → f.lsb < 64 → registerWrite addr size v d = d.event f → sets f := fun f h1 hl h =>
    does_registerWrite hb' hv (h ▸ d.event_sets f h1 hl)
  refine ⟨fun hw => ?_, fun hw ha => ?_, fun hw ha hr => ?_, fun hw ha hr hat => ?_, fun r hw ha hr hat hc => ?_,
    fun r ha hr hat hc hplain => ?_, fun hr => exec_registerWrite_writeCommands s hv hk hr, fun hr ha hb => ?_, fun hr => ?_, fun w hw => ?_,
    fun hr hp => ?_, fun hr => ?_, fun hr hi hl hd p hp => ?_⟩
  · exact hstays (registerWrite_window hb hw)
  · exact hsets _ rfl (by decide) (registerWrite_badAccess hb hw ha)
  · exact hstays (registerWrite_silent hb hw ha hr)
  · exact hsets _ rfl (by decide) (registerWrite_unmapped hb hw ha hr hat)
  · exact hsets _ rfl (by decide) (registerWrite_cfg hb hw ha hr hat hc)
  · exact does_registerWrite hb' hv (registerWrite_fields hb ha hr hat hc hplain)
  · exact does_registerWrite (by decide) hv (registerWrite_dpCtrl_abort hv hr ha hb)
  · exact does_registerWrite (by decide) hv (registerWrite_dlCfg hv hr)
  · have hw' : 2 ^ 26 + 4 * w < 2 ^ 26 + 2 ^ 18 := by omega
    refine ⟨fun h => ?_, fun h => ?_, fun n hn hwn => ?_⟩
    · refine does_registerWrite hw' hv ?_
      rw [registerWrite_bar2, Dev.bar2Put_word _ h]
      exact ⟨Dev.bar2Word_setBar2 _ _ _, Dev.bar2But_setBar2 _ _ _⟩
    · rw [exec_registerWrite s hw' hv, registerWrite_bar2, Dev.bar2Put_none _ h]
    · subst hwn
      exact ⟨fun h => does_registerWrite hw' hv (registerWrite_bar2_vector_quiet hn h),
        fun h0 hp => does_registerWrite hw' hv (registerWrite_bar2_vector_sends hn h0 hp)⟩
  · exact does_registerWrite (by decide) hv (registerWrite_thermCfg hv hr hp)
  · exact does_registerWrite (by decide) hv (registerWrite_stepCfg hv hr)
  · exact does_registerWrite (by simp only [PL_CFG, plWin]; omega) hv (registerWrite_plCfg_live hp hv hr hi hl hd)

end Sys2Proof.Machine
end
